-- ==== Sys2Proof/Word.lean ====
section
/-! DEFINITION. The word types of the Local Port (10 R178, R179) and saturating counts (00 "Counters"). -/

namespace Sys2Proof

/-- A 16-bit word of the Local Port (R178). -/
abbrev Word := BitVec 16

/-- The 15 data bits of a data word (R179): the word without its parity bit. -/
abbrev Data := BitVec 15

/-- A saturating rise: the count `n` raised by `k` holds at `limit` (00 "Counters"). -/
def satAdd (limit n k : Nat) : Nat := min limit (n + k)

end Sys2Proof
end

