-- ==== Sys2Proof/Syntax.lean ====
section
/-! DEFINITION. The commands of the station: one constructor of `Instr` for each row of spec/opcode_table.json, with the
row's operands, and the types the operands are made of. Operands are plain: a value outside its range can be written down,
and the meaning (or WellFormed.lean) says what becomes of it. -/

namespace Sys2Proof

/-- A volume serial: its six characters, padded on the right with spaces (00 "Identities"). -/
abbrev Serial := List Char

/-- A Request Number: the origin station and a sequence number 1..255 (00 "Identities"). -/
structure ReqNo where
  origin : Nat
  seq : Nat
deriving DecidableEq, Repr

/-- Access of a request (R41). -/
inductive Access
  | read
  | write
deriving DecidableEq, Repr

/-- A side of the bay, toward station n−1 or n+1 (00 "The room and the station's place in it"). -/
inductive Side
  | left
  | right
deriving DecidableEq, Repr

/-- What a request asks for: a named volume or a scratch pool, exactly one of the two (R41). -/
inductive Want
  | volume (v : Serial)
  | pool (p : Nat)
deriving DecidableEq, Repr

/-- A drive on the line: (station, address) or BDRIVE(b, i) (00 "Identities", R20). -/
inductive DriveId
  | own (station address : Nat)
  | boundary (b i : Nat)
deriving DecidableEq, Repr

/-- A shared resource on the line: HATCH(b) or BDRIVE(b, i) (R124). -/
inductive Resource
  | hatch (b : Nat)
  | bdrive (b i : Nat)
deriving DecidableEq, Repr

/-- The position of a drive (R20). -/
inductive DrivePos
  | loc
  | boundary (side : Side) (index : Nat)
deriving DecidableEq, Repr

/-- Failure codes of a request (R63), in the order of its table. -/
inductive FailCode
  | noScratch
  | reelMissing
  | reelRetired
  | noDriveClass
  | ownerBusy
  | serverLost
  | armFault
  | operatorDeclined
  | driveLost
  | standalone
deriving DecidableEq, Repr

/-- Fault reasons that ORDER FAULT may give (R72). -/
inductive FaultReason
  | blocked
  | gripper
  | emptySource
  | occupiedDest
deriving DecidableEq, Repr

/-- Content of an entry cell as LABEL READ reports it (R13). -/
inductive CellContent
  | volume (v : Serial)
  | noLabel
  | empty
deriving DecidableEq, Repr

/-- Content of a slot as SLOT REPORT reports it (R15). -/
inductive SlotContent
  | volume (v : Serial)
  | empty
deriving DecidableEq, Repr

/-- The prompt classes, in the order of R141. -/
inductive PromptClass
  | shelfFetch
  | ringIn
  | entryFull
  | cleanDrive
  | retireReel
  | misplaced
  | armAttention
  | hatchConflict
  | hatchClear
  | doorLong
deriving DecidableEq, Repr

/-- The subject of a prompt (R140). -/
inductive Subject
  | volume (v : Serial)
  | drive (d : Nat)
  | hatch (side : Side)
  | slot (n : Nat)
  | door
deriving DecidableEq, Repr

/-- A panel button (R151). -/
inductive Button
  | ack
  | next
deriving DecidableEq, Repr

/-! ## Message bodies of the Station Line -/

/-- Condition of a station in its PRESENCE (R100). -/
inductive Condition
  | joining
  | active
  | muted
  | doorOpen
  | audit
  | standalone
  | leaving
deriving DecidableEq, Repr

/-- The body of a PRESENCE (R100); `free1` to `free4` are the four free-drive counts. -/
structure PresenceBody where
  condition : Condition
  period : Nat
  free1 : Nat
  free2 : Nat
  free3 : Nat
  free4 : Nat
  queueRoom : Nat
  leftHatch : Bool
  rightHatch : Bool
  accepts : Bool
deriving DecidableEq, Repr

/-- The body of a SEEK (R103). -/
structure SeekBody where
  req : ReqNo
  want : Want
  access : Access
  classWish : Option Nat
deriving DecidableEq, Repr

/-- Status of a HAVE (R104). -/
inductive HaveStatus
  | home
  | grace
  | onDrive
  | inGripper
  | inHatch
  | atEntry
  | visiting
  | missing
  | busy
deriving DecidableEq, Repr

/-- The body of a HAVE (R103). -/
structure HaveBody where
  req : ReqNo
  volume : Serial
  status : HaveStatus
  cls : Nat
  ring : Bool
  retired : Bool
  freeDrive : Bool
deriving DecidableEq, Repr

/-- The body of a PLACE (R103); `minutes` 0 is no deadline. -/
structure PlaceBody where
  target : Nat
  req : ReqNo
  want : Want
  reel : Serial
  reelClass : Nat
  access : Access
  classWish : Option Nat
  priority : Nat
  account : Nat
  minutes : Nat
  late : Bool
  hop : Nat
  viaHatch : Bool
  promptAcks : Nat
deriving DecidableEq, Repr

/-- The body of a PLACED (R103). -/
structure PlacedBody where
  target : Nat
  req : ReqNo
deriving DecidableEq, Repr

/-- Reasons of a REFUSED (R103). -/
inductive RefuseReason
  | noRoom
  | notHere
  | retired
  | noDrive
  | door
  | unavailable
deriving DecidableEq, Repr

/-- The body of a REFUSED (R103). -/
structure RefusedBody where
  target : Nat
  req : ReqNo
  reason : RefuseReason
deriving DecidableEq, Repr

/-- Event and detail of an OUTCOME (R103). -/
inductive OutcomeEvent
  | mounted (drive : DriveId)
  | failed (code : FailCode)
  | dismounted (errors : Nat)
  | cancelled
  | moved (station : Nat)
deriving DecidableEq, Repr

/-- The body of an OUTCOME (R103). -/
structure OutcomeBody where
  req : ReqNo
  event : OutcomeEvent
deriving DecidableEq, Repr

/-- Kind of a RELEASE with its error count; also the Release field of a proxy (R41, R103). -/
inductive ReleaseKind
  | dismount (errors : Nat)
  | cancel
deriving DecidableEq, Repr

/-- The body of a RELEASE (R103). -/
structure ReleaseBody where
  server : Nat
  req : ReqNo
  kind : ReleaseKind
deriving DecidableEq, Repr

/-- The body of an ASK (R103). -/
structure AskBody where
  server : Nat
  req : ReqNo
deriving DecidableEq, Repr

/-- State and detail of a STATE (R103). -/
inductive StateAnswer
  | pending
  | mounted (drive : DriveId)
  | moved (station : Nat)
  | unknown
deriving DecidableEq, Repr

/-- The body of a STATE (R103). -/
structure StateBody where
  req : ReqNo
  answer : StateAnswer
deriving DecidableEq, Repr

/-- The body of a HOLD (R125). -/
structure HoldBody where
  resource : Resource
  dispute : Bool
  busy : Bool
deriving DecidableEq, Repr

/-- The body of a YIELD (R125); `cradle` none is EMPTY. -/
structure YieldBody where
  resource : Resource
  cradle : Option Serial
deriving DecidableEq, Repr

/-- The body of a HANDOFF (R125); `pool` 0 is none, `req` none is sequence 0. -/
structure HandoffBody where
  boundary : Nat
  volume : Serial
  cls : Nat
  ring : Bool
  retired : Bool
  pool : Nat
  passes : Nat
  errors : Nat
  home : Nat
  req : Option ReqNo
deriving DecidableEq, Repr

/-! ## Local Port transfers and the operands of host commands -/

/-- What an accepted transfer carries beside its command's fields (R179): the Heartbeat bit, the Part of the reply
asked (0..7) and the count of data words (0..15). -/
structure Xfer where
  heartbeat : Bool
  part : Nat
  count : Nat
deriving DecidableEq, Repr

/-- The fields of LOAD REEL (R17); an enumeration that is no place of its list is `none`, a pool of 0 is absent. -/
structure LoadReelArgs where
  volume : Serial
  slot : Nat
  cls : Nat
  ring : Option Bool
  pool : Nat
  passes : Nat
  errors : Nat
  retired : Option Bool
deriving DecidableEq, Repr

/-- The fields of MOUNT (R45); an enumeration that is no place of its list is `none`. -/
structure MountArgs where
  jobTag : Nat
  volume : Option Serial
  pool : Option Nat
  access : Option Access
  classWish : Option Nat
  priority : Nat
  account : Nat
  minutes : Option Nat
deriving DecidableEq, Repr

/-- The commands of the station, one for each row of spec/opcode_table.json, in its order. -/
inductive Instr
  | powerOnReset
  | setStartup (x : Xfer) (field : Nat) (value : Option Nat)
  | loadDrive (x : Xfer) (address cls : Nat) (position : Option DrivePos)
  | loadReel (x : Xfer) (a : LoadReelArgs)
  | start (x : Xfer)
  | mount (x : Xfer) (a : MountArgs)
  | dismount (x : Xfer) (r : ReqNo) (errors : Nat)
  | cancel (x : Xfer) (r : ReqNo)
  | queryRequest (x : Xfer) (r : ReqNo)
  | takeOrder (x : Xfer)
  | orderDone (x : Xfer) (number : Nat) (ring : Option Bool)
  | orderFault (x : Xfer) (number : Nat) (reason : Option FaultReason)
  | labelRead (x : Xfer) (cell : Nat) (content : Option CellContent)
  | slotReport (x : Xfer) (slot : Nat) (content : Option SlotContent)
  | endAudit (x : Xfer)
  | driveOffline (x : Xfer) (address : Nat)
  | driveOnline (x : Xfer) (address : Nat)
  | readReel (x : Xfer) (volume : Option Serial) (slot cell : Option Nat)
  | readDrive (x : Xfer) (address : Nat)
  | takeSession (x : Xfer)
  | readAccount (x : Xfer) (account : Nat)
  | clearAccount (x : Xfer) (account : Nat)
  | readBands (x : Xfer)
  | readLost (x : Xfer)
  | readLine (x : Xfer) (station : Option Nat)
  | clearRetry (x : Xfer)
  | takeReport (x : Xfer)
  | readStatus (x : Xfer)
  | resume (x : Xfer)
  | restart (x : Xfer)
  | undefinedCommandCode (x : Xfer) (code : Nat)
  | faultedTransfer
  | silenceTimerExpiry
  | buttonPress (b : Button)
  | ackShort
  | ackLong
  | nextShort
  | nextLong
  | doorChange (isOpen : Bool)
  | doorLimitExpiry
  | secondTick
  | graceExpiry (drive : Nat)
  | cleaningEnd (drive : Nat)
  | deadlinePassed (r : ReqNo)
  | hopExpiry (r : ReqNo)
  | forwardCheck (r : ReqNo)
  | promptAgeEscalation (cls : PromptClass) (subject : Subject)
  | staleTimerExpiry
  | reservationExpiry (volume : Serial)
  | orderSlow
  | orderTimeout
  | retryPauseEnd
  | settleEnd (cls : PromptClass) (subject : Subject)
  | frameSendStart
  | contentionLost
  | transmitFault
  | attemptWitnessed
  | attemptUnwitnessed
  | detachedRecovery
  | badFrame
  | brokenOffFrame
  | presenceHeard (sender : Nat) (b : PresenceBody)
  | peerAbsent (station : Nat)
  | presenceTimerExpiry
  | seekHeard (sender : Nat) (b : SeekBody)
  | haveHeard (sender : Nat) (b : HaveBody)
  | windowClose (r : ReqNo)
  | settleReseek (r : ReqNo)
  | placeHeard (sender : Nat) (b : PlaceBody)
  | viaHatchPlaceHeard (sender : Nat) (b : PlaceBody)
  | placedHeard (sender : Nat) (b : PlacedBody)
  | refusedHeard (sender : Nat) (b : RefusedBody)
  | placeWaitEnd (r : ReqNo)
  | followUpWaitEnd (r : ReqNo)
  | hopPlaceWaitEnd (r : ReqNo)
  | outcomeHeard (sender : Nat) (b : OutcomeBody)
  | releaseHeard (sender : Nat) (b : ReleaseBody)
  | askHeard (sender : Nat) (b : AskBody)
  | stateHeard (sender : Nat) (b : StateBody)
  | holdHeard (sender : Nat) (b : HoldBody)
  | yieldHeard (sender : Nat) (b : YieldBody)
  | handoffHeard (sender : Nat) (b : HandoffBody)
  | listenTimerExpiry
  | resetRelease
deriving DecidableEq, Repr

end Sys2Proof
end

