-- ==== Sys2Proof/Decode.lean ====
section
/-! DEFINITION. From bits to commands. The opcode table gives no row any bits, so a word of the table spells no command. The bit
layout the spec does give to commands, a transfer of the Local Port, is read here (R178 to R180; log entries 5, 6). -/

namespace Sys2Proof

/-- The command that a word spells by the bits of spec/opcode_table.json: the table gives none. -/
def decodeTableWord (_nbits _w : Nat) : Option Instr := none

/-! ## The words of a transfer (R178, R179) -/

/-- The number of ones of some bits. -/
def countOnes (l : List Bool) : Nat := (l.filter fun b => b).length

/-- The number that bits spell, the most significant first. -/
def bitsToNat (l : List Bool) : Nat := l.foldl (fun n b => 2 * n + b.toNat) 0

/-- The 16-bit words of some bits, in order; a rest shorter than 16 bits is left out. -/
def wordsOf : Nat → List Bool → List (List Bool)
  | 0, _ => []
  | k + 1, l => l.take 16 :: wordsOf k (l.drop 16)

/-- The data bits of a word: the word without its parity bit (R179). -/
def dataBits (w : List Bool) : Nat := bitsToNat w / 2

/-- The count that a command word carries (R179). -/
def wordCount (w : List Bool) : Nat := bitsToNat w / 16 % 16

/-- A transfer is accepted: whole words, each of odd parity, as many as its command word says (R178). -/
def transferOk (bits : List Bool) : Bool :=
  let ws := wordsOf (bits.length / 16) bits
  decide (bits.length % 16 = 0) && (ws.all fun w => decide (countOnes w % 2 = 1)) &&
    match ws with
    | [] => false
    | c :: rest => decide (rest.length = wordCount c)

/-! ## Fields (R180) -/

/-- The data of word `i`, 0 beyond the last; a transfer too short is refused by its command (R180). -/
abbrev Words := List Nat

/-- One word. -/
def Words.at (d : Words) (i : Nat) : Nat := d.getD i 0

/-- A number of two words, the most significant first. -/
def Words.two (d : Words) (i : Nat) : Nat := d.at i * 32768 + d.at (i + 1)

/-- Two characters of a word. -/
def twoChars (n : Nat) : List Char := [Char.ofNat (n / 128), Char.ofNat (n % 128)]

/-- A volume serial of three words; zeros are an absent one. -/
def Words.serial (d : Words) (i : Nat) : Option Serial :=
  if d.at i = 0 ∧ d.at (i + 1) = 0 ∧ d.at (i + 2) = 0 then none
  else some (twoChars (d.at i) ++ twoChars (d.at (i + 1)) ++ twoChars (d.at (i + 2)))

/-- A serial that is not optional. -/
def Words.volume (d : Words) (i : Nat) : Serial := (d.serial i).getD []

/-- A place of a list, counted from 1. -/
def pick {α : Type} (l : List α) (place : Nat) : Option α := if place = 0 then none else l[place - 1]?

/-- An optional number that is never zero. -/
def Words.opt (d : Words) (i : Nat) : Option Nat := if d.at i = 0 then none else some (d.at i)

/-- An optional number behind its presence word: any word but 0 says that it is present (R180; log entry 82). -/
def Words.pres (d : Words) (i : Nat) (v : Nat) : Option Nat := if d.at i = 0 then none else some v

/-- A request number. -/
def Words.req (d : Words) (i : Nat) : ReqNo := { origin := d.at i, seq := d.at (i + 1) }

/-- The positions of a drive, in the order of R20. -/
def positions : List DrivePos := [.loc, .boundary .left 0, .boundary .left 1, .boundary .right 0, .boundary .right 1]

/-- The fault reasons, in the order of R72. -/
def reasons : List FaultReason := [.blocked, .gripper, .emptySource, .occupiedDest]

/-- The content of LABEL READ: volume, NO_LABEL, EMPTY (R13). -/
def Words.cellContent (d : Words) : Option CellContent := pick [.volume (d.volume 2), .noLabel, .empty] (d.at 1)

/-- The content of SLOT REPORT: volume, EMPTY (R15). -/
def Words.slotContent (d : Words) : Option SlotContent := pick [.volume (d.volume 2), .empty] (d.at 1)

/-- The fields of LOAD REEL (R17). -/
def Words.loadReel (d : Words) : LoadReelArgs where
  volume := d.volume 0
  slot := d.at 3
  cls := d.at 4
  ring := pick [true, false] (d.at 5)
  pool := d.at 6
  passes := d.two 7
  errors := d.at 9
  retired := pick [true, false] (d.at 10)

/-- The fields of MOUNT (R45). -/
def Words.mount (d : Words) : MountArgs where
  jobTag := d.two 0
  volume := d.serial 2
  pool := d.opt 5
  access := pick [.read, .write] (d.at 6)
  classWish := d.opt 7
  priority := d.at 8
  account := d.at 9
  minutes := d.opt 10

/-- The command of a code, with its fields: the code is its row in the table of R190. -/
def commandOf (code : Nat) (x : Xfer) (d : Words) : Instr :=
  match code with
  | 1 => .setStartup x (d.at 0) (d.pres 1 (d.two 2))
  | 2 => .loadDrive x (d.at 0) (d.at 1) (pick positions (d.at 2))
  | 3 => .loadReel x d.loadReel
  | 4 => .start x
  | 5 => .mount x d.mount
  | 6 => .dismount x (d.req 0) (d.at 2)
  | 7 => .cancel x (d.req 0)
  | 8 => .queryRequest x (d.req 0)
  | 9 => .takeOrder x
  | 10 => .orderDone x (d.at 0) (pick [true, false] (d.at 1))
  | 11 => .orderFault x (d.at 0) (pick reasons (d.at 1))
  | 12 => .labelRead x (d.at 0) d.cellContent
  | 13 => .slotReport x (d.at 0) d.slotContent
  | 14 => .endAudit x
  | 15 => .driveOffline x (d.at 0)
  | 16 => .driveOnline x (d.at 0)
  | 17 => .readReel x (d.serial 0) (d.pres 3 (d.at 4)) (d.pres 5 (d.at 6))
  | 18 => .readDrive x (d.at 0)
  | 19 => .takeSession x
  | 20 => .readAccount x (d.at 0)
  | 21 => .clearAccount x (d.at 0)
  | 22 => .readBands x
  | 23 => .readLost x
  | 24 => .readLine x (d.pres 0 (d.at 1))
  | 25 => .clearRetry x
  | 26 => .takeReport x
  | 27 => .readStatus x
  | 28 => .resume x
  | 29 => .restart x
  | _ => .undefinedCommandCode x code

/-- The command that a transfer is, by the bits taken from SDI: none when SCS rose before any bit (R178). -/
def decodeTransfer (bits : List Bool) : Option Instr :=
  if bits = [] then none
  else if transferOk bits then
    match wordsOf (bits.length / 16) bits with
    | [] => none
    | c :: rest =>
      let n := bitsToNat c
      some (commandOf (n / 256 % 128) { heartbeat := decide (1 ≤ n / 32768), part := n / 2 % 8, count := n / 16 % 16 } (rest.map dataBits))
  else some .faultedTransfer

end Sys2Proof
end

