-- ==== Sys2Proof/Config.lean ====
section
/-! DEFINITION. What the part fixes for every station: the sizes of its tables and queues and the limits of its counters.
One value is left open by the spec and is a free value here: `foreignYield`. -/

namespace Sys2Proof.Config

/-- Entries of the Reel Table (R1). -/
def reelTableSize : Nat := 600
/-- Cells of the Entry Port (R12). -/
def entryCells : Nat := 4
/-- Records of the Mount Queue (R40). -/
def mountQueueSize : Nat := 32
/-- Moves of the Arm Order Queue (R67). -/
def armQueueSize : Nat := 8
/-- The value at which the Arm Retry Counter stands (R73). -/
def retryLimit : Nat := 16
/-- Messages of the Transmit Queue (R89). -/
def transmitQueueSize : Nat := 16
/-- Attempts of one message (R88). -/
def maxAttempts : Nat := 4
/-- Limit of the Line Fault Score (R91). -/
def scoreLimit : Nat := 127
/-- Good frames that end DETACHED (R94). -/
def recoveryFrames : Nat := 32
/-- Place Attempts at which a request fails OWNER_BUSY (R112). -/
def placeAttemptLimit : Nat := 8
/-- Records of the Moved List (R121). -/
def movedListSize : Nat := 8
/-- Prompts of the Prompt List, and causes of the Deferred Causes (R140, R143). -/
def promptListSize : Nat := 16
/-- Links of one prompt (R140). -/
def linkListSize : Nat := 4
/-- Records of the Closed Session Queue (R173). -/
def closedQueueSize : Nat := 48
/-- Reports of the Report Queue (R187). -/
def reportQueueSize : Nat := 32
/-- Error count at which a reel is retired (R10). -/
def retireErrors : Nat := 32
/-- Limits of the counters (00 "Counters", R1, R20, R162). -/
def max8 : Nat := 255
def max16 : Nat := 65535
def max24 : Nat := 16777215
def max32 : Nat := 4294967295
/-- Consequences worked off inside one command, at most (log entry 4). -/
def settleFuel : Nat := 10000

/-- FREE VALUE: the Cradle that a YIELD carries while the station's Cradle is FOREIGN, a reel it cannot name. R129 says that
the YIELD carries the Cradle as the station knows it, and R125 gives it no way to say FOREIGN (log entry 28). -/
opaque foreignYield : Option (List Char)

end Sys2Proof.Config
end

