-- ==== Sys2Proof/Machine/State.lean ====
section
/-! DEFINITION. The state of the station: everything the spec gives it, as plain data, unit by unit in the order of its
chapters, and the state after power-on reset. Times "in milliseconds of the reference clock" are held as absolute times of
`Sys.clock` (log entry 2). -/

namespace Sys2Proof.Machine

/-! ## Faults and refusals -/

/-- Why a command stops the machine. No command of this block does (INVENTORY.md, Faults), so there is no constructor. -/
inductive Fault
deriving DecidableEq, Repr

/-- Why a command has no meaning. -/
inductive Refusal
  /-- Raised by an arm of exec whose command has no meaning in the model yet; safe. No arm raises it. -/
  | notModelled (mnemonic : String)
deriving DecidableEq, Repr

/-! ## Modes and configuration -/

/-- Station modes (00 "Station modes"). -/
inductive Mode
  | init
  | joining
  | active
  | standalone
deriving DecidableEq, Repr

/-- The Start-Up Block, field by field in the order of R193; the Line Rate is in tens of bit/s. -/
structure StartUp where
  stationNumber : Nat
  slotCount : Nat
  leftHatch : Bool
  rightHatch : Bool
  lineRate : Nat
  presencePeriod : Nat
  seekWindow : Nat
  gracePeriod : Nat
  promptSettle : Nat
  escalateTime : Nat
  doorLimit : Nat
  b1 : Nat
  b2 : Nat
  b3 : Nat
  rate0 : Nat
  rate1 : Nat
  rate2 : Nat
  rate3 : Nat
  mountFee : Nat
  ringFee : Nat
  operatorFee : Nat
  transferFee : Nat
  retireLimit : Nat
  cleanLimit : Nat
  cleaningTime : Nat
  expSlotDrive : Nat
  expSlotHatch : Nat
  expEntryAny : Nat
  expDriveHatch : Nat
  slowMargin : Nat
  retryPause : Nat
  retryUnlimited : Bool
  silenceLimit : Nat
  sessionStaleTime : Nat
  sessionWatermark : Nat
  longPress : Nat
  hopTimeout : Nat
  forwardCheckInterval : Nat
deriving DecidableEq, Repr

/-- The Power-on column of R193. -/
def StartUp.powerOn : StartUp where
  stationNumber := 0
  slotCount := 512
  leftHatch := false
  rightHatch := false
  lineRate := 6250
  presencePeriod := 4
  seekWindow := 200
  gracePeriod := 30
  promptSettle := 5
  escalateTime := 10
  doorLimit := 10
  b1 := 2
  b2 := 4
  b3 := 6
  rate0 := 600
  rate1 := 800
  rate2 := 1000
  rate3 := 1500
  mountFee := 1000
  ringFee := 250
  operatorFee := 500
  transferFee := 750
  retireLimit := 5000
  cleanLimit := 500
  cleaningTime := 90
  expSlotDrive := 20
  expSlotHatch := 25
  expEntryAny := 30
  expDriveHatch := 20
  slowMargin := 50
  retryPause := 5
  retryUnlimited := false
  silenceLimit := 5
  sessionStaleTime := 15
  sessionWatermark := 32
  longPress := 1500
  hopTimeout := 120
  forwardCheckInterval := 30

/-- Mode, configuration, reference clock and start-up timers. -/
structure Sys where
  mode : Mode
  startup : StartUp
  /-- milliseconds of the reference clock (the model's own origin, log entry 26) -/
  clock : Nat
  /-- the RESET input is low (R192) -/
  resetHeld : Bool
  /-- expiry of the Listen timer (R196) -/
  listenEnd : Option Nat
  /-- a RESTART has been taken and its LEAVING PRESENCE has not ended (R198) -/
  restartPending : Bool
deriving DecidableEq, Repr

/-! ## Inventory Unit (chapter 1) -/

/-- Home of a reel (R1). -/
inductive Home
  | here
  | station (n : Nat)
deriving DecidableEq, Repr

/-- Reel state with its location detail (R4). A visiting entry is in the state VISITING, and this field gives its
sub-location (ON_DRIVE, IN_GRIPPER or IN_HATCH). -/
inductive ReelState
  | home
  | inGripper
  | onDrive (d : Nat)
  | inHatch (side : Side)
  | atEntry (c : Nat)
  | away (station : Nat)
  | missing
deriving DecidableEq, Repr

/-- Kind of a Reservation (R7); an expiry time is in milliseconds of the reference clock. -/
inductive ReservKind
  | timed (expiry : Nat)
  | held
deriving DecidableEq, Repr

/-- A Reservation (R7). -/
structure Reservation where
  req : ReqNo
  kind : ReservKind
deriving DecidableEq, Repr

/-- An entry of the Reel Table (R1). -/
structure Entry where
  volume : Serial
  home : Home
  slot : Option Nat
  cls : Nat
  ring : Bool
  pool : Option Nat
  passes : Nat
  errors : Nat
  retired : Bool
  unrecorded : Bool
  exitPending : Bool
  state : ReelState
  reservation : Option Reservation
deriving DecidableEq, Repr

/-- Purpose of an EXPECTING cell (R12). -/
inductive CellPurpose
  | shelf
  | ring
  | retire
  | ret
deriving DecidableEq, Repr

/-- State of an entry cell (R12); `occupied none` is NO_LABEL. -/
inductive CellState
  | empty
  | occupied (content : Option Serial)
  | expecting (volume : Serial) (purpose : CellPurpose)
deriving DecidableEq, Repr

/-- The bay condition (R14). -/
inductive Bay
  | normal
  | doorOpen
  | audit
deriving DecidableEq, Repr

/-- The Inventory Unit. -/
structure Inv where
  entries : List Entry
  cells : List CellState
  /-- pending hatch arrival reservations, by request (R3) -/
  hatchArrivals : List ReqNo
  bay : Bay
  /-- waiting ENTRY_IN moves with no request, by volume (R67, R68) -/
  entryInWaits : List Serial
  /-- reels whose ENTRY_IN with no request failed and is to be asked again (R75) -/
  entryInFailed : List Serial
  /-- reels put away to a cell because their slot was occupied, whose ENTRY_IN waits for the slot's MISPLACED prompt (R76) -/
  slotWaits : List Serial
deriving DecidableEq, Repr

/-! ## Accounting data kept in other records (chapter 9) -/

/-- An open session (R162). -/
structure Session where
  req : ReqNo
  account : Nat
  volume : Serial
  drive : DriveId
  start : Nat
  t0 : Nat
  t1 : Nat
  t2 : Nat
  t3 : Nat
  write : Bool
  hopped : Bool
  remount : Bool
  timeSaturated : Bool
deriving DecidableEq, Repr

/-! ## Drive Unit (chapter 2) -/

/-- Drive states (R23). -/
inductive DriveState
  | empty
  | reserved
  | loading
  | mounted
  | grace
  | idleLoaded
  | cleaning
  | offline
deriving DecidableEq, Repr

/-- Serving request of a drive (R20). -/
inductive Serving
  | request (r : ReqNo)
  | cleaning
deriving DecidableEq, Repr

/-- A drive record (R20). -/
structure Drive where
  address : Nat
  cls : Nat
  position : DrivePos
  state : DriveState
  loaded : Option Serial
  serving : Option Serving
  graceExpiry : Option Nat
  cleaningEnd : Option Nat
  cleaningReel : Option Serial
  cleanDue : Bool
  mounts : Nat
  mountedSeconds : Nat
  passesSince : Nat
  cleanings : Nat
  /-- the open session that names the drive (R162) -/
  session : Option Session
  /-- Station Time of the CLEAN move's completed PUT (R165) -/
  cleaningStart : Option Nat
  /-- the STOW or RETURN is not yet asked: its move failed, or the station awaits ACTIVE after a RESTART (R27); for an EMPTY drive, its
  CLEAN move failed (R25; log entry 83) -/
  parked : Bool
deriving DecidableEq, Repr

/-- The Drive Unit. -/
structure Drv where
  drives : List Drive
  remountsSaved : Nat
  graceYielded : Nat
deriving DecidableEq, Repr

/-! ## Arm Dispatcher (chapter 4): the kinds come first because request records name one -/

/-- Kinds of a move (R66). -/
inductive MoveKind
  | mount
  | stow
  | ret
  | hopOut
  | takeIn
  | clean
  | retireOut
  | ringOut
  | entryIn
deriving DecidableEq, Repr

/-- Arm order location (00 "Identities"). -/
inductive Loc
  | slot (n : Nat)
  | drive (d : Nat)
  | hatch (side : Side)
  | entry (c : Nat)
deriving DecidableEq, Repr

/-- Stages of a move (R66). -/
inductive Stage
  | queued
  | get
  | putNext
  | put
  | ended
deriving DecidableEq, Repr

/-- A move (R66). -/
structure Move where
  kind : MoveKind
  req : Option ReqNo
  volume : Serial
  source : Loc
  dest : Loc
  purpose : Option CellPurpose
  stage : Stage
  entered : Nat
  /-- the priority taken from the serving request, or 8 (R67) -/
  priority : Nat
  /-- the PUT has been redirected after a PUT that failed (R75) -/
  afterFailure : Bool
deriving DecidableEq, Repr

/-- GET or PUT (R70). -/
inductive OrderKind
  | get
  | put
deriving DecidableEq, Repr

/-- Route kinds (R66), in the order of R71's table. -/
inductive Route
  | slotDrive
  | slotHatch
  | entryAny
  | driveHatch
deriving DecidableEq, Repr

/-- The order in flight, which is the Order Slot's content (R70). Elapsed is `counted` plus the reference clock run since
`runFrom`; while it does not advance (not taken, or the door open) `runFrom` is absent (R71). -/
structure Order where
  number : Nat
  kind : OrderKind
  loc : Loc
  volume : Serial
  route : Route
  taken : Bool
  counted : Nat
  runFrom : Option Nat
  slow : Bool
deriving DecidableEq, Repr

/-- The Arm Dispatcher. -/
structure Arm where
  queue : List Move
  current : Option Move
  inFlight : Option Order
  /-- end of the retry pause (R73) -/
  retryEnd : Option Nat
  retryCounter : Nat
  stale : Nat
  lastOrder : Nat
deriving DecidableEq, Repr

/-! ## Request Manager and Peer Exchange (chapters 3 and 6) -/

/-- Roles of a request record (R40). -/
inductive Role
  | own
  | proxy
  | takenIn
deriving DecidableEq, Repr

/-- Request states (R43). -/
inductive ReqState
  | waiting
  | locating
  | standby
  | claiming
  | hopping
  | moving
  | operator
  | mounted
  | forwarded
  | remoteMounted
  | cancelling
deriving DecidableEq, Repr

/-- Exchange Phase (R106). -/
inductive Phase
  | none
  | seeking
  | window
  | placing
  | followUp
  | hopPlacing
deriving DecidableEq, Repr

/-- Follow-up (R106). -/
inductive FollowUp
  | placeAgain
  | seekAgain
deriving DecidableEq, Repr

/-- An answer of the Answer List (R106). -/
structure Answer where
  station : Nat
  body : HaveBody
deriving DecidableEq, Repr

/-- Cause Detail of ENTRY_FULL (R140). -/
inductive EntryFullDetail
  | cell
  | noSlot (c : Nat)
deriving DecidableEq, Repr

/-- Cause of Prompt Pending (R41); with PROMPT, the cause that is tried again (R56). -/
inductive PendCause
  | cell
  | prompt (cls : PromptClass) (subject : Subject) (detail : Option EntryFullDetail)
deriving DecidableEq, Repr

/-- A request record (R41, R106). -/
structure Request where
  req : ReqNo
  role : Role
  jobTag : Nat
  want : Want
  reel : Option Serial
  access : Access
  classWish : Option Nat
  reelClass : Option Nat
  priority : Nat
  account : Nat
  deadline : Option Nat
  late : Bool
  state : ReqState
  server : Option Nat
  hop : Nat
  drive : Option Nat
  promptAcks : Nat
  placeAttempts : Nat
  promptPending : Option PendCause
  ackHeld : Bool
  cancelPending : Bool
  lineWait : Bool
  skipLeft : Bool
  skipRight : Bool
  hopExpiry : Option Nat
  release : Option ReleaseKind
  entered : Nat
  phase : Phase
  windowEnd : Option Nat
  answers : List Answer
  placeTarget : Option Nat
  waitEnd : Option Nat
  followUp : Option FollowUp
  settleReseek : Bool
  forwardDue : Option Nat
  releaseUnsent : Bool
  /-- a LOCATED report has been queued (R64, once per request) -/
  located : Bool
  /-- the kind of the request's move that waits for room in the Arm Order Queue (R49, R68) -/
  roomWait : Option MoveKind
  /-- sender-side HOPPING: the receiving neighbour (R51) -/
  hopTo : Option Nat
  /-- a plain PLACE to `placeTarget` waits for the line (R110) -/
  placeWait : Bool
  /-- the PLACE to `placeTarget` went without an answer (R113; log entry 64) -/
  unanswered : Bool
  /-- a via-hatch PLACE went to the left neighbour, and no plain PLACE has gone there since (R120; log entry 70) -/
  triedLeft : Bool
  /-- the same of the right neighbour (R120; log entry 70) -/
  triedRight : Bool
  /-- the millisecond at which the settle re-seek is due (R109) -/
  reseekDue : Option Nat
deriving DecidableEq, Repr

/-- The Request Manager. -/
structure Rm where
  queue : List Request
  lastSeq : Nat
deriving DecidableEq, Repr

/-- The Peer Exchange's own state (R103, R121). -/
structure Px where
  stray : Nat
  moved : List (ReqNo × Nat)
deriving DecidableEq, Repr

/-! ## Line Controller (chapter 5) -/

/-- Line states (R92, R96). -/
inductive LineState
  | listen
  | clear
  | caution
  | muted
  | detached
  | duplicate
deriving DecidableEq, Repr

/-- Message kinds in the order of their numbers (R83). -/
inductive MsgKind
  | yield
  | handoff
  | hold
  | presence
  | outcome
  | placed
  | refused
  | state
  | release
  | seek
  | have_
  | place
  | ask
deriving DecidableEq, Repr

/-- A line message: its kind with its body (R83, R89). -/
inductive Msg
  | yield (b : YieldBody)
  | handoff (b : HandoffBody)
  | hold (b : HoldBody)
  | presence (b : PresenceBody)
  | outcome (b : OutcomeBody)
  | placed (b : PlacedBody)
  | refused (b : RefusedBody)
  | state (b : StateBody)
  | release (b : ReleaseBody)
  | seek (b : SeekBody)
  | have_ (b : HaveBody)
  | place (b : PlaceBody)
  | ask (b : AskBody)
deriving DecidableEq, Repr

/-- Which PRESENCE a queued message is: the ordinary one, the one with Condition JOINING (R94, R196), or the LEAVING one of
a RESTART (R102). -/
inductive PresTag
  | plain
  | joining
  | leaving
deriving DecidableEq, Repr

/-- A message of the Transmit Queue (R89). -/
structure TxMsg where
  msg : Msg
  attempts : Nat
  /-- its frame is on the line (R86) -/
  onLine : Bool
  /-- a withdrawal waits for the attempt to end (R89) -/
  withdrawn : Bool
  tag : PresTag
deriving DecidableEq, Repr

/-- Why a message is Undelivered (R90). -/
inductive UndelCause
  | attempts
  | queueFull
  | notPermitted
  | detached
  | duplicate
deriving DecidableEq, Repr

/-- Roster states (R98). -/
inductive RosterState
  | unknown
  | present
  | absent
deriving DecidableEq, Repr

/-- An entry of the Peer Roster (R98). -/
structure RosterEntry where
  state : RosterState
  presence : Option PresenceBody
  lastHeard : Option Nat
  /-- expiry of the absence timer -/
  absentAt : Option Nat
deriving DecidableEq, Repr

/-- The Line Controller. -/
structure Line where
  txq : List TxMsg
  state : LineState
  score : Nat
  errors : Nat
  errOverflow : Bool
  roster : List RosterEntry
  /-- expiry of the presence timer (R101) -/
  presenceEnd : Option Nat
  goodFrames : Nat
  /-- expiry of the Quiet timer (R94) -/
  quietEnd : Option Nat
deriving DecidableEq, Repr

/-! ## Claim Unit (chapter 7) -/

/-- Holder of a resource (R124). -/
inductive Holder
  | none
  | self
  | peer
deriving DecidableEq, Repr

/-- Own state of a claim record (R124). -/
inductive OwnState
  | none
  | wanting
  | held
  | yielding
deriving DecidableEq, Repr

/-- Askers of a resource (R126). -/
inductive Asker
  | request (r : ReqNo)
  | driveUnit (d : Nat)
  | move (volume : Serial)
  | claimUnit
deriving DecidableEq, Repr

/-- Dispute field (R131, R132). -/
inductive Dispute
  | none
  | sent
  | conflict
deriving DecidableEq, Repr

/-- Cradle of a hatch (R124). -/
inductive Cradle
  | empty
  | volume (v : Serial)
  | foreign
deriving DecidableEq, Repr

/-- Handoff Due: the request carried, or NONE for a reel with no request (R124). -/
inductive HandoffDue
  | request (r : ReqNo)
  | noRequest
deriving DecidableEq, Repr

/-- A record of the Claim View (R124). -/
structure ClaimRec where
  res : Resource
  neighbour : Nat
  holder : Holder
  own : OwnState
  asks : List Asker
  dropped : Bool
  dispute : Dispute
  conflictAcked : Bool
  /-- the conflict is gone and awaits its ACK (R132) -/
  conflictGone : Bool
  /-- hatch records only; EMPTY in a drive record -/
  cradle : Cradle
  handoffDue : Option HandoffDue
  /-- the reel that the HANDOFF owed carries, while one is owed (R134) -/
  owed : Option Serial
  /-- a Dispute HOLD was lost while engaged: the record becomes PEER when the order is answered (R131) -/
  concede : Bool
  /-- kept at entry to STANDALONE because the order in flight or the current move's PUT was at work on it (R138) -/
  alone : Bool
deriving DecidableEq, Repr

/-- The Claim Unit. -/
structure Claim where
  records : List ClaimRec
  /-- TAKE_IN moves with no request that wait for room, by volume (R134) -/
  takeInWaits : List Serial
deriving DecidableEq, Repr

/-! ## Panel Controller (chapter 8) -/

/-- States of a prompt (R140). -/
inductive PromptState
  | settling
  | shown
  | acked
deriving DecidableEq, Repr

/-- A prompt (R140); its urgency is fixed by its class (R141). -/
structure Prompt where
  cls : PromptClass
  subject : Subject
  detail : Option EntryFullDetail
  links : List ReqNo
  state : PromptState
  raised : Nat
  settleEnd : Option Nat
  escalated : Bool
  acks : Nat
  cellWait : Bool
deriving DecidableEq, Repr

/-- A prompt is named by its class and subject, which no two share (R140). -/
structure PromptKey where
  cls : PromptClass
  subject : Subject
deriving DecidableEq, Repr

/-- A held cause without a request (R143). -/
structure DeferredCause where
  cls : PromptClass
  subject : Subject
  detail : Option EntryFullDetail
deriving DecidableEq, Repr

/-- A press in progress: the millisecond of its edge and, for ACK, its target (R146, R151). -/
structure Press where
  since : Nat
  target : Option PromptKey
deriving DecidableEq, Repr

/-- Lamp patterns (R154). -/
inductive LampPattern
  | off
  | steady
  | slow
  | fast
deriving DecidableEq, Repr

/-- The Panel Controller. `prompts` is in order of joining; the list order of R140 is computed. -/
structure Panel where
  prompts : List Prompt
  deferred : List DeferredCause
  cursor : Option PromptKey
  suppressed : Nat
  promptsLost : Nat
  ackPress : Option Press
  nextPress : Option Press
  lamp : LampPattern
  lampSince : Nat
  /-- the last door level delivered is open (R155) -/
  doorIsOpen : Bool
  doorLimitEnd : Option Nat
  /-- the Door Limit timer has expired and the door is still open (R155, R157) -/
  doorExpired : Bool
deriving DecidableEq, Repr

/-! ## Accounting Unit (chapter 9) -/

/-- An account, or the Station Charge Total (R170). -/
structure Account where
  units : Nat
  milli : Nat
  sessions : Nat
  seconds : Nat
  saturated : Bool
deriving DecidableEq, Repr

/-- The account of R177: 0.000, counts 0, Saturated clear. -/
def Account.zero : Account := { units := 0, milli := 0, sessions := 0, seconds := 0, saturated := false }

/-- A closed session record (R166). -/
structure ClosedSession where
  req : Option ReqNo
  origin : Nat
  account : Nat
  volume : Serial
  drive : DriveId
  start : Nat
  finish : Nat
  t0 : Nat
  t1 : Nat
  t2 : Nat
  t3 : Nat
  charge : Nat
  errors : Nat
  promptAcks : Nat
  write : Bool
  hopped : Bool
  remount : Bool
  cleaning : Bool
  restartClosed : Bool
  driveLost : Bool
  timeSaturated : Bool
  chargeSaturated : Bool
deriving DecidableEq, Repr

/-- The Accounting Unit. -/
structure Acct where
  stationTime : Nat
  /-- the millisecond of the next second tick; absent before the first START (R158) -/
  nextSecond : Option Nat
  accounts : List Account
  total : Account
  bandTicks : List Nat
  bandEntries : List Nat
  driveSeconds : Nat
  peak : Nat
  lastBand : Option Nat
  /-- occupancy and band of the most recent tick since the last START (R161) -/
  lastTick : Option (Nat × Nat)
  closed : List ClosedSession
  armed : Bool
  staleLeft : Nat
  sessionsLost : Nat
  lostOverflow : Bool
deriving DecidableEq, Repr

/-! ## Local Port (chapter 10) -/

/-- Events of a REQUEST report with what they carry (R64). -/
inductive ReqEvent
  | accepted
  | located (reel : Serial) (station : Nat)
  | forwarded (server : Nat)
  | mounted (drive : DriveId) (reel : Option Serial)
  | late
  | operatorWait (cls : PromptClass)
  | dismounted (errors : Nat)
  | cancelled
  | failed (code : FailCode)
deriving DecidableEq, Repr

/-- Events of a PROMPT report (R187). -/
inductive PromptEvent
  | raised
  | escalated
  | acked
  | declined
deriving DecidableEq, Repr

/-- What an UNDELIVERED report names (R90). -/
inductive About
  | nothing
  | request (r : ReqNo)
  | resource (r : Resource)
deriving DecidableEq, Repr

/-- Kind and body of a report (R187). -/
inductive ReportBody
  | request (r : ReqNo) (jobTag : Nat) (event : ReqEvent)
  | orderSlow (number : Nat) (kind : OrderKind) (move : MoveKind) (volume : Serial) (req : Option ReqNo)
  | retryFull (number : Nat) (move : MoveKind) (volume : Serial)
  | line (left entered : LineState) (score : Nat)
  | peer (station : Nat) (state : RosterState) (condition : Option Condition)
  | prompt (event : PromptEvent) (cls : PromptClass) (subject : Subject) (links : List ReqNo) (acks : Option Nat)
  | watermark (held : Nat)
  | stale (held finish : Nat)
  | lost (req : Option ReqNo) (account charge lost : Nat)
  | door (isOpen : Bool)
  | auditNeeded
  | undelivered (kind : MsgKind) (cause : UndelCause) (attempts : Nat) (about : About)
deriving DecidableEq, Repr

/-- A report with the Station Time at which it was queued (R187). -/
structure Report where
  time : Nat
  body : ReportBody
deriving DecidableEq, Repr

/-- Reply codes, in the order of their numbers (R179). -/
inductive ReplyCode
  | ok
  | full
  | locked
  | notNow
  | badValue
  | unknownRequest
  | staleOrder
deriving DecidableEq, Repr

/-- The pending reply (R181). -/
structure Reply where
  heartbeat : Bool
  code : ReplyCode
  words : List Data
deriving DecidableEq, Repr

/-- The Local Port. -/
structure Port where
  reports : List Report
  reportsLost : Nat
  reply : Reply
  frameFault : Bool
  lastHeartbeat : Option Bool
  /-- expiry of the Silence timer (R184) -/
  silenceEnd : Option Nat
deriving DecidableEq, Repr

/-! ## Consequences inside one command -/

/-- A consequence still to be worked off inside the command that caused it (log entry 4). -/
inductive Work
  /-- a planning pass (R47) -/
  | plan
  /-- a drive has become EMPTY (R27) -/
  | driveEmpty (d : Nat)
  /-- an entry cell has become EMPTY (R12) -/
  | cellEmpty
  /-- a slot has become free (R13) -/
  | slotFree
  /-- a reel has become HOME (R35, R47) -/
  | reelHome (v : Serial)
  /-- a prompt has left the list (R150) -/
  | promptGone (p : Prompt)
  /-- room has appeared in the Arm Order Queue (R68) -/
  | room
  /-- test whether an order may be issued (R69) -/
  | issue
  /-- the HOLD test of R126 -/
  | claimTest
  /-- the end-of-use test of R129 -/
  | useEnd
  /-- the HANDOFF test of R134 on every hatch: END AUDIT, a change of line state, a PRESENCE asked -/
  | handoffTest
  /-- the HANDOFF test of R134 on one hatch: owed, its Neighbour's presence, its hold obtained -/
  | handoffOn (res : Resource)
  /-- a hatch is looked at for a reel to be returned in place (R136) -/
  | stray (res : Resource)
  /-- a hold has been obtained (R126) -/
  | obtained (res : Resource)
  /-- an asker has joined the list of a resource already held (R126) -/
  | told (res : Resource) (a : Asker)
  /-- a hold has been lost (R126) -/
  | lost (res : Resource)
  /-- a HOLD has met a full Transmit Queue (R128; log entry 12) -/
  | notTaken (res : Resource)
  /-- a message has been given up (R90) -/
  | undelivered (m : Msg) (cause : UndelCause)
  /-- a request fails (R63) -/
  | failReq (r : ReqNo) (code : FailCode)
  /-- the reel in the gripper is put away (R77) -/
  | putAway
  /-- settle the Dropped records at recovery (R137) -/
  | settleDropped
  /-- ask an ENTRY_IN with no request for a reel in a cell (R13, R55) -/
  | entryIn (v : Serial)
  /-- a reel has left the bay or its entry is deleted (R46) -/
  | reelLeft (v : Serial)
deriving DecidableEq, Repr

/-! ## The state -/

/-- The state of the station, with the queue of waiting commands, first in, first out. -/
structure State where
  sys : Sys
  inv : Inv
  drv : Drv
  rm : Rm
  px : Px
  arm : Arm
  line : Line
  claim : Claim
  panel : Panel
  acct : Acct
  port : Port
  agenda : List Work
  pending : List Instr
deriving DecidableEq, Repr

/-- A Peer Roster entry never heard (R102). -/
def RosterEntry.unknown : RosterEntry := { state := .unknown, presence := none, lastHeard := none, absentAt := none }

/-- The station right after power-on reset, RESET high again (R192 and the after-reset rule of each chapter). -/
def State.reset : State where
  sys := { mode := .init, startup := .powerOn, clock := 0, resetHeld := false, listenEnd := none, restartPending := false }
  inv := { entries := [], cells := List.replicate Config.entryCells .empty, hatchArrivals := [], bay := .normal,
           entryInWaits := [], entryInFailed := [], slotWaits := [] }
  drv := { drives := [], remountsSaved := 0, graceYielded := 0 }
  rm := { queue := [], lastSeq := 0 }
  px := { stray := 0, moved := [] }
  arm := { queue := [], current := none, inFlight := none, retryEnd := none, retryCounter := 0, stale := 0, lastOrder := 0 }
  line := { txq := [], state := .listen, score := 0, errors := 0, errOverflow := false,
            roster := List.replicate 8 .unknown, presenceEnd := none, goodFrames := 0, quietEnd := none }
  claim := { records := [], takeInWaits := [] }
  panel := { prompts := [], deferred := [], cursor := none, suppressed := 0, promptsLost := 0, ackPress := none,
             nextPress := none, lamp := .off, lampSince := 0, doorIsOpen := false, doorLimitEnd := none, doorExpired := false }
  acct := { stationTime := 0, nextSecond := none, accounts := List.replicate 64 .zero, total := .zero,
            bandTicks := [0, 0, 0, 0], bandEntries := [0, 0, 0, 0], driveSeconds := 0, peak := 0, lastBand := none,
            lastTick := none, closed := [], armed := true, staleLeft := 900, sessionsLost := 0, lostOverflow := false }
  port := { reports := [], reportsLost := 0, reply := { heartbeat := false, code := .ok, words := [] }, frameFault := false,
            lastHeartbeat := none, silenceEnd := none }
  agenda := []
  pending := []

end Sys2Proof.Machine
end

