-- ==== Sys2Proof/Machine/Ops.lean ====
section
/-! DEFINITION. The shared operations over the state: changing one unit, finding and changing records, the agenda, and the
Report Queue (R187). -/

namespace Sys2Proof.Machine

/-! ## Changing one unit -/

def State.modSys (f : Sys → Sys) (s : State) : State := { s with sys := f s.sys }
def State.modInv (f : Inv → Inv) (s : State) : State := { s with inv := f s.inv }
def State.modDrv (f : Drv → Drv) (s : State) : State := { s with drv := f s.drv }
def State.modRm (f : Rm → Rm) (s : State) : State := { s with rm := f s.rm }
def State.modPx (f : Px → Px) (s : State) : State := { s with px := f s.px }
def State.modArm (f : Arm → Arm) (s : State) : State := { s with arm := f s.arm }
def State.modLine (f : Line → Line) (s : State) : State := { s with line := f s.line }
def State.modClaim (f : Claim → Claim) (s : State) : State := { s with claim := f s.claim }
def State.modPanel (f : Panel → Panel) (s : State) : State := { s with panel := f s.panel }
def State.modAcct (f : Acct → Acct) (s : State) : State := { s with acct := f s.acct }
def State.modPort (f : Port → Port) (s : State) : State := { s with port := f s.port }
def State.withAgenda (a : List Work) (s : State) : State := { s with agenda := a }
def State.withPending (q : List Instr) (s : State) : State := { s with pending := q }

/-! ## Agenda and reports -/

/-- A consequence joins the agenda, unless the same one already waits there (log entry 4). -/
def State.push (w : Work) (s : State) : State :=
  if w ∈ s.agenda then s else s.withAgenda (s.agenda ++ [w])

/-- A report is queued with the Station Time, or dropped and counted when the queue is full (R187). -/
def State.report (b : ReportBody) (s : State) : State :=
  s.modPort fun p =>
    if p.reports.length < Config.reportQueueSize then { p with reports := p.reports ++ [{ time := s.acct.stationTime, body := b }] }
    else { p with reportsLost := satAdd Config.max8 p.reportsLost 1 }

/-! ## Configuration and clock -/

/-- The Start-Up Block. -/
def State.cfg (s : State) : StartUp := s.sys.startup

/-- This station's number. -/
def State.self (s : State) : Nat := s.cfg.stationNumber

/-- The clock has reached `t`: a timed event moves it there if it is earlier (log entry 2). -/
def State.reach (t : Nat) (s : State) : State := s.modSys fun y => { y with clock := max y.clock t }

/-! ## Records of the tables -/

/-- The entry of a volume (R1). -/
def State.findEntry (v : Serial) (s : State) : Option Entry := s.inv.entries.find? fun e => decide (e.volume = v)

/-- Change the entry of a volume, if there is one. -/
def State.updEntry (v : Serial) (f : Entry → Entry) (s : State) : State :=
  s.modInv fun i => { i with entries := i.entries.map fun e => if e.volume = v then f e else e }

/-- Delete the entry of a volume. -/
def State.delEntry (v : Serial) (s : State) : State :=
  s.modInv fun i => { i with entries := i.entries.filter fun e => decide (e.volume ≠ v) }

/-- Add an entry. -/
def State.addEntry (e : Entry) (s : State) : State := s.modInv fun i => { i with entries := i.entries ++ [e] }

/-- The record of a Request Number (R40). -/
def State.findReq (r : ReqNo) (s : State) : Option Request := s.rm.queue.find? fun q => decide (q.req = r)

/-- Change the record of a Request Number, if there is one. -/
def State.updReq (r : ReqNo) (f : Request → Request) (s : State) : State :=
  s.modRm fun m => { m with queue := m.queue.map fun q => if q.req = r then f q else q }

/-- Take a record out of the Mount Queue. -/
def State.delReq (r : ReqNo) (s : State) : State :=
  s.modRm fun m => { m with queue := m.queue.filter fun q => decide (q.req ≠ r) }

/-- A record joins the Mount Queue behind those of its own and of higher priority (R40). -/
def insertReq (q : Request) : List Request → List Request
  | [] => [q]
  | h :: t => if h.priority < q.priority then q :: h :: t else h :: insertReq q t

/-- A record joins the Mount Queue (R40). -/
def State.addReq (q : Request) (s : State) : State := s.modRm fun m => { m with queue := insertReq q m.queue }

/-- The record of a local drive address (R20). -/
def State.findDrive (d : Nat) (s : State) : Option Drive := s.drv.drives.find? fun x => decide (x.address = d)

/-- Change the record of a drive, if there is one. -/
def State.updDrive (d : Nat) (f : Drive → Drive) (s : State) : State :=
  s.modDrv fun u => { u with drives := u.drives.map fun x => if x.address = d then f x else x }

/-- A drive record joins the table in order of address (R20). -/
def insertDrive (x : Drive) : List Drive → List Drive
  | [] => [x]
  | h :: t => if x.address < h.address then x :: h :: t else h :: insertDrive x t

/-- The claim record of a resource (R124). -/
def State.findRec (res : Resource) (s : State) : Option ClaimRec := s.claim.records.find? fun c => decide (c.res = res)

/-- Change the claim record of a resource, if there is one. -/
def State.updRec (res : Resource) (f : ClaimRec → ClaimRec) (s : State) : State :=
  s.modClaim fun u => { u with records := u.records.map fun c => if c.res = res then f c else c }

/-- The roster entry of a station (R98). -/
def State.rosterAt (p : Nat) (s : State) : RosterEntry := s.line.roster.getD p .unknown

/-- Change the roster entry of a station. -/
def State.updRoster (p : Nat) (f : RosterEntry → RosterEntry) (s : State) : State :=
  s.modLine fun l => { l with roster := l.roster.set p (f (l.roster.getD p .unknown)) }

/-- A station is PRESENT in the roster (R98). -/
def State.isPresent (p : Nat) (s : State) : Bool := decide ((s.rosterAt p).state = .present)

/-- Apply `f` for each item in order. -/
def State.forEach {α : Type} (l : List α) (f : α → State → State) (s : State) : State :=
  l.foldl (fun t a => f a t) s

/-- The item least in a strict order; of equals, the first. -/
def leastBy {α : Type} (before : α → α → Bool) : List α → Option α
  | [] => none
  | a :: t =>
    match leastBy before t with
    | none => some a
    | some b => if before b a then some b else some a

/-- Insert before the first item that the new one goes before (a stable insertion). -/
def insertBefore {α : Type} (before : α → α → Bool) (x : α) : List α → List α
  | [] => [x]
  | h :: t => if before x h then x :: h :: t else h :: insertBefore before x t

end Sys2Proof.Machine
end

