-- ==== Sys2Proof/Machine/Inventory.lean ====
section
/-! DEFINITION. The Inventory Unit (chapter 1): table room (R3), slots (R2), cells (R12), claims (R7, R8), wear (R9, R10). -/

namespace Sys2Proof.Machine

/-- The entry is homed here (R2). -/
def Entry.isHomed (e : Entry) : Bool := decide (e.home = .here)

/-- Entry cells expecting a shelf reel: each holds a shelf arrival reservation (R3). -/
def State.shelfArrivals (s : State) : Nat :=
  (s.inv.cells.filter fun c => match c with
    | .expecting _ .shelf => true
    | _ => false).length

/-- Table room: 600 less the entries less the pending arrival reservations (R3). -/
def State.tableRoom (s : State) : Nat :=
  Config.reelTableSize - (s.inv.entries.length + s.inv.hatchArrivals.length + s.shelfArrivals)

/-- Some entry names the slot. -/
def State.slotNamed (n : Nat) (s : State) : Bool := s.inv.entries.any fun e => decide (e.slot = some n)

/-- The entry that names a slot. -/
def State.slotEntry (n : Nat) (s : State) : Option Entry := s.inv.entries.find? fun e => decide (e.slot = some n)

/-- The lowest free slot: the lowest-numbered slot below the Slot Count that no entry names (R2). -/
def State.lowestFreeSlot (s : State) : Option Nat := (List.range s.cfg.slotCount).find? fun n => !s.slotNamed n

/-- Free slots: the Slot Count less the number of homed entries (R2). -/
def State.freeSlots (s : State) : Nat := s.cfg.slotCount - (s.inv.entries.filter Entry.isHomed).length

/-- The state of an entry cell. -/
def State.cellAt (c : Nat) (s : State) : CellState := s.inv.cells.getD c .empty

/-- A cell takes a new state. -/
def State.putCell (c : Nat) (st : CellState) (s : State) : State :=
  s.modInv fun i => { i with cells := i.cells.set c st }

/-- A cell becomes EMPTY, which starts the waiting uses of a free cell (R12). -/
def State.emptyCell (c : Nat) (s : State) : State := (s.putCell c .empty).push .cellEmpty

/-- The lowest EMPTY entry cell (R12). -/
def State.lowestEmptyCell (s : State) : Option Nat :=
  (List.range Config.entryCells).find? fun c => decide (s.cellAt c = .empty)

/-- The cell that expects a volume for a purpose, if one does. -/
def State.cellFor (v : Serial) (p : CellPurpose) (s : State) : Option Nat :=
  (List.range Config.entryCells).find? fun c => decide (s.cellAt c = .expecting v p)

/-- Outcome of a claim on an entry (R7). -/
inductive ClaimResult
  | granted
  | busy
  | refused
deriving DecidableEq, Repr

/-- How the Inventory Unit decides a claim (R7). -/
def claimDecision (e : Option Entry) (r : ReqNo) : ClaimResult :=
  match e with
  | none => .refused
  | some e =>
    match e.state with
    | .missing => .refused
    | .away _ => .refused
    | _ =>
      match e.reservation with
      | none => .granted
      | some v => if v.req = r then .granted else .busy

/-- The Reservation after a granted claim (R7): a HELD Reservation stays HELD. -/
def claimStored (old : Option Reservation) (r : ReqNo) (k : ReservKind) : Reservation :=
  match old with
  | some { kind := .held, .. } => { req := r, kind := .held }
  | _ => { req := r, kind := k }

/-- A claim on the entry of a volume (R7). -/
def State.claimReel (v : Serial) (r : ReqNo) (k : ReservKind) (s : State) : ClaimResult × State :=
  match claimDecision (s.findEntry v) r with
  | .granted => (.granted, s.updEntry v fun e => { e with reservation := some (claimStored e.reservation r k) })
  | c => (c, s)

/-- The request's HELD claim on the entry of a volume is granted. -/
def State.claimGranted (v : Serial) (r : ReqNo) (s : State) : Bool :=
  match s.findEntry v with
  | some e => decide (e.reservation = some { req := r, kind := .held })
  | none => false

/-- Every Reservation of a request ends (R8). -/
def State.endReservations (r : ReqNo) (s : State) : State :=
  s.modInv fun i => { i with entries := i.entries.map fun e =>
    match e.reservation with
    | some v => if v.req = r then { e with reservation := none } else e
    | none => e }

/-- A hatch arrival reservation is released or consumed (R3). -/
def State.dropArrival (r : ReqNo) (s : State) : State :=
  s.modInv fun i => { i with hatchArrivals := i.hatchArrivals.erase r }

/-- A reel's pass count rises by 1 (R9). -/
def State.countPass (v : Serial) (s : State) : State :=
  s.updEntry v fun e => { e with passes := satAdd Config.max16 e.passes 1 }

/-- The wear of a session close: the errors are added, then Retired is set if a limit is reached (R9, R10). -/
def Entry.wear (limit errors : Nat) (e : Entry) : Entry :=
  let n := satAdd Config.max8 e.errors errors
  { e with errors := n, retired := e.retired || decide (limit ≤ e.passes) || decide (Config.retireErrors ≤ n) }

/-- The wear of a session close on the entry of a volume (R9, R10). -/
def State.wearReel (v : Serial) (errors : Nat) (s : State) : State := s.updEntry v (Entry.wear s.cfg.retireLimit errors)

/-- A request waits for a reel: it names it, or has been given it (R46). -/
def Request.wants (v : Serial) (q : Request) : Bool := decide (q.reel = some v) || decide (q.want = .volume v)

/-- The request has no MOUNT or TAKE_IN move queued or current and no reel on its way to a drive, so that the loss of its
reel fails it (R15, R46; log entry 55). -/
def State.noMountMove (q : Request) (s : State) : Bool :=
  match q.state with
  | .mounted => false
  | .moving => !((s.arm.queue ++ s.arm.current.toList).any fun m =>
      decide (m.req = some q.req ∧ (m.kind = .mount ∨ m.kind = .takeIn)))
  | .hopping => decide (q.hopExpiry = none)
  | _ => true

/-- An entry becomes MISSING: its Reservation is cleared, and the requests of this queue for the reel that have not had
their MOUNT move queued fail REEL_MISSING (R5, R15, R46); a PROXY and a receiver-side HOPPING record, whose reel lies at another
station, do not (log entry 55). -/
def State.reelMissing (v : Serial) (s : State) : State :=
  let hit := s.rm.queue.filter fun q => decide (q.role ≠ .proxy) && q.wants v && s.noMountMove q
  State.forEach hit (fun q t => t.push (.failReq q.req .reelMissing))
    (s.updEntry v fun e => { e with state := .missing, reservation := none })

/-- A reel that LABEL READ or SLOT REPORT brings into the table (R13, R15). -/
def foundEntry (v : Serial) (slot : Nat) (st : ReelState) : Entry where
  volume := v
  home := .here
  slot := some slot
  cls := 1
  ring := false
  pool := none
  passes := 0
  errors := 0
  retired := false
  unrecorded := true
  exitPending := false
  state := st
  reservation := none

/-- A retired homed entry is deleted at its way out: its slot is freed, and the requests for it fail REEL_RETIRED
(R11, R46). -/
def State.retireEntry (v : Serial) (s : State) : State :=
  let hit := s.rm.queue.filter fun q => decide (q.role ≠ .proxy) && q.wants v && s.noMountMove q
  (State.forEach hit (fun q t => t.push (.failReq q.req .reelRetired)) (s.delEntry v)).push .slotFree

/-- The bay condition refuses arm work on slots: DOOR_OPEN or AUDIT (R14, R48). -/
def State.bayShut (s : State) : Bool := decide (s.inv.bay ≠ .normal)

end Sys2Proof.Machine
end

