-- ==== Sys2Proof/Machine/Resources.lean ====
section
/-! DEFINITION. Names of shared resources and drives on the line (R20, R124), and what the Claim View shows of them. -/

namespace Sys2Proof.Machine

/-- The hatch on a side: HATCH(n−1) on the left, HATCH(n) on the right (R124). -/
def State.sideRes (side : Side) (s : State) : Resource :=
  match side with
  | .left => .hatch (s.self - 1)
  | .right => .hatch s.self

/-- The hatch on that side is configured (R193). -/
def State.hasHatch (side : Side) (s : State) : Bool :=
  match side with
  | .left => s.cfg.leftHatch
  | .right => s.cfg.rightHatch

/-- The station on that side: n−1 or n+1. -/
def State.sideStation (side : Side) (s : State) : Nat :=
  match side with
  | .left => s.self - 1
  | .right => s.self + 1

/-- The side on which a neighbour stands; none for a station that is no neighbour. -/
def State.sideOf (p : Nat) (s : State) : Option Side :=
  if p + 1 = s.self then some .left
  else if p = s.self + 1 then some .right
  else none

/-- The resource that a drive position is: none for a LOCAL drive (R20, R124). -/
def State.posRes (pos : DrivePos) (s : State) : Option Resource :=
  match pos with
  | .loc => none
  | .boundary .left i => some (.bdrive (s.self - 1) i)
  | .boundary .right i => some (.bdrive s.self i)

/-- The resource of a drive address; none for a local drive or one not loaded. -/
def State.driveRes (d : Nat) (s : State) : Option Resource := (s.findDrive d).bind fun x => s.posRes x.position

/-- The drive record of a boundary drive. -/
def State.resDrive (res : Resource) (s : State) : Option Drive :=
  s.drv.drives.find? fun x => decide (s.posRes x.position = some res)

/-- The side of a hatch resource. -/
def State.resSide (res : Resource) (s : State) : Option Side :=
  match res with
  | .hatch b => if b = s.self then some .right else if b + 1 = s.self then some .left else none
  | .bdrive _ _ => none

/-- The shared resource that an arm order location is, if it is one (R69). -/
def State.locRes (l : Loc) (s : State) : Option Resource :=
  match l with
  | .hatch side => some (s.sideRes side)
  | .drive d => s.driveRes d
  | .slot _ => none
  | .entry _ => none

/-- The name of a drive on the line (R20). -/
def State.driveId (x : Drive) (s : State) : DriveId :=
  match s.posRes x.position with
  | some (.bdrive b i) => .boundary b i
  | _ => .own s.self x.address

/-- "Held by SELF" for R22, R28 and R69: Holder SELF with Own state HELD (R124). -/
def State.heldSelf (res : Resource) (s : State) : Bool :=
  s.claim.records.any fun c => decide (c.res = res ∧ c.holder = .self ∧ c.own = .held)

/-- A drive may be used without a claim, or its claim is held by SELF (R22). -/
def State.driveHeld (x : Drive) (s : State) : Bool :=
  match s.posRes x.position with
  | none => true
  | some res => s.heldSelf res

/-- A resource is engaged while the order in flight names it as its location (R131). -/
def State.engaged (res : Resource) (s : State) : Bool :=
  match s.arm.inFlight with
  | none => false
  | some o => decide (s.locRes o.loc = some res)

/-- A HATCH_CONFLICT stands for the resource (R69, R132). -/
def State.conflictOn (res : Resource) (s : State) : Bool :=
  s.claim.records.any fun c => decide (c.res = res ∧ c.dispute = .conflict)

/-- A HOLD can be sent: the mode is ACTIVE and the line state CLEAR or CAUTION (R28). -/
def State.canHold (s : State) : Bool :=
  decide (s.sys.mode = .active) && (decide (s.line.state = .clear) || decide (s.line.state = .caution))

/-- The cradle of the hatch on a side; EMPTY where there is no record. -/
def State.cradleOf (side : Side) (s : State) : Cradle :=
  match s.findRec (s.sideRes side) with
  | some c => c.cradle
  | none => .empty

end Sys2Proof.Machine
end

