-- ==== Sys2Proof/Machine/Accounting.lean ====
section
/-! DEFINITION. The Accounting Unit (chapter 9): charges (R167, R168), totals (R169), the close of a session (R166), the
Closed Session Queue (R173 to R175), occupancy and bands (R159, R160). -/

namespace Sys2Proof.Machine

/-- Weighted seconds S (R167). -/
def weighted (c : StartUp) (t0 t1 t2 t3 : Nat) : Nat := t0 * c.rate0 + t1 * c.rate1 + t2 * c.rate2 + t3 * c.rate3

/-- The whole part of (S + 30) / 60, before the limit (R167). -/
def timeChargeRaw (S : Nat) : Nat := (S + 30) / 60

/-- C_time (R167). -/
def timeCharge (S : Nat) : Nat := min Config.max32 (timeChargeRaw S)

/-- The fees F (R168). -/
def fees (c : StartUp) (write hopped remount : Bool) (acks : Nat) : Nat :=
  (if remount then 0 else c.mountFee) + (if write then c.ringFee else 0) + c.operatorFee * acks +
    (if hopped then c.transferFee else 0)

/-- The charge C (R168). -/
def charge (c : StartUp) (x : Session) (acks : Nat) : Nat :=
  min Config.max32 (timeCharge (weighted c x.t0 x.t1 x.t2 x.t3) + fees c x.write x.hopped x.remount acks)

/-- CHARGE_SATURATED: C_time or the sum was above the limit (R167, R168). -/
def chargeSaturated (c : StartUp) (x : Session) (acks : Nat) : Bool :=
  let raw := timeChargeRaw (weighted c x.t0 x.t1 x.t2 x.t3)
  decide (Config.max32 < raw) || decide (Config.max32 < timeCharge (weighted c x.t0 x.t1 x.t2 x.t3) +
    fees c x.write x.hopped x.remount acks)

/-- A charge is added to an account's total (R169 steps 1 to 3). -/
def Account.addTotal (C : Nat) (a : Account) : Account :=
  if a.saturated then a
  else
    let m1 := a.milli + C % 1000
    let U1 := a.units + C / 1000 + m1 / 1000
    if U1 ≤ Config.max32 then { a with units := U1, milli := m1 % 1000 }
    else { a with units := Config.max32, milli := 999, saturated := true }

/-- A session is added to an account: its charge, one session, its seconds (R169). -/
def Account.addSession (C secs : Nat) (a : Account) : Account :=
  let b := a.addTotal C
  { b with sessions := satAdd Config.max32 a.sessions 1, seconds := satAdd Config.max32 a.seconds secs }

/-- A record is offered to the Closed Session Queue (R173), with the watermark (R174) and the stale timer (R175). -/
def State.offerClosed (x : ClosedSession) (s : State) : State :=
  let n := s.acct.closed.length
  if n < Config.closedQueueSize then
    let hit := s.acct.armed && decide (n + 1 = s.cfg.sessionWatermark)
    let t := s.modAcct fun a =>
      { a with closed := a.closed ++ [x], armed := a.armed && !hit,
               staleLeft := if n = 0 then 60 * s.cfg.sessionStaleTime else a.staleLeft }
    if hit then t.report (.watermark (n + 1)) else t
  else
    let t := s.modAcct fun a =>
      { a with sessionsLost := satAdd Config.max8 a.sessionsLost 1, lostOverflow := a.lostOverflow || decide (a.sessionsLost = Config.max8) }
    t.report (.lost x.req x.account x.charge t.acct.sessionsLost)

/-- Why a session closes, for the flags added at the close (R165). -/
inductive CloseCause
  | host
  | driveLost
  | restart
deriving DecidableEq, Repr

/-- The totals of R166 step 3. Every account is one of the table (R170); an account past it would be charged nowhere. -/
def State.addCharge (account C secs : Nat) (s : State) : State :=
  s.modAcct fun a =>
    if account < a.accounts.length then
      { a with accounts := a.accounts.set account ((a.accounts.getD account .zero).addSession C secs),
               total := a.total.addSession C secs }
    else a

/-- The closed record of a session (R166). -/
def closedOf (c : StartUp) (x : Session) (acks errors finish : Nat) (cause : CloseCause) : ClosedSession where
  req := some x.req
  origin := x.req.origin
  account := x.account
  volume := x.volume
  drive := x.drive
  start := x.start
  finish := finish
  t0 := x.t0
  t1 := x.t1
  t2 := x.t2
  t3 := x.t3
  charge := charge c x acks
  errors := errors
  promptAcks := acks
  write := x.write
  hopped := x.hopped
  remount := x.remount
  cleaning := false
  restartClosed := decide (cause = .restart)
  driveLost := decide (cause = .driveLost)
  timeSaturated := x.timeSaturated
  chargeSaturated := chargeSaturated c x acks

/-- The session of a drive closes (R166): charge, totals, wear, record. -/
def State.closeSession (d : Nat) (errors : Nat) (cause : CloseCause) (s : State) : State :=
  match (s.findDrive d).bind Drive.session with
  | none => s
  | some x =>
    let acks := match s.findReq x.req with
      | some q => q.promptAcks
      | none => 0
    let rec_ := closedOf s.cfg x acks errors s.acct.stationTime cause
    (((s.updDrive d fun y => { y with session := none }).addCharge x.account rec_.charge (x.t0 + x.t1 + x.t2 + x.t3)).wearReel
      x.volume errors).offerClosed rec_

/-- A cleaning record closes (R34, R165): charge 0, account 0, no request; the retirement check of R10. -/
def State.closeCleaning (d : Nat) (lost : Bool) (s : State) : State :=
  match s.findDrive d with
  | none => s
  | some y =>
    let v := y.loaded.getD []
    let rec_ : ClosedSession :=
      { req := none, origin := s.self, account := 0, volume := v, drive := s.driveId y,
        start := y.cleaningStart.getD 0, finish := s.acct.stationTime, t0 := 0, t1 := 0, t2 := 0, t3 := 0, charge := 0,
        errors := 0, promptAcks := 0, write := false, hopped := false, remount := false, cleaning := true,
        restartClosed := false, driveLost := lost, timeSaturated := false, chargeSaturated := false }
    ((s.addCharge 0 0 0).wearReel v 0).offerClosed rec_

/-- The session that opens when a drive becomes MOUNTED for a request (R163). -/
def sessionOf (q : Request) (v : Serial) (id : DriveId) (now : Nat) (remount : Bool) : Session where
  req := q.req
  account := q.account
  volume := v
  drive := id
  start := now
  t0 := 0
  t1 := 0
  t2 := 0
  t3 := 0
  write := decide (q.access = .write)
  hopped := decide (q.hop = 1)
  remount := remount
  timeSaturated := false

/-- Occupancy O: local drives, and boundary drives held by SELF, in MOUNTED or GRACE (R38, R159). -/
def State.occupancy (s : State) : Nat :=
  (s.drv.drives.filter fun x => (decide (x.state = .mounted) || decide (x.state = .grace)) && s.driveHeld x).length

/-- The band of an occupancy (R159). -/
def bandOf (c : StartUp) (O : Nat) : Nat :=
  if O < c.b1 then 0 else if O < c.b2 then 1 else if O < c.b3 then 2 else 3

/-- One T_b counts a tick, or saturates (R164). -/
def tickBand (n : Nat) : Nat × Bool := if n < Config.max24 then (n + 1, false) else (n, true)

/-- An open session counts a tick in band `b` (R164). -/
def Session.tick (b : Nat) (x : Session) : Session :=
  match b with
  | 0 => { x with t0 := (tickBand x.t0).1, timeSaturated := x.timeSaturated || (tickBand x.t0).2 }
  | 1 => { x with t1 := (tickBand x.t1).1, timeSaturated := x.timeSaturated || (tickBand x.t1).2 }
  | 2 => { x with t2 := (tickBand x.t2).1, timeSaturated := x.timeSaturated || (tickBand x.t2).2 }
  | _ => { x with t3 := (tickBand x.t3).1, timeSaturated := x.timeSaturated || (tickBand x.t3).2 }

/-- The item at a place of a list changes. -/
def bump (l : List Nat) (b : Nat) : List Nat := l.set b (satAdd Config.max32 (l.getD b 0) 1)

/-- The band residency counters at a tick of occupancy `O` in band `b` (R160). -/
def Acct.countBand (O b : Nat) (a : Acct) : Acct :=
  { a with bandTicks := bump a.bandTicks b,
           bandEntries := if a.lastBand = some b then a.bandEntries else bump a.bandEntries b,
           driveSeconds := satAdd Config.max32 a.driveSeconds O,
           peak := max a.peak O,
           lastBand := some b,
           lastTick := some (O, b) }

/-- The tick of the drives: mounted seconds (R38) and the open sessions (R164). -/
def Drive.tick (b : Nat) (x : Drive) : Drive :=
  { x with mountedSeconds := if x.state = .mounted then satAdd Config.max32 x.mountedSeconds 1 else x.mountedSeconds,
           session := x.session.map (Session.tick b) }

end Sys2Proof.Machine
end

