-- ==== Sys2Proof/Machine/Panel.lean ====
section
/-! DEFINITION. The Panel Controller (chapter 8): list order (R140), raising (R142, R143), showing (R144), escalating (R145),
cursor (R153), lamp (R154), leaving (R150). -/

namespace Sys2Proof.Machine

/-- The urgency of a class (R141). -/
def promptUrgency : PromptClass → Nat
  | .shelfFetch => 2
  | .ringIn => 2
  | .entryFull => 2
  | .cleanDrive => 1
  | .retireReel => 1
  | .misplaced => 1
  | .armAttention => 3
  | .hatchConflict => 3
  | .hatchClear => 3
  | .doorLong => 3

/-- The name of a prompt. -/
def Prompt.key (p : Prompt) : PromptKey := { cls := p.cls, subject := p.subject }

/-- List order of R140, less the order of joining, which the stable insertion keeps. -/
def promptBefore (a b : Prompt) : Bool :=
  decide (promptUrgency b.cls < promptUrgency a.cls) ||
  (decide (promptUrgency a.cls = promptUrgency b.cls) &&
    ((a.escalated && !b.escalated) || (decide (a.escalated = b.escalated) && decide (a.raised < b.raised))))

/-- The prompts in list order (R140). -/
def listOrder (ps : List Prompt) : List Prompt := ps.foldl (fun acc p => insertBefore promptBefore p acc) []

/-- A prompt is displayable: SHOWN or ACKED (R153). -/
def Prompt.displayable (p : Prompt) : Bool := decide (p.state ≠ .settling)

/-- The displayable prompts, in list order (R153). -/
def State.displayable (s : State) : List Prompt := (listOrder s.panel.prompts).filter Prompt.displayable

/-- The prompt of a name. -/
def State.findPrompt (k : PromptKey) (s : State) : Option Prompt := s.panel.prompts.find? fun p => decide (p.key = k)

/-- Change the prompt of a name, if it stands. -/
def State.updPrompt (k : PromptKey) (f : Prompt → Prompt) (s : State) : State :=
  s.modPanel fun u => { u with prompts := u.prompts.map fun p => if p.key = k then f p else p }

/-- The lamp pattern that the SHOWN prompts call for (R154). -/
def lampFor (ps : List Prompt) : LampPattern :=
  let shown := ps.filter fun p => decide (p.state = .shown)
  if shown.any fun p => decide (promptUrgency p.cls = 3) || p.escalated then .fast
  else if shown.any fun p => decide (promptUrgency p.cls = 2) then .slow
  else if shown.isEmpty then .off
  else .steady

/-- The pattern is decided afresh; a changed one starts from its beginning (R154). -/
def State.relamp (s : State) : State :=
  if lampFor s.panel.prompts = s.panel.lamp then s
  else s.modPanel fun u => { u with lamp := lampFor u.prompts, lampSince := s.sys.clock }

/-- A PROMPT report on a standing prompt (R187). -/
def State.reportPrompt (ev : PromptEvent) (p : Prompt) (acks : Option Nat) (s : State) : State :=
  s.report (.prompt ev p.cls p.subject p.links acks)

/-- The cursor rule when a prompt becomes displayable (R153). -/
def State.cursorTo (k : PromptKey) (s : State) : State :=
  match s.panel.cursor with
  | none => s.modPanel fun u => { u with cursor := some k }
  | some c => if promptUrgency c.cls < promptUrgency k.cls then s.modPanel fun u => { u with cursor := some k } else s

/-- A SETTLING prompt becomes SHOWN, with its RAISED report (R144). -/
def State.showPrompt (k : PromptKey) (s : State) : State :=
  match s.findPrompt k with
  | none => s
  | some p =>
    if p.state = .settling then
      (((s.updPrompt k fun p => { p with state := .shown, settleEnd := none }).reportPrompt .raised p none).cursorTo k).relamp
    else s

/-- A prompt is escalated: a SETTLING one is SHOWN first; an escalated one is left as it is (R145). -/
def State.escalate (k : PromptKey) (s : State) : State :=
  match s.findPrompt k with
  | none => s
  | some p =>
    if p.escalated then s
    else (((s.showPrompt k).updPrompt k fun p => { p with escalated := true }).reportPrompt .escalated p none).relamp

/-- The age of a prompt has passed the Escalate Time (R145). -/
def State.pastAge (p : Prompt) (s : State) : Bool := decide (60 * s.cfg.escalateTime ≤ s.acct.stationTime - p.raised)

/-- An ACKED prompt returns to SHOWN, and escalates at once if its age is past the Escalate Time (R145, R148). -/
def State.returnPrompt (k : PromptKey) (s : State) : State :=
  match s.findPrompt k with
  | none => s
  | some p =>
    let t := ((s.updPrompt k fun p => { p with state := .shown }).cursorTo k).relamp
    if s.pastAge p then t.escalate k else t

/-- The prompt that follows `k` in a list, or its head if `k` is last (R153). -/
def followerOf (k : PromptKey) (l : List Prompt) : Option PromptKey :=
  match l.dropWhile fun p => decide (p.key ≠ k) with
  | _ :: q :: _ => some q.key
  | _ => ((l.filter fun p => decide (p.key ≠ k)).head?).map Prompt.key

/-- A prompt leaves the list (R150 step 3); its owner, its links and the waiting causes are served as a consequence. -/
def State.leavePrompt (k : PromptKey) (s : State) : State :=
  match s.findPrompt k with
  | none => s
  | some p =>
    let next := followerOf k s.displayable
    ((s.modPanel fun u =>
      { u with prompts := u.prompts.filter fun q => decide (q.key ≠ k),
               cursor := if u.cursor = some k then next else u.cursor,
               ackPress := u.ackPress.map fun x => if x.target = some k then { x with target := none } else x }).relamp).push
      (.promptGone p)

/-- A prompt is withdrawn because its cause cleared or its last link went; one SETTLING is counted Suppressed (R144, R150). -/
def State.withdrawPrompt (k : PromptKey) (s : State) : State :=
  match s.findPrompt k with
  | none => s
  | some p =>
    (if p.state = .settling then s.modPanel fun u => { u with suppressed := satAdd Config.max16 u.suppressed 1 } else s).leavePrompt k

/-- The class whose causes end only by the prompt's answer (R143). -/
def answerOnly : PromptClass → Bool
  | .hatchConflict => true
  | .hatchClear => true
  | .retireReel => true
  | _ => false

/-- The first held cause of another class is dropped. -/
def dropOldestOther : List DeferredCause → List DeferredCause
  | [] => []
  | h :: t => if answerOnly h.cls then h :: dropOldestOther t else t

/-- A cause without a request joins the Deferred Causes (R143). -/
def State.defer (c : DeferredCause) (s : State) : State :=
  if s.panel.deferred.any fun d => decide (d.cls = c.cls ∧ d.subject = c.subject) then s
  else if s.panel.deferred.length < Config.promptListSize then s.modPanel fun u => { u with deferred := u.deferred ++ [c] }
  else if answerOnly c.cls then
    s.modPanel fun u => { u with deferred := dropOldestOther u.deferred ++ [c], promptsLost := satAdd Config.max8 u.promptsLost 1 }
  else s.modPanel fun u => { u with promptsLost := satAdd Config.max8 u.promptsLost 1 }

/-- A cause given to the Panel Controller (R142). -/
structure Cause where
  cls : PromptClass
  subject : Subject
  detail : Option EntryFullDetail
  req : Option ReqNo
deriving DecidableEq, Repr

/-- The name of the prompt that a cause raises. -/
def Cause.key (c : Cause) : PromptKey := { cls := c.cls, subject := c.subject }

/-- A request is linked to a prompt and goes to OPERATOR, with its OPERATOR_WAIT report; a Late one escalates the prompt
(R56, R142, R145); a shelf fetch has its re-seek due at half the Prompt Settle (R109). -/
def State.linkReq (r : ReqNo) (k : PromptKey) (s : State) : State :=
  match s.findReq r with
  | none => s
  | some q =>
    let due := if k.cls = .shelfFetch ∧ s.cfg.promptSettle ≠ 0 then some (s.sys.clock + 500 * s.cfg.promptSettle) else none
    let t := s.updReq r fun q => { q with state := .operator, promptPending := none, phase := .none, lineWait := false,
                                          ackHeld := false, settleReseek := false, reseekDue := due }
    let t := if q.role = .own then t.report (.request r q.jobTag (.operatorWait k.cls)) else t
    if q.late then t.escalate k else t

/-- A planning pass is run for a request about to enter STANDBY, and none for one that stands there already (R47). -/
def State.planEntry (r : ReqNo) (s : State) : State :=
  match s.findReq r with
  | none => s
  | some q => if q.state = .standby then s else s.push .plan

/-- A cause that cannot be raised or joined leaves its request with Prompt Pending, in LOCATING for a shelf fetch and in
STANDBY otherwise (R47, R56). -/
def State.pendReq (r : ReqNo) (c : Cause) (s : State) : State :=
  (if c.cls = .shelfFetch then s else s.planEntry r).updReq r fun q =>
    { q with state := if c.cls = .shelfFetch then .locating else .standby, phase := .none,
             promptPending := some (.prompt c.cls c.subject c.detail) }

/-- A new prompt is made (R142 step 2). -/
def State.makePrompt (c : Cause) (s : State) : State :=
  let p : Prompt :=
    { cls := c.cls, subject := c.subject, detail := c.detail, links := c.req.toList, state := .settling,
      raised := s.acct.stationTime, settleEnd := some (s.sys.clock + 1000 * s.cfg.promptSettle), escalated := false,
      acks := 0, cellWait := false }
  let t := s.modPanel fun u => { u with prompts := u.prompts ++ [p] }
  let t := if s.cfg.promptSettle = 0 then t.showPrompt c.key else t
  match c.req with
  | some r => t.linkReq r c.key
  | none => t

/-- A cause meets a prompt of its class and subject (R142 step 1). -/
def State.mergePrompt (c : Cause) (p : Prompt) (s : State) : State :=
  match c.req with
  | none => s
  | some r =>
    if r ∈ p.links then s
    else if p.links.length < Config.linkListSize then
      (s.updPrompt c.key fun p => { p with links := p.links ++ [r] }).linkReq r c.key
    else s.pendReq r c

/-- The prompt that a full list evicts: of urgency 1, the oldest Raised time, the first joined of equals (R143). -/
def victim (ps : List Prompt) : Option Prompt :=
  leastBy (fun a b => decide (a.raised < b.raised)) (ps.filter fun p => decide (promptUrgency p.cls = 1))

/-- A prompt is evicted; the cause of a CLEAN_DRIVE or RETIRE_REEL joins the Deferred Causes (R143). -/
def State.evict (p : Prompt) (s : State) : State :=
  let t := (s.modPanel fun u => { u with promptsLost := satAdd Config.max8 u.promptsLost 1 }).leavePrompt p.key
  if p.cls = .misplaced then t else t.defer { cls := p.cls, subject := p.subject, detail := p.detail }

/-- A cause that cannot be raised waits: with its request, or in the Deferred Causes (R143). -/
def State.causeWaits (c : Cause) (s : State) : State :=
  match c.req with
  | some r => s.pendReq r c
  | none => s.defer { cls := c.cls, subject := c.subject, detail := c.detail }

/-- A block raises a prompt (R142, R143). In INIT no cause is taken. -/
def State.raise (c : Cause) (s : State) : State :=
  if s.sys.mode = .init then s
  else
    match s.findPrompt c.key with
    | some p => s.mergePrompt c p
    | none =>
      if s.panel.prompts.length < Config.promptListSize then s.makePrompt c
      else
        match victim s.panel.prompts with
        | some p => if promptUrgency c.cls = 1 then s.causeWaits c else (s.evict p).makePrompt c
        | none => s.causeWaits c

/-- A cause without a request. -/
def State.raisePlain (cls : PromptClass) (sub : Subject) (s : State) : State :=
  s.raise { cls := cls, subject := sub, detail := none, req := none }

/-- The prompt that a request is linked to (R56: exactly one while in OPERATOR). -/
def State.promptOf (r : ReqNo) (s : State) : Option Prompt := s.panel.prompts.find? fun p => decide (r ∈ p.links)

/-- A request is taken out of any Link List; a prompt of a linked class whose list becomes empty is withdrawn
(R44 step 2, R109). -/
def State.unlink (r : ReqNo) (s : State) : State :=
  match s.promptOf r with
  | none => s
  | some p =>
    let t := s.updPrompt p.key fun p => { p with links := p.links.erase r }
    if p.links.erase r = [] then t.withdrawPrompt p.key else t

/-- A prompt stands for the class and subject, in any state. -/
def State.promptStands (cls : PromptClass) (sub : Subject) (s : State) : Bool :=
  (s.findPrompt { cls := cls, subject := sub }).isSome

/-- A prompt stands for the class and subject, or its cause waits among the Deferred Causes (R143). -/
def State.promptDue (cls : PromptClass) (sub : Subject) (s : State) : Bool :=
  s.promptStands cls sub || s.panel.deferred.any fun c => decide (c.cls = cls ∧ c.subject = sub)

/-- A held cause still stands (R143). -/
def State.causeStands (c : DeferredCause) (s : State) : Bool :=
  match c.cls, c.subject with
  | .cleanDrive, .drive d =>
    (match s.findDrive d with
     | some x => decide (x.state = .empty) && x.cleanDue && decide (x.serving = none)
     | none => false) && !s.promptStands c.cls c.subject
  | .retireReel, .volume v =>
    (match s.findEntry v with
     | some e => e.retired && (match e.state with
        | .atEntry _ => true
        | _ => false)
     | none => false)
  | .entryFull, .volume v =>
    (match c.detail with
     | some (.noSlot k) => decide (s.cellAt k = .occupied (some v)) && decide (s.findEntry v = none)
     | _ => match s.findPrompt { cls := .shelfFetch, subject := .volume v } with
        | some p => decide (p.state = .acked) && p.cellWait
        | none => false)
  | .hatchClear, .hatch side => decide (s.cradleOf side ≠ .empty)
  | .doorLong, _ => s.panel.doorIsOpen
  | _, _ => true

/-- The Deferred Causes are taken in order while the list has room (R143). -/
def State.takeDeferred (s : State) : State :=
  State.forEach s.panel.deferred
    (fun c t =>
      let drop := t.modPanel fun u => { u with deferred := u.deferred.erase c }
      if !t.causeStands c then drop
      else if t.panel.prompts.length < Config.promptListSize ∨ t.promptStands c.cls c.subject then
        drop.raise { cls := c.cls, subject := c.subject, detail := c.detail, req := none }
      else t) s

/-- The requests with Prompt Pending cause PROMPT try their cause again, in queue order (R56). -/
def State.retryPending (s : State) : State :=
  State.forEach (s.rm.queue.map Request.req)
    (fun r t => match (t.findReq r).bind Request.promptPending with
      | some (.prompt cls sub det) => t.raise { cls := cls, subject := sub, detail := det, req := some r }
      | _ => t) s

end Sys2Proof.Machine
end

