-- ==== Sys2Proof/Machine/Transmit.lean ====
section
/-! DEFINITION. The Transmit Queue: kinds and urgencies (R83), what each line state permits (R93), asking, withdrawing and
giving up messages (R89, R90). -/

namespace Sys2Proof.Machine

/-- The kind of a message. -/
def Msg.kind : Msg → MsgKind
  | .yield _ => .yield
  | .handoff _ => .handoff
  | .hold _ => .hold
  | .presence _ => .presence
  | .outcome _ => .outcome
  | .placed _ => .placed
  | .refused _ => .refused
  | .state _ => .state
  | .release _ => .release
  | .seek _ => .seek
  | .have_ _ => .have_
  | .place _ => .place
  | .ask _ => .ask

/-- The number of a kind (R83). -/
def MsgKind.number : MsgKind → Nat
  | .yield => 0
  | .handoff => 1
  | .hold => 2
  | .presence => 3
  | .outcome => 4
  | .placed => 5
  | .refused => 6
  | .state => 7
  | .release => 8
  | .seek => 9
  | .have_ => 10
  | .place => 11
  | .ask => 12

/-- The urgency of a kind (R83); a lower value goes first. -/
def MsgKind.urgency : MsgKind → Nat
  | .yield => 0
  | .handoff => 0
  | .hold => 1
  | .presence => 2
  | .outcome => 2
  | .placed => 2
  | .refused => 2
  | .state => 2
  | .release => 2
  | .seek => 3
  | .have_ => 3
  | .place => 3
  | .ask => 3

/-- The body length of a kind in bytes (R103, R125); a PRESENCE's is not stated (log entry 25). -/
def MsgKind.bodyBytes : MsgKind → Option Nat
  | .yield => some 8
  | .handoff => some 16
  | .hold => some 3
  | .presence => none
  | .outcome => some 5
  | .placed => some 3
  | .refused => some 4
  | .state => some 5
  | .release => some 5
  | .seek => some 10
  | .have_ => some 11
  | .place => some 22
  | .ask => some 3

/-- The kinds MUTED permits (R93). -/
def MsgKind.mutedOk : MsgKind → Bool
  | .presence => true
  | .yield => true
  | .handoff => true
  | .outcome => true
  | .state => true
  | .refused => true
  | .release => true
  | .hold => false
  | .placed => false
  | .seek => false
  | .have_ => false
  | .place => false
  | .ask => false

/-- The line state and the mode permit the kind (R93). -/
def State.permits (k : MsgKind) (s : State) : Bool :=
  match s.line.state with
  | .listen => decide (s.sys.mode = .joining) && decide (k = .presence)
  | .clear => true
  | .caution => true
  | .muted => k.mutedOk
  | .detached => false
  | .duplicate => false

/-- The request or resource that a message names (R90); a HANDOFF's body names both, and its request, where it has one, is taken
(log entry 63). -/
def Msg.about : Msg → About
  | .yield b => .resource b.resource
  | .handoff b => match b.req with
    | some r => .request r
    | none => .resource (.hatch b.boundary)
  | .hold b => .resource b.resource
  | .presence _ => .nothing
  | .outcome b => .request b.req
  | .placed b => .request b.req
  | .refused b => .request b.req
  | .state b => .request b.req
  | .release b => .request b.req
  | .seek b => .request b.req
  | .have_ b => .request b.req
  | .place b => .request b.req
  | .ask b => .request b.req

/-- A message is given up: an UNDELIVERED report, and its owner is told as a consequence. An Undelivered PRESENCE makes no
report (R90); what the end of a PRESENCE leads to is said where it ends (Line.lean). -/
def State.giveUpMsg (m : Msg) (cause : UndelCause) (attempts : Nat) (s : State) : State :=
  if m.kind = .presence then s
  else (s.report (.undelivered m.kind cause attempts m.about)).push (.undelivered m cause)

/-- Queued messages are given up in queue order, with a cause (R90). -/
def State.giveUpAll (l : List TxMsg) (cause : UndelCause) (s : State) : State :=
  State.forEach l (fun m t => t.giveUpMsg m.msg cause m.attempts) s

/-- A message joins behind those of its own and of lower urgency value, and behind a LEAVING PRESENCE (R89, R102). -/
def insertTx (m : TxMsg) : List TxMsg → List TxMsg
  | [] => [m]
  | h :: t =>
    if m.msg.kind.urgency < h.msg.kind.urgency ∧ h.tag ≠ .leaving then m :: h :: t
    else h :: insertTx m t

/-- A block asks to send a message (R89): not permitted, queue full, or it joins. -/
def State.sendTagged (tag : PresTag) (m : Msg) (s : State) : State :=
  if !s.permits m.kind then s.giveUpMsg m .notPermitted 0
  else if s.line.txq.length ≥ Config.transmitQueueSize then s.giveUpMsg m .queueFull 0
  else s.modLine fun l =>
    { l with txq := insertTx { msg := m, attempts := 0, onLine := false, withdrawn := false, tag := tag } l.txq }

/-- A block asks to send a message (R89). -/
def State.send (m : Msg) (s : State) : State := s.sendTagged .plain m

/-- An owner withdraws its messages that `p` holds of: one not on the line is removed, one on the line is marked (R89). -/
def State.withdraw (p : Msg → Bool) (s : State) : State :=
  s.modLine fun l =>
    { l with txq := (l.txq.filter fun t => !(p t.msg) || t.onLine).map fun t =>
        if (p t.msg) = true then { t with withdrawn := true } else t }

/-- A message that `p` holds of is on the line (R86). -/
def State.sending (p : Msg → Bool) (s : State) : Bool := s.line.txq.any fun t => p t.msg && t.onLine

/-- A message that `p` holds of stands in the Transmit Queue, withdrawn or not. -/
def State.inQueue (p : Msg → Bool) (s : State) : Bool := s.line.txq.any fun t => p t.msg

/-- A message that `p` holds of is queued and not withdrawn. -/
def State.queuedMsg (p : Msg → Bool) (s : State) : Bool := s.line.txq.any fun t => p t.msg && !t.withdrawn

end Sys2Proof.Machine
end

