-- ==== Sys2Proof/Machine/Claims.lean ====
section
/-! DEFINITION. The Claim Unit (chapter 7): asks (R126), the first-heard ruling (R127), yields (R129, R130), disputes and
conflicts (R131, R132), absence and line loss (R137), standalone (R138), the records at START (R139). -/

namespace Sys2Proof.Machine

/-- A HOLD of the resource, with Dispute as given. -/
def isHold (res : Resource) (dispute : Bool) : Msg → Bool
  | .hold b => decide (b.resource = res ∧ b.dispute = dispute)
  | _ => false

/-- A HOLD of any resource. -/
def isAnyHold : Msg → Bool
  | .hold _ => true
  | _ => false

/-- A HOLD of any resource with Dispute set (R131). -/
def isDispute : Msg → Bool
  | .hold b => b.dispute
  | _ => false

/-- A YIELD of the resource. -/
def isYield (res : Resource) : Msg → Bool
  | .yield b => decide (b.resource = res)
  | _ => false

/-- A HANDOFF of the hatch. -/
def isHandoff (b : Nat) : Msg → Bool
  | .handoff h => decide (h.boundary = b)
  | _ => false

/-- The content that a YIELD carries (R125, R129); for a FOREIGN cradle a free value (log entry 28). -/
def cradleContent : Cradle → Option Serial
  | .empty => none
  | .volume v => some v
  | .foreign => Config.foreignYield

/-- The Cradle that a heard YIELD leaves (R130). -/
def cradleFrom : Option Serial → Cradle
  | none => .empty
  | some v => .volume v

/-- Ask for a HOLD (R126, R131). In STANDALONE the mode permits none, and it is Undelivered (R89, R138). -/
def State.sendHold (res : Resource) (dispute busy : Bool) (s : State) : State :=
  let m := Msg.hold { resource := res, dispute := dispute, busy := busy }
  if s.sys.mode = .standalone then s.giveUpMsg m .notPermitted 0 else s.send m

/-- Ask for a YIELD of a record (R129, R131, R137); a drive's carries no volume (R125). -/
def State.sendYield (res : Resource) (s : State) : State :=
  let content := match res with
    | .hatch _ => match s.findRec res with
      | some c => cradleContent c.cradle
      | none => none
    | .bdrive _ _ => none
  s.send (.yield { resource := res, cradle := content })

/-- The use of a held resource ends: the record goes to SELF with YIELDING and the YIELD is asked (R129, R138). -/
def State.beginYield (res : Resource) (s : State) : State :=
  (s.updRec res fun c => { c with own := .yielding }).sendYield res

/-- An ask that arrives while the record is YIELDING cancels the yield (R129); a YIELD on the line is waited for. -/
def State.cancelYield (res : Resource) (s : State) : State :=
  let t := s.withdraw (isYield res)
  if s.sending (isYield res) then t
  else (t.updRec res fun c => { c with own := if c.holder = .self then .held else .none }).push (.obtained res)

/-- An ask joins the Ask List of a record, unless the same asker stands there (R126). A resource already held is told to this asker alone: no
hold is obtained by it, so that no HANDOFF is tested (R134). -/
def State.addAsk (res : Resource) (a : Asker) (s : State) : State :=
  match s.findRec res with
  | none => s
  | some c =>
    if a ∈ c.asks then s
    else
      let t := s.updRec res fun c => { c with asks := c.asks ++ [a] }
      let t := if c.own = .yielding then t.cancelYield res else t
      let t := if c.holder = .self ∧ c.own = .held then t.push (.told res a) else t
      t.push .claimTest

/-- An ask ends (R126). A queued HOLD that no ask needs any more is withdrawn; one on the line is waited for, with the record left
WANTING (R44, R89, R127). -/
def State.dropAsk (res : Resource) (a : Asker) (s : State) : State :=
  match s.findRec res with
  | none => s
  | some c =>
    if a ∈ c.asks then
      let t := (s.updRec res fun c => { c with asks := c.asks.erase a }).push .useEnd
      if c.own = .wanting ∧ c.asks.erase a = [] then
        let t := t.withdraw (isHold res false)
        if s.sending (isHold res false) then t else t.updRec res fun c => { c with own := .none }
      else t
    else s

/-- An asker leaves every Ask List. -/
def State.dropAsker (a : Asker) (s : State) : State :=
  State.forEach (s.claim.records.map ClaimRec.res) (fun res t => t.dropAsk res a) s

/-- The HOLD test of R126 on every record. -/
def State.claimTest (s : State) : State :=
  State.forEach (s.claim.records.map ClaimRec.res)
    (fun res t => match t.findRec res with
      | some c =>
        if c.holder = .none ∧ c.own = .none ∧ c.asks ≠ [] ∧ t.canHold then
          (t.updRec res fun c => { c with own := .wanting }).sendHold res false false
        else t
      | none => t) s

/-- A move names a location. -/
def Move.names (l : Loc) (m : Move) : Bool := decide (m.source = l) || decide (m.dest = l)

/-- The current move still needs the hatch: it names it otherwise than as the source of a GET already completed (R129). -/
def Move.needsHatch (l : Loc) (m : Move) : Bool :=
  decide (m.dest = l) || (decide (m.source = l) && decide (m.stage ≠ .putNext) && decide (m.stage ≠ .put))

/-- The state of a drive ends this station's use of it: EMPTY with no serving request, or OFFLINE with no loaded volume (R22). -/
def Drive.useOver (x : Drive) : Bool :=
  (decide (x.state = .empty) && decide (x.serving = none)) || (decide (x.state = .offline) && decide (x.loaded = none))

/-- This station's use of a resource has ended and no ask stands (R22, R127, R129). The Drive Unit's own report of a boundary drive waits
for no ask: `State.driveUseEnds` (log entry 76). -/
def State.useEnded (c : ClaimRec) (s : State) : Bool :=
  decide (c.asks = []) &&
  match c.res with
  | .hatch _ =>
    match s.resSide c.res with
    | none => false
    | some side =>
      !(s.arm.queue.any (Move.names (.hatch side))) && !(s.arm.current.any (Move.needsHatch (.hatch side))) &&
        decide (c.cradle = .empty) && decide (c.handoffDue = none) &&
        !s.promptStands .hatchClear (.hatch side)
  | .bdrive _ _ =>
    match s.resDrive c.res with
    | none => false
    | some x => x.useOver

/-- The end-of-use test of R129 on every record held with HELD. -/
def State.useEndTest (s : State) : State :=
  State.forEach (s.claim.records.map ClaimRec.res)
    (fun res t => match t.findRec res with
      | some c => if c.holder = .self ∧ c.own = .held ∧ t.useEnded c then t.beginYield res else t
      | none => t) s

/-- The Drive Unit reports that its use of a boundary drive has ended: a hold of it is given up, whatever other ask stands (R22, R27, R129;
log entry 76). -/
def State.driveUseEnds (d : Nat) (s : State) : State :=
  match s.findDrive d, s.driveRes d with
  | some x, some res => if x.useOver && s.heldSelf res then s.beginYield res else s
  | _, _ => s

/-- The subject of a HATCH_CONFLICT: the hatch side, or the local drive address (R132). -/
def State.conflictKey (res : Resource) (s : State) : PromptKey :=
  match s.resSide res, s.resDrive res with
  | some side, _ => { cls := .hatchConflict, subject := .hatch side }
  | none, some x => { cls := .hatchConflict, subject := .drive x.address }
  | none, none => { cls := .hatchConflict, subject := .door }

/-- The conflict is gone at this station; the stoppage ends once it is also acknowledged (R132, R149). -/
def State.endConflict (res : Resource) (s : State) : State :=
  match s.findRec res with
  | none => s
  | some c =>
    if c.dispute ≠ .conflict then s
    else if c.conflictAcked then
      ((s.updRec res fun c => { c with dispute := .none, conflictAcked := false, conflictGone := false }).leavePrompt
        (s.conflictKey res)).push .issue
    else s.updRec res fun c => { c with conflictGone := true }

/-- The neighbour's claim stands: the record becomes PEER and the askers are told the hold is lost (R131). -/
def State.loseTo (res : Resource) (s : State) : State :=
  (s.updRec res fun c => { c with holder := .peer, own := .none, concede := false,
                                  dispute := if c.dispute = .sent then .none else c.dispute }).push (.lost res)

/-- This station gives way in a dispute: PEER, and a YIELD that is not sent again (R131). -/
def State.giveWay (res : Resource) (s : State) : State :=
  ((s.withdraw (isYield res)).loseTo res).sendYield res

/-- The test of R131 on a HOLD heard with Dispute set while the record shows SELF. -/
def State.disputeTest (res : Resource) (busy : Bool) (s : State) : State :=
  match s.findRec res with
  | none => s
  | some c =>
    let sent := fun (t : State) => t.updRec res fun c => { c with dispute := if c.dispute = .conflict then .conflict else .sent }
    if s.engaged res then
      if busy then
        let t := if c.dispute = .none then s.sendHold res true true else s
        let t := if c.dispute = .conflict then t
          else t.updRec res fun c => { c with dispute := .conflict, conflictAcked := false, conflictGone := false }
        t.raise { cls := .hatchConflict, subject := (s.conflictKey res).subject, detail := none, req := none }
      else sent (s.sendHold res true true)
    else if busy then s.giveWay res
    else if s.self < c.neighbour then sent (s.sendHold res true false)
    else s.giveWay res

/-- A neighbour's HOLD is acted on by the first-heard ruling (R127, R131). -/
def State.hearHold (b : HoldBody) (c : ClaimRec) (s : State) : State :=
  let res := b.resource
  let peer := fun (t : State) => t.updRec res fun c => { c with holder := .peer, own := .none, dropped := false }
  match c.holder, c.own with
  | .peer, _ => s.updRec res fun c => { c with dropped := false }
  | .none, .wanting => (peer (s.withdraw (isHold res false))).push (.lost res)
  | .none, .yielding => peer (s.withdraw (isYield res))
  | .none, _ => peer s
  | .self, own =>
    if b.dispute then s.disputeTest res b.busy
    else if own = .yielding then peer (s.withdraw (isYield res))
    else if c.dispute = .none then
      (s.sendHold res true (s.engaged res)).updRec res fun c => { c with dispute := .sent }
    else s

/-- A neighbour's YIELD frees the resource or ends a dispute (R130). Each YIELD heard runs a planning pass (R47). A CONFLICT
stays until it is acknowledged, whoever holds the resource (R132; log entry 65). A Cradle it empties is tested for orders held back
(R69) and for the end of the hatch's use (R129). -/
def State.hearYield (b : YieldBody) (c : ClaimRec) (s : State) : State :=
  let res := b.resource
  let setCradle := fun (c : ClaimRec) => match res with
    | .hatch _ => { c with cradle := cradleFrom b.cradle }
    | .bdrive _ _ => c
  match c.holder with
  | .peer =>
    let t := (s.endConflict res).updRec res fun c =>
      setCradle { c with holder := .none, own := .none, dropped := false,
                         dispute := if c.conflictGone then c.dispute else .none }
    (t.push .plan).push .claimTest
  | .self =>
    match c.dispute with
    | .none => s.push .plan
    | .sent => (((s.updRec res fun c => setCradle { c with dispute := .none }).push .plan).push .issue).push .useEnd
    | .conflict => ((((s.updRec res setCradle).endConflict res).push .plan).push .issue).push .useEnd
  | .none => (s.updRec res fun c => { c with dropped := false }).push .plan

/-- The HANDOFFs owed to a neighbour whose presence has changed are tested (R134, R137). -/
def State.testOwedTo (p : Nat) (s : State) : State :=
  State.forEach ((s.claim.records.filter fun c => decide (c.neighbour = p)).map ClaimRec.res) (fun res t => t.push (.handoffOn res)) s

/-- The neighbour of records has become ABSENT (R137). -/
def State.claimAbsent (p : Nat) (s : State) : State :=
  let t := State.forEach ((s.claim.records.filter fun c => decide (c.neighbour = p)).map ClaimRec.res)
    (fun res t => match t.findRec res with
      | some c => match c.holder with
        | .peer => (t.updRec res fun c => { c with holder := .none, own := .none }).endConflict res
        | .self => (t.updRec res fun c => { c with dispute := if c.dispute = .sent then .none else c.dispute }).endConflict res
        | .none => t.endConflict res
      | none => t) s
  (t.testOwedTo p).push .claimTest

/-- Entry to DETACHED or DUPLICATE: every record showing SELF becomes NONE with Dropped set; a conflict there is gone; a
HANDOFF owed makes the Claim Unit ask for the hold (R126, R137). A record that owes the YIELD of a hold dropped before has its own state none
again and keeps Dropped, so that the next recovery settles it (DESIGN CHOICE, log entry 100). -/
def State.dropHolds (s : State) : State :=
  State.forEach (s.claim.records.map ClaimRec.res)
    (fun res t => match t.findRec res with
      | some c =>
        if c.holder = .self then
          (t.updRec res fun c =>
            { c with holder := .none, own := .none, dropped := true, concede := false,
                     dispute := if c.dispute = .sent then .none else c.dispute,
                     asks := if c.handoffDue ≠ none ∧ Asker.claimUnit ∉ c.asks then c.asks ++ [.claimUnit] else c.asks }).endConflict res
        else if c.own = .yielding then t.updRec res fun c => { c with own := .none }
        else t
      | none => t) s

/-- A resource is engaged, or named by the current move's PUT: a record of it is kept at entry to STANDALONE (R138). -/
def State.atWork (res : Resource) (s : State) : Bool :=
  s.engaged res || (s.arm.current.any fun m => decide (s.locRes m.dest = some res))

/-- This station uses a drive, so that a boundary drive wants its hold: the use has not ended (R22), and it is not RESERVED for a request
whose own hold is pending (R24; log entry 23). -/
def State.driveInUse (x : Drive) (s : State) : Bool :=
  !x.useOver && !(s.rm.queue.any fun q => decide (x.serving = some (.request q.req)) && decide (q.state = .claiming))

/-- The Drive Unit's ask for the record of a boundary drive in use stands in its list, so that RESUME asks again (R22, R138). -/
def State.standAsk (res : Resource) (s : State) : State :=
  match s.resDrive res with
  | none => s
  | some x =>
    if s.driveInUse x then
      s.updRec res fun c => { c with asks := if Asker.driveUnit x.address ∈ c.asks then c.asks else c.asks ++ [.driveUnit x.address] }
    else s

/-- A record showing SELF with HELD is given up in STANDALONE: kept while the arm is at work on it, and, a hatch with Handoff Due, until its
HANDOFF passes it (R138). -/
def State.giveUpAlone (res : Resource) (s : State) : State :=
  match s.findRec res with
  | none => s
  | some c =>
    let held := decide (c.holder = .self) && decide (c.own = .held)
    let t := s.updRec res fun c => { c with alone := held && s.atWork res }
    if held && !s.atWork res && decide (c.handoffDue = none) then (t.standAsk res).beginYield res else t

/-- Entry to STANDALONE gives up each record showing SELF with HELD that is not kept (R138). -/
def State.yieldAlone (s : State) : State :=
  State.forEach (s.claim.records.map ClaimRec.res) (fun res t => t.giveUpAlone res) s

/-- An answered order examines again, once its effects are done, the records that entry to STANDALONE kept because the arm was at work on
them (R138); a hold obtained since is not among them. -/
def State.examineAlone (s : State) : State :=
  if s.sys.mode = .standalone then
    State.forEach ((s.claim.records.filter ClaimRec.alone).map ClaimRec.res) (fun res t => t.giveUpAlone res) s
  else s

/-- What an answered order changes in the claims: a dispute lost while engaged is conceded (R131), whatever the neighbour has done since
(log entry 92), and a conflict over the resource sends a Dispute HOLD with Busy clear (R132), unless the conflict is gone and awaits its ACK alone (log entry 80). -/
def State.claimAnswered (l : Loc) (s : State) : State :=
  match s.locRes l with
  | none => s
  | some res => match s.findRec res with
    | none => s
    | some c =>
      if c.concede then (s.loseTo res).endConflict res
      else if c.dispute = .conflict ∧ c.holder = .self ∧ c.conflictGone = false then s.sendHold res true false
      else s

/-- Entry to STANDALONE leaves no HOLD to be sent (R126, R131, R138; log entry 52): a plain one is withdrawn and its record wants no more,
a Dispute HOLD is Undelivered NOT_PERMITTED; one on the line is withdrawn and waited for. -/
def State.quietHolds (s : State) : State :=
  let disputes := s.line.txq.filter fun m => isDispute m.msg && !m.onLine
  let t := s.withdraw isAnyHold
  let quiet := fun (c : ClaimRec) => if c.own = .wanting ∧ t.inQueue (isHold c.res false) = false then { c with own := .none } else c
  (t.modClaim fun u => { u with records := u.records.map quiet }).giveUpAll disputes .notPermitted

/-- An end of the give-way YIELD, witnessed or Undelivered, ends a conflict (R131, R132). -/
def State.endGiveWay (res : Resource) (s : State) : State :=
  match s.findRec res with
  | some c => if c.holder = .peer then s.endConflict res else s
  | none => s

/-- Own HOLD witnessed (R127): only a record that is not the neighbour's becomes SELF with HELD; a Dispute HOLD changes
nothing. -/
def State.holdWitnessed (b : HoldBody) (s : State) : State :=
  if b.dispute then s
  else
    match s.findRec b.resource with
    | none => s
    | some c =>
      if c.holder = .none then
        ((s.updRec b.resource fun c => { c with holder := .self, own := .held, dropped := false, alone := false }).push
          (.obtained b.resource)).push .useEnd
      else s

/-- Own YIELD witnessed (R129, R137): one that a YIELDING record waits for gives the resource up, its CONFLICT standing until it is gone and
acknowledged (R132; log entry 65); any other is a give-way YIELD, which leaves the record as it is (R131). -/
def State.yieldWitnessed (b : YieldBody) (s : State) : State :=
  match s.findRec b.resource with
  | none => s
  | some c =>
    if c.own = .yielding then
      ((s.updRec b.resource fun c => { c with holder := .none, own := .none, dropped := false,
                                               dispute := if c.dispute = .sent then .none else c.dispute }).endConflict
        b.resource).push .claimTest
    else s.endGiveWay b.resource

/-- Own YIELD, withdrawn while on the line, whose attempt failed: the record returns to HELD, or, where the hold was
dropped, loses its owed YIELD (R89, R129). An ask that has ended meanwhile leaves the use to end. -/
def State.yieldKept (res : Resource) (s : State) : State :=
  match s.findRec res with
  | some c => if c.own = .yielding then
      (((s.updRec res fun c => { c with own := if c.holder = .self then .held else .none }).push (.obtained res)).push .claimTest).push
        .useEnd
    else s
  | none => s

/-- A HOLD, withdrawn while on the line, whose attempt failed leaves nothing wanted; an ask that has come meanwhile is tested
(R89, R126). -/
def State.holdKept (res : Resource) (s : State) : State :=
  (s.updRec res fun c => if c.own = .wanting then { c with own := .none } else c).push .claimTest

/-- A Dispute HOLD that cannot be sent, or was Undelivered: the neighbour's claim stands, at once or when the order in flight is
answered (R131). -/
def State.disputeLost (res : Resource) (s : State) : State :=
  match s.findRec res with
  | none => s
  | some c =>
    if c.holder = .self then
      if s.engaged res then s.updRec res fun c => { c with concede := true }
      else ((s.withdraw (isYield res)).loseTo res).endConflict res
    else s

/-- A HANDOFF becomes owed for the reel in the cradle; a hatch not held is asked for (R126, R134, R137; log entry 69). -/
def State.owe (res : Resource) (due : HandoffDue) (v : Serial) (s : State) : State :=
  let t := s.updRec res fun c => { c with handoffDue := some due, owed := some v }
  (if t.heldSelf res then t else t.addAsk res .claimUnit).push (.handoffOn res)

/-- YIELDING records without a YIELD in the Transmit Queue have it asked again at each PRESENCE asked (R101, R129, R137). -/
def State.repeatYields (s : State) : State :=
  State.forEach (s.claim.records.map ClaimRec.res)
    (fun res t => match t.findRec res with
      | some c => if c.own = .yielding ∧ t.inQueue (isYield res) = false then t.sendYield res else t
      | none => t) s

/-- The record made at START for a resource (R139). -/
def newRec (res : Resource) (neighbour : Nat) : ClaimRec where
  res := res
  neighbour := neighbour
  holder := .none
  own := .none
  asks := []
  dropped := false
  dispute := .none
  conflictAcked := false
  conflictGone := false
  cradle := .empty
  handoffDue := none
  owed := none
  concede := false
  alone := false

/-- The order of the records: hatches before drives, then by boundary, then by index (R124). -/
def resBefore (a b : ClaimRec) : Bool :=
  match a.res, b.res with
  | .hatch i, .hatch j => decide (i < j)
  | .hatch _, .bdrive _ _ => true
  | .bdrive _ _, .hatch _ => false
  | .bdrive i k, .bdrive j l => decide (i < j) || (decide (i = j) && decide (k < l))

/-- The neighbour on the side of a drive position. -/
def State.posNeighbour (pos : DrivePos) (s : State) : Nat :=
  match pos with
  | .boundary side _ => s.sideStation side
  | .loc => s.self

/-- The Claim View at START: one record for each configured hatch and boundary drive (R124, R139). -/
def State.makeRecords (s : State) : List ClaimRec :=
  let hatches := ([Side.left, Side.right].filter fun side => s.hasHatch side).map fun side =>
    newRec (s.sideRes side) (s.sideStation side)
  let drives := s.drv.drives.filterMap fun x => (s.posRes x.position).map fun res => newRec res (s.posNeighbour x.position)
  (hatches ++ drives).foldl (fun acc c => insertBefore resBefore c acc) []

end Sys2Proof.Machine
end

