-- ==== Sys2Proof/Machine/Drives.lean ====
section
/-! DEFINITION. The Drive Unit (chapter 2) without its requests: eligibility (R28), the choice of a drive (R29), what a free
drive sets off (R27), and the counts of PRESENCE. -/

namespace Sys2Proof.Machine

/-- A boundary drive's claim lets it be eligible: held by SELF, or shown NONE while a HOLD can be sent (R28). -/
def State.claimEligible (res : Resource) (s : State) : Bool :=
  match s.findRec res with
  | none => false
  | some c => (decide (c.holder = .self) && decide (c.own = .held)) || (decide (c.holder = .none) && s.canHold)

/-- A drive is eligible (R28). -/
def State.eligible (x : Drive) (s : State) : Bool :=
  decide (x.state = .empty) && !x.cleanDue &&
  match s.posRes x.position with
  | none => true
  | some res => s.claimEligible res

/-- The required class of a Class Wish and a reel class (R28). -/
def requiredClass (wish : Option Nat) (cls : Nat) : Nat := max (wish.getD 0) cls

/-- The required class of a request whose reel is known (R41). -/
def Request.required (q : Request) : Nat := requiredClass q.classWish (q.reelClass.getD 1)

/-- Order of choice among drives: lowest class, then lowest address (R29). -/
def driveBefore (a b : Drive) : Bool := decide (a.cls < b.cls) || (decide (a.cls = b.cls) && decide (a.address < b.address))

/-- The local drive that a required class gets: a via-hatch PLACE takes no other (R29). -/
def State.chooseLocal (k : Nat) (s : State) : Option Drive :=
  leastBy driveBefore (s.drv.drives.filter fun x => decide (x.position = .loc) && decide (k ≤ x.cls) && s.eligible x)

/-- The drive that the arbiter gives a required class: local drives first, then boundary drives (R29). -/
def State.chooseDrive (k : Nat) (s : State) : Option Drive :=
  match s.chooseLocal k with
  | some x => some x
  | none => leastBy driveBefore (s.drv.drives.filter fun x => decide (x.position ≠ .loc) && decide (k ≤ x.cls) && s.eligible x)

/-- Free local drives of a class, for PRESENCE (R28). -/
def State.freeCount (k : Nat) (s : State) : Nat :=
  (s.drv.drives.filter fun x => decide (x.position = .loc) && decide (x.cls = k) && decide (x.state = .empty) && !x.cleanDue).length

/-- The station has an eligible local drive of at least a class: Free Drive of a HAVE (R104). -/
def State.freeDriveFor (k : Nat) (s : State) : Bool := (s.chooseLocal k).isSome

/-- Some drive here, or a free drive that a PRESENT peer last announced, has at least the class (R46). -/
def State.classAvailable (k : Nat) (s : State) : Bool :=
  (s.drv.drives.any fun x => decide (k ≤ x.cls)) ||
  (s.line.roster.any fun e => decide (e.state = .present) &&
    match e.presence with
    | none => false
    | some b => (decide (0 < b.free1) && decide (k ≤ 1)) || (decide (0 < b.free2) && decide (k ≤ 2)) ||
        (decide (0 < b.free3) && decide (k ≤ 3)) || (decide (0 < b.free4) && decide (k ≤ 4)))

/-- A drive becomes EMPTY, which sets off R27 and a planning pass (R47). -/
def State.driveToEmpty (d : Nat) (s : State) : State :=
  (((s.updDrive d fun x => { x with state := .empty, loaded := none, serving := none, cleaningReel := none }).push
    (.driveEmpty d)).push .plan)

/-- A RESERVED or LOADING drive loses its reservation (R24, R25). -/
def State.releaseDrive (d : Nat) (s : State) : State :=
  match s.findDrive d with
  | some x => if x.state = .reserved ∨ x.state = .loading then s.driveToEmpty d else s
  | none => s

/-- The drives RESERVED or LOADING for a request are released (R44). -/
def State.releaseDrivesOf (r : ReqNo) (s : State) : State :=
  State.forEach (s.drv.drives.filter fun x => decide (x.serving = some (.request r))) (fun x t => t.releaseDrive x.address) s

/-- A drive becomes RESERVED for a request and its Assigned drive (R24, R29). -/
def State.reserveDrive (d : Nat) (r : ReqNo) (s : State) : State :=
  (s.updDrive d fun x => { x with state := .reserved, serving := some (.request r) }).updReq r fun q => { q with drive := some d }

/-- A drive goes OFFLINE (R36): with no loaded volume its use has ended, and the Drive Unit needs no hold for it any more; with its reel
the use goes on, and the Drive Unit's ask stands (R22, R126). -/
def State.driveOff (d : Nat) (loaded : Option Serial) (s : State) : State :=
  let t := s.updDrive d fun x =>
    { x with state := .offline, loaded := loaded, serving := none, graceExpiry := none, cleaningEnd := none, cleaningReel := none,
             cleaningStart := none }
  ((if loaded = none then t.dropAsker (.driveUnit d) else t).push .useEnd).driveUseEnds d

/-- The volume is the Cleaning reel of a drive (R33). -/
def State.isCleaningReel (v : Serial) (s : State) : Bool := s.drv.drives.any fun x => decide (x.cleaningReel = some v)

end Sys2Proof.Machine
end

