-- ==== Sys2Proof/Machine/Arm.lean ====
section
/-! DEFINITION. The Arm Dispatcher (chapter 4): the Arm Order Queue (R67, R68), route kinds (R66), issuing orders (R69, R70) and
the allowance (R71). What an answer does is in Moves.lean. -/

namespace Sys2Proof.Machine

/-! ## Routes and the queue -/

/-- A location is an entry cell. -/
def Loc.isEntry : Loc → Bool
  | .entry _ => true
  | _ => false

/-- A location is a slot. -/
def Loc.isSlot : Loc → Bool
  | .slot _ => true
  | _ => false

/-- The route kind of a source and a destination (R66). -/
def routeOf (src dst : Loc) : Route :=
  match src, dst with
  | .entry _, _ => .entryAny
  | _, .entry _ => .entryAny
  | .slot _, .hatch _ => .slotHatch
  | .hatch _, .slot _ => .slotHatch
  | .drive _, .hatch _ => .driveHatch
  | .hatch _, .drive _ => .driveHatch
  | _, _ => .slotDrive

/-- The Expected Time of a route kind, in milliseconds (R71, R193). -/
def expectedMs (c : StartUp) : Route → Nat
  | .slotDrive => 1000 * c.expSlotDrive
  | .slotHatch => 1000 * c.expSlotHatch
  | .entryAny => 1000 * c.expEntryAny
  | .driveHatch => 1000 * c.expDriveHatch

/-- The Limit of a route kind, in milliseconds, rounded down (R71). -/
def limitMs (c : StartUp) (k : Route) : Nat := expectedMs c k * (100 + c.slowMargin) / 100

/-- The Arm Order Queue has room (R67). -/
def State.armRoom (s : State) : Bool := decide (s.arm.queue.length < Config.armQueueSize)

/-- Every move queued or current. -/
def State.moves (s : State) : List Move := s.arm.queue ++ s.arm.current.toList

/-- A move for the volume is queued or current. -/
def State.hasMove (v : Serial) (s : State) : Bool := s.moves.any fun m => decide (m.volume = v)

/-- The reel is the source of a queued move, or of a current one whose GET has not completed (R46, R48; log entry 29). -/
def State.isMoveSource (v : Serial) (s : State) : Bool :=
  (s.arm.queue.any fun m => decide (m.volume = v)) ||
  (s.arm.current.any fun m => decide (m.volume = v) && decide (m.stage = .get))

/-- A move goes behind those of its own and of higher priority (R67). -/
def insertMove (m : Move) : List Move → List Move
  | [] => [m]
  | h :: t => if h.priority < m.priority then m :: h :: t else h :: insertMove m t

/-- The priority of a move: that of its serving request, or 8 (R67). -/
def State.movePriority (r : Option ReqNo) (s : State) : Nat :=
  match r.bind fun n => s.findReq n with
  | some q => q.priority
  | none => 8

/-- A move joins the queue, which has room; a cell it goes to becomes EXPECTING (R12, R67). -/
def State.queueMove (kind : MoveKind) (r : Option ReqNo) (v : Serial) (src dst : Loc) (purpose : Option CellPurpose) (s : State) : State :=
  let m : Move := { kind := kind, req := r, volume := v, source := src, dest := dst, purpose := purpose, stage := .queued,
                    entered := s.acct.stationTime, priority := s.movePriority r, afterFailure := false }
  let t := match dst, purpose with
    | .entry c, some p => s.putCell c (.expecting v p)
    | _, _ => s
  (t.modArm fun a => { a with queue := insertMove m a.queue }).push .issue

/-- The cell that a move had taken EXPECTING, wherever its expectation has moved, becomes EMPTY (R13, R67, R75). -/
def State.freeMoveCell (m : Move) (s : State) : State :=
  match m.dest, m.purpose with
  | .entry _, some p =>
    (match s.cellFor m.volume p with
     | some c => s.emptyCell c
     | none => s)
  | _, _ => s

/-- What the end of a move leaves behind in the claims: its asks end (R126). -/
def State.moveGone (m : Move) (s : State) : State := (s.dropAsker (.move m.volume)).push .useEnd

/-- Queued moves are removed (R67). -/
def State.removeMoves (p : Move → Bool) (s : State) : State :=
  let gone := s.arm.queue.filter p
  if gone = [] then s
  else
    (State.forEach gone (fun m t => (t.freeMoveCell m).moveGone m)
      (s.modArm fun a => { a with queue := a.queue.filter fun m => !p m })).push .room

/-- The current move changes. -/
def State.updCurrent (f : Move → Move) (s : State) : State := s.modArm fun a => { a with current := a.current.map f }

/-- The current move ends: it leaves the arm free (R72, R75). -/
def State.endMove (m : Move) (s : State) : State := ((s.modArm fun a => { a with current := none }).moveGone m).push .issue

/-! ## Asks for moves without a request -/

/-- The destination of a homed reel's way to its slot; a retired one goes to the lowest EMPTY cell, or to its slot with Exit
Pending set (R11). -/
def State.homeDest (e : Entry) (s : State) : Loc × Option CellPurpose × State :=
  let slot := Loc.slot (e.slot.getD 0)
  if e.retired then
    match s.lowestEmptyCell with
    | some c => (.entry c, some .retire, s)
    | none => (slot, none, s.updEntry e.volume fun x => { x with exitPending := true })
  else (slot, none, s)

/-- The STOW or RETURN of an IDLE_LOADED drive is asked: queued, or waiting for room or for the hold of its boundary drive
(R27, R37, R67, R68). A visiting reel whose home hatch is no longer configured stays in its drive (log entry 57). -/
def State.stowDrive (d : Nat) (s : State) : State :=
  match s.findDrive d with
  | none => s
  | some x =>
    match x.state, x.loaded with
    | .idleLoaded, some v =>
      if s.hasMove v ∨ x.parked = true then s
      else if !s.driveHeld x then
        match s.posRes x.position with
        | some res => s.addAsk res (.driveUnit d)
        | none => s
      else if s.armRoom then
        match s.findEntry v with
        | none => s
        | some e =>
          let t := match s.posRes x.position with
            | some res => s.dropAsk res (.driveUnit d)
            | none => s
          match e.home with
          | .here =>
            let (dst, p, t) := t.homeDest e
            t.queueMove .stow none v (.drive d) dst p
          | .station h =>
            (match s.sideOf h with
             | some side => if s.hasHatch side then t.queueMove .ret none v (.drive d) (.hatch side) none else s
             | none => s)
      else s
    | _, _ => s

/-- A drive goes to IDLE_LOADED and its STOW or RETURN is asked (R26, R31, R32, R34, R37). -/
def State.driveToIdle (d : Nat) (s : State) : State :=
  (s.updDrive d fun x => { x with state := .idleLoaded, serving := none, graceExpiry := none, cleaningEnd := none,
                                  cleaningStart := none, parked := false }).stowDrive d

/-- The slot in which a reel is HOME. -/
def State.homeSlot (v : Serial) (s : State) : Option Nat :=
  (s.findEntry v).bind fun e => if e.state = .home then e.slot else none

/-- The CLEAN move of a drive RESERVED for cleaning is asked (R33, R68). Where the reel is HOME no more, the ask has no old form left: the
drive is EMPTY again, and R27 chooses another reel, as at EMPTY_SOURCE (R34; DEDUCED, log entry 107). -/
def State.cleanMove (d : Nat) (s : State) : State :=
  match s.findDrive d with
  | none => s
  | some x =>
    match x.state, x.serving, x.cleaningReel with
    | .reserved, some .cleaning, some v =>
      if s.moves.any fun m => decide (m.kind = .clean) && decide (m.volume = v) then s
      else
        (match s.homeSlot v with
         | some n => if s.armRoom && !s.hasMove v then s.queueMove .clean none v (.slot n) (.drive d) none else s
         | none => s.driveToEmpty d)
    | _, _, _ => s

/-- An ENTRY_IN of the volume from the cell is queued or current. -/
def State.hasEntryIn (v : Serial) (c : Nat) (s : State) : Bool :=
  s.moves.any fun m => decide (m.volume = v) && decide (m.kind = .entryIn) && decide (m.source = .entry c)

/-- The waits for an ENTRY_IN of the volume are over (R68, R75, R76). -/
def State.clearEntryIn (v : Serial) (s : State) : State :=
  s.modInv fun i => { i with entryInFailed := i.entryInFailed.erase v, entryInWaits := i.entryInWaits.erase v,
                             slotWaits := i.slotWaits.erase v }

/-- The cell from which a reel AT_ENTRY in `c` is fetched: `c` while it holds or expects the reel, else the cell that its expectation has
moved to, if there is one (R13; DEDUCED, log entry 93). -/
def State.fetchCell (v : Serial) (c : Nat) (s : State) : Nat :=
  if s.cellAt c = .occupied (some v) ∨ s.cellAt c = .expecting v .ret then c else (s.cellFor v .ret).getD c

/-- An ENTRY_IN with no request is queued for a reel AT_ENTRY, whatever move from another cell or other cell names the volume (R13);
refused for room it waits in the Inventory Unit (R19, R67, R68). -/
def State.queueEntryIn (v : Serial) (s : State) : State :=
  match s.findEntry v with
  | none => s
  | some e =>
    match e.state, e.slot with
    | .atEntry c, some n =>
      let t := s.clearEntryIn v
      if s.hasEntryIn v (s.fetchCell v c) then t
      else if s.armRoom then t.queueMove .entryIn none v (.entry (s.fetchCell v c)) (.slot n) none
      else t.modInv fun i => { i with entryInWaits := i.entryInWaits ++ [v] }
    | _, _ => s

/-- An ENTRY_IN with no request is asked for a reel AT_ENTRY, unless a cell awaits its return: it is then asked when the reel is back
(R13, R76). -/
def State.askEntryIn (v : Serial) (s : State) : State :=
  if (s.cellFor v .ret).isSome then s.clearEntryIn v else s.queueEntryIn v

/-- A TAKE_IN with no request, from the hatch to the reel's slot, is asked; refused for room it waits with the Claim Unit
(R134, R135; log entry 13). -/
def State.askTakeIn (v : Serial) (s : State) : State :=
  match s.findEntry v with
  | none => s
  | some e =>
    match e.state with
    | .inHatch side =>
      let t := s.modClaim fun u => { u with takeInWaits := u.takeInWaits.erase v }
      if s.hasMove v then t
      else if s.armRoom then
        let (dst, p, t) := t.homeDest e
        t.queueMove .takeIn none v (.hatch side) dst p
      else t.modClaim fun u => { u with takeInWaits := u.takeInWaits ++ [v] }
    | _ => s

/-- The retired HOME entry with Exit Pending set of the lowest slot (R11). -/
def State.exitWaiting (s : State) : Option Entry :=
  leastBy (fun a b => decide (a.slot.getD 0 < b.slot.getD 0))
    (s.inv.entries.filter fun e => e.exitPending && e.retired && decide (e.state = .home))

/-- A RETIRE_OUT is queued for the first Exit Pending entry, if a cell is EMPTY and the queue has room (R11). -/
def State.serveExit (s : State) : State :=
  match s.exitWaiting, s.lowestEmptyCell with
  | some e, some c =>
    if s.armRoom then
      (s.updEntry e.volume fun x => { x with exitPending := false }).queueMove .retireOut none e.volume (.slot (e.slot.getD 0))
        (.entry c) (some .retire)
    else s
  | _, _ => s

/-! ## Issuing orders -/

/-- A location is not a drive that is OFFLINE (R69). -/
def State.locOnline (l : Loc) (s : State) : Bool :=
  match l with
  | .drive d => s.drv.drives.all fun x => !(decide (x.address = d) && decide (x.state = .offline))
  | _ => true

/-- A location is no shared resource, or one held by SELF (R69). -/
def State.locHeld (l : Loc) (s : State) : Bool :=
  match s.locRes l with
  | none => true
  | some res => s.heldSelf res

/-- No HATCH_CONFLICT stands for the location (R69, R132). -/
def State.locQuiet (l : Loc) (s : State) : Bool :=
  match s.locRes l with
  | none => true
  | some res => !s.conflictOn res

/-- A location can take a PUT as far as its cradle goes (R133). -/
def State.cradleFree (l : Loc) (s : State) : Bool :=
  match l with
  | .hatch side => decide (s.cradleOf side = .empty)
  | _ => true

/-- The bay condition allows an order at the location (R69). -/
def State.bayAllows (l : Loc) (s : State) : Bool :=
  match s.inv.bay with
  | .normal => true
  | .doorOpen => false
  | .audit => !l.isSlot

/-- The PUT of a move may be issued (R69). -/
def State.mayPut (m : Move) (s : State) : Bool :=
  (decide (s.sys.mode = .active) || decide (s.sys.mode = .standalone)) && s.bayAllows m.dest && s.locOnline m.dest &&
    s.locHeld m.dest && s.locQuiet m.dest && s.cradleFree m.dest

/-- The GET of a move may be issued (R69). -/
def State.mayGet (m : Move) (s : State) : Bool :=
  decide (s.sys.mode = .active) && s.bayAllows m.source && s.bayAllows m.dest && s.locOnline m.source && s.locHeld m.source &&
    s.locQuiet m.source && s.locHeld m.dest && s.cradleFree m.dest

/-- The next order number (R70). -/
def nextOrder (n : Nat) : Nat := if n < Config.max8 then n + 1 else 1

/-- An order of the current move is issued into the Order Slot; a PUT to a drive makes it LOADING (R24, R70). -/
def State.issueOrder (kind : OrderKind) (m : Move) (s : State) : State :=
  let loc := match kind with
    | .get => m.source
    | .put => m.dest
  let o : Order := { number := nextOrder s.arm.lastOrder, kind := kind, loc := loc, volume := m.volume,
                     route := routeOf m.source m.dest, taken := false, counted := 0, runFrom := none, slow := false }
  let stage := match kind with
    | .get => Stage.get
    | .put => Stage.put
  let t := s.modArm fun a => { a with lastOrder := nextOrder a.lastOrder, inFlight := some o, current := some { m with stage := stage } }
  match kind, m.dest with
  | .put, .drive d => t.updDrive d fun x => if x.state = .reserved then { x with state := .loading } else x
  | _, _ => t

/-- A move whose GET is held back for want of the hold of its source asks for it (R69, R126). -/
def State.askFor (l : Loc) (m : Move) (s : State) : State :=
  match s.locRes l with
  | none => s
  | some res => if s.heldSelf res then s else s.addAsk res (.move m.volume)

/-- A move whose PUT is held back for want of a hold, or of an EMPTY cradle, for which the hatch counts as not held, asks for it (R69, R126,
R133). -/
def State.askForPut (m : Move) (s : State) : State :=
  match s.locRes m.dest with
  | none => s
  | some res => if s.heldSelf res && s.cradleFree m.dest then s else s.addAsk res (.move m.volume)

/-- The moves passed over for want of a hold ask for it (R69); outside ACTIVE their GETs wait for the mode (log entry 51). -/
def State.askHolds (l : List Move) (s : State) : State :=
  if s.sys.mode = .active then State.forEach l (fun m t => (t.askFor m.source m).askForPut m) s else s

/-- The Arm Dispatcher tests whether an order may be issued, and issues it (R69). -/
def State.issue (s : State) : State :=
  if s.arm.inFlight.isSome || s.arm.retryEnd.isSome then s
  else
    match s.arm.current with
    | some m =>
      (match m.stage with
       | .get => if s.mayGet m then s.issueOrder .get m else s.askHolds [m]
       | _ => if s.mayPut m then s.issueOrder .put m else s.askForPut m)
    | none =>
      match s.arm.queue.find? fun m => s.mayGet m with
      | some m =>
        let t := s.askHolds (s.arm.queue.takeWhile fun n => !s.mayGet n)
        ((t.modArm fun a => { a with queue := a.queue.erase m }).issueOrder .get m).push .room
      | none => s.askHolds s.arm.queue

/-! ## The allowance -/

/-- Elapsed of an order (R71). -/
def State.elapsed (o : Order) (s : State) : Nat :=
  match o.runFrom with
  | some t => o.counted + (s.sys.clock - t)
  | none => o.counted

/-- The millisecond at which Elapsed reaches `n`, while it runs. -/
def Order.reaches (n : Nat) (o : Order) : Option Nat := o.runFrom.map fun t => t + (n - o.counted)

/-- The first TAKE ORDER starts the allowance, which waits while the door is open (R70, R71). -/
def State.takeInFlight (s : State) : State :=
  s.modArm fun a => { a with inFlight := a.inFlight.map fun o =>
    if o.taken then o
    else { o with taken := true, runFrom := if s.inv.bay = .doorOpen then none else some s.sys.clock } }

/-- The door opens: the count stands (R71). -/
def State.freezeOrder (s : State) : State :=
  s.modArm fun a => { a with inFlight := a.inFlight.map fun o => { o with counted := s.elapsed o, runFrom := none } }

/-- The door closes: the count of an order taken goes on (R71). -/
def State.thawOrder (s : State) : State :=
  s.modArm fun a => { a with inFlight := a.inFlight.map fun o =>
    if o.taken ∧ o.runFrom = none then { o with runFrom := some s.sys.clock } else o }

end Sys2Proof.Machine
end

