-- ==== Sys2Proof/Machine/Requests.lean ====
section
/-! DEFINITION. The Request Manager (chapter 3): reports (R64), ends (R44), lookup (R46), moves of requests (R49, R54), entry to
MOUNTED (R25, R53), remount (R30), dismount (R26, R59) and cancel (R60, R61). -/

namespace Sys2Proof.Machine

/-! ## Reports and outcomes -/

/-- A REQUEST report, for a request whose origin is this station (R64). -/
def State.reqReport (q : Request) (ev : ReqEvent) (s : State) : State :=
  if q.req.origin = s.self then s.report (.request q.req q.jobTag ev) else s

/-- An OUTCOME is asked for a TAKEN_IN request (R115). -/
def State.sendOutcome (r : ReqNo) (ev : OutcomeEvent) (s : State) : State := s.send (.outcome { req := r, event := ev })

/-- How a request ends (R43). -/
inductive End
  | dismounted (errors : Nat)
  | cancelled
  | failed (code : FailCode)
deriving DecidableEq, Repr

/-- The report of an end (R64). -/
def End.report : End → ReqEvent
  | .dismounted n => .dismounted n
  | .cancelled => .cancelled
  | .failed c => .failed c

/-- The OUTCOME of an end (R115). -/
def End.outcome : End → OutcomeEvent
  | .dismounted n => .dismounted n
  | .cancelled => .cancelled
  | .failed c => .failed c

/-- Step 1 of an end: the report, or the OUTCOME of a TAKEN_IN request (R44). -/
def State.tellEnd (q : Request) (e : End) (s : State) : State :=
  if q.role = .takenIn then s.sendOutcome q.req e.outcome else s.reqReport q e.report

/-! ## The end of a request -/

/-- A request waits for its reel in an entry cell: its ENTRY_IN waits for room (R49), or its RING_IN could not be raised (R56). -/
def Request.cellWait (v : Serial) (q : Request) : Bool :=
  decide (q.roomWait = some .entryIn) ||
  match q.promptPending with
  | some (.prompt .ringIn sub _) => decide (sub = .volume v)
  | _ => false

/-- A reel that an ended request leaves in an entry cell is put away by an ENTRY_IN with no request, unless another request
still waits for it there or it is on its way out (R44 step 3, R55, R60). -/
def State.clearCell (q : Request) (s : State) : State :=
  match q.reel with
  | none => s
  | some v =>
    match s.findEntry v with
    | none => s
    | some e =>
      match e.state with
      | .atEntry _ =>
        if (q.state = .operator ∨ q.state = .moving ∨ q.cellWait v = true) ∧ s.promptStands .ringIn (.volume v) = false ∧
            (s.rm.queue.any fun p => decide (p.req ≠ q.req ∧ p.reel = some v) && p.cellWait v) = false ∧ e.retired = false
        then s.push (.entryIn v) else s
      | _ => s

/-- The current move serves the request and holds the reel in the gripper, its PUT not issued. -/
def State.holdsReelFor (r : ReqNo) (s : State) : Bool :=
  s.arm.current.any fun m => decide (m.req = some r) && decide (m.stage = .putNext)

/-- A visiting reel that an ended request leaves in a hatch is looked at for its return in place (R136; log entry 68). A homed one lies on
there: no TAKE_IN is asked for it (DESIGN CHOICE, log entry 97). -/
def State.clearHatch (q : Request) (s : State) : State :=
  match (q.reel.bind fun v => s.findEntry v).map Entry.state with
  | some (.inHatch side) => s.push (.stray (s.sideRes side))
  | _ => s

/-- The end of a request (R44): its report or OUTCOME, its claims, its moves, its record. -/
def State.endRequest (r : ReqNo) (e : End) (s : State) : State :=
  match s.findReq r with
  | none => s
  | some q =>
    let t := s.tellEnd q e
    let t := (((t.endReservations r).releaseDrivesOf r).dropArrival r).dropAsker (.request r)
    let t := t.unlink r
    let t := t.removeMoves fun m => decide (m.req = some r)
    let t := if t.holdsReelFor r then t.push .putAway else t
    ((t.clearCell q).clearHatch q).delReq r

/-- A request fails (R63). -/
def State.failRequest (r : ReqNo) (code : FailCode) (s : State) : State := s.endRequest r (.failed code)

/-- A request goes to STANDBY, which runs a planning pass (R47); a window open for it is over (R106). -/
def State.toStandby (r : ReqNo) (s : State) : State :=
  (s.updReq r fun q => { q with state := .standby, phase := .none, windowEnd := none, answers := [] }).push .plan

/-- A request gives up its Assigned drive and returns to STANDBY (R53). -/
def State.backToStandby (r : ReqNo) (s : State) : State := (s.updReq r fun q => { q with drive := none, roomWait := none }).toStandby r

/-- The reel of requests has left the bay: those in STANDBY, CLAIMING or OPERATOR give up their drive and prompt and go back to
WAITING (R46). A taken-in request keeps its Reel, by which it is looked up (R111); an own one loses its Reel and Reel class, which the new
lookup sets (DESIGN CHOICE, log entry 104). -/
def State.reelGone (v : Serial) (s : State) : State :=
  let hit := s.rm.queue.filter fun q => decide (q.reel = some v) &&
    (decide (q.state = .standby) || decide (q.state = .claiming) || decide (q.state = .operator))
  State.forEach hit (fun q t =>
    let t := (t.releaseDrivesOf q.req).dropAsker (.request q.req)
    let t := t.unlink q.req
    let t := t.updReq q.req fun q =>
      { q with state := .waiting, drive := none, roomWait := none, phase := .none, promptPending := none, ackHeld := false,
               reel := if q.role = .takenIn then q.reel else none, reelClass := if q.role = .takenIn then q.reelClass else none }
    t.push .plan) s

/-! ## The line -/

/-- The line may carry a SEEK, a PLACE or a HOLD (R57): the mode is ACTIVE and the line state permits the kind. -/
def State.lineOk (s : State) : Bool := decide (s.sys.mode = .active) && s.permits .seek

/-- A request asks its SEEK, or waits with Line Wait (R57, R106). -/
def State.askSeek (r : ReqNo) (s : State) : State :=
  match s.findReq r with
  | none => s
  | some q =>
    if s.lineOk then
      (s.updReq r fun q => { q with phase := .seeking, lineWait := false, placeTarget := none, waitEnd := none, followUp := none,
                                    placeWait := false, unanswered := false, windowEnd := none, answers := [] }).send
        (.seek { req := r, want := q.want, access := q.access, classWish := q.classWish })
    else s.updReq r fun q => { q with lineWait := true }

/-! ## Lookup -/

/-- The pool reel that a request or a SEEK would be given: HOME, of the pool, ringed, not retired, unreserved, the source of no
queued move; the lowest pass count, then the lowest slot (R46, R105). -/
def State.scratchPick (p : Nat) (s : State) : Option Entry :=
  leastBy (fun a b => decide (a.passes < b.passes) || (decide (a.passes = b.passes) && decide (a.slot.getD 0 < b.slot.getD 0)))
    (s.inv.entries.filter fun e => e.isHomed && decide (e.state = .home) && decide (e.pool = some p) && e.ring && !e.retired &&
      decide (e.reservation = none) && !s.isMoveSource e.volume)

/-- A reel found for a request is set, with the checks of R46; a request that passes them reaches STANDBY with its HELD claim
asked and its LOCATED report. -/
def State.reelFound (r : ReqNo) (e : Entry) (s : State) : State :=
  match s.findReq r with
  | none => s
  | some q =>
    let t := s.updReq r fun q => { q with reel := some e.volume, reelClass := some e.cls }
    if q.access = .write ∧ e.retired = true then t.failRequest r .reelRetired
    else if !t.classAvailable (requiredClass q.classWish e.cls) then t.failRequest r .noDriveClass
    else
      let t := (t.claimReel e.volume r .held).2
      let t := if q.located then t else (t.updReq r fun q => { q with located := true }).reqReport q (.located e.volume t.self)
      t.toStandby r

/-- A WAITING request is looked up (R46). -/
def State.lookup (r : ReqNo) (s : State) : State :=
  match s.findReq r with
  | none => s
  | some q =>
    let away := fun (t : State) =>
      if q.role = .takenIn then t.failRequest r .reelMissing
      else (t.updReq r fun q => { q with state := .locating, phase := .none }).askSeek r
    let named := fun (v : Serial) =>
      match s.findEntry v with
      | none => away s
      | some e =>
        match e.state with
        | .missing => s.failRequest r .reelMissing
        | .away _ => away s
        | _ => s.reelFound r e
    match q.role, q.reel, q.want with
    | .takenIn, some v, _ => named v
    | _, _, .volume v => named v
    | role, _, .pool p =>
      match s.scratchPick p with
      | some e => s.reelFound r e
      | none => if role = .takenIn then s.failRequest r .noScratch
          else (s.updReq r fun q => { q with state := .locating, phase := .none }).askSeek r

/-! ## Moves of a request -/

/-- The request's move waits for room in the Arm Order Queue, in STANDBY; a sender-side hop stays in HOPPING (R47, R49, R51). -/
def State.waitRoom (r : ReqNo) (k : MoveKind) (s : State) : State :=
  (if k = .hopOut then s else s.planEntry r).updReq r fun q => { q with state := if q.state = .hopping ∧ k = .hopOut then .hopping else .standby, phase := .none, roomWait := some k }

/-- The request's move is queued, and the request goes to MOVING; a sender-side hop stays in HOPPING (R49, R51). -/
def State.moveQueued (r : ReqNo) (k : MoveKind) (s : State) : State :=
  s.updReq r fun q => { q with state := if q.state = .hopping ∧ k = .hopOut then .hopping else .moving, phase := .none, roomWait := none }

/-- No entry cell is EMPTY for the ring-out: Prompt Pending with cause CELL, in STANDBY (R47, R54). -/
def State.pendCell (r : ReqNo) (s : State) : State :=
  (s.planEntry r).updReq r fun q => { q with state := .standby, phase := .none, roomWait := none, promptPending := some .cell }

/-- A TAKE_IN whose request has lost its drive while it waited for room is asked in its new form, as R77 chooses the destination: a homed
reel to its slot, or out by a cell if it is retired (R11), a visiting one to the first eligible local drive; with none it waits on (R68; log
entry 16). -/
def State.takeInAnew (q : Request) (e : Entry) (side : Side) (s : State) : State :=
  let go := fun (dst : Loc) (p : Option CellPurpose) (t : State) =>
    (t.queueMove .takeIn (some q.req) e.volume (.hatch side) dst p).moveQueued q.req .takeIn
  if s.armRoom = false then s.waitRoom q.req .takeIn
  else
    match e.home, s.chooseLocal q.required with
    | .here, _ =>
      let (dst, p, t) := s.homeDest e
      go dst p t
    | .station _, some x => go (.drive x.address) none (s.reserveDrive x.address q.req)
    | .station _, none => s.waitRoom q.req .takeIn

/-- The reel can be fetched from its slot: HOME, and the source of no queued move (R48). -/
def State.reelReady (e : Entry) (s : State) : Bool := decide (e.state = .home) && !s.isMoveSource e.volume

/-- A request asks for its move: MOUNT, HOP_OUT, TAKE_IN, RING_OUT or ENTRY_IN (R49, R51, R52, R54, R55). A HOP_OUT fetches a reel that is
HOME: one that lies in the cradle already awaits its HANDOFF. An ask that waited and whose reel has changed meanwhile takes a new form
(R68; DEDUCED, log entry 107): a MOUNT or RING_OUT of a reel that a RETIRE_OUT took gives up its drive, for planning; a HOP_OUT of it, and an
ENTRY_IN of a reel out of its cell (R13), wait on. -/
def State.startMove (r : ReqNo) (k : MoveKind) (s : State) : State :=
  match s.findReq r with
  | none => s
  | some q =>
    match (q.reel.bind fun v => s.findEntry v) with
    | none => s
    | some e =>
      let v := e.volume
      let go := fun (src dst : Loc) (p : Option CellPurpose) =>
        if s.armRoom then (s.queueMove k (some r) v src dst p).moveQueued r k else s.waitRoom r k
      match k with
      | .mount => (match q.drive with
        | some d => if s.reelReady e then go (.slot (e.slot.getD 0)) (.drive d) none else (s.releaseDrivesOf r).backToStandby r
        | none => s)
      | .hopOut => (match q.hopTo.bind fun p => s.sideOf p, e.state with
        | some side, .home => if s.reelReady e then go (.slot (e.slot.getD 0)) (.hatch side) none else s.waitRoom r k
        | _, _ => s)
      | .takeIn => (match q.drive, e.state with
        | some d, .inHatch side => go (.hatch side) (.drive d) none
        | none, .inHatch side => s.takeInAnew q e side
        | _, _ => s)
      | .ringOut => if s.reelReady e then (match s.lowestEmptyCell with
        | some c => go (.slot (e.slot.getD 0)) (.entry c) (some .ring)
        | none => s.pendCell r) else s.backToStandby r
      | .entryIn => (match e.state with
        | .atEntry c =>
          if s.cellAt (s.fetchCell v c) = .expecting v .ret then s.waitRoom r k
          else go (.entry c) (.slot (e.slot.getD 0)) none
        | _ => s)
      | _ => s

/-! ## MOUNTED, GRACE and remount -/

/-- The drive record at entry to MOUNTED (R25, R30, R38). -/
def Drive.mountFor (r : ReqNo) (v : Serial) (limit : Nat) (remount : Bool) (x : Session) (d : Drive) : Drive :=
  let p := if remount then d.passesSince else satAdd Config.max16 d.passesSince 1
  { d with state := .mounted, loaded := some v, serving := some (.request r), graceExpiry := none,
           mounts := satAdd Config.max32 d.mounts 1, passesSince := p,
           cleanDue := d.cleanDue || (!remount && decide (limit ≤ p)), session := some x }

/-- A drive becomes MOUNTED for a request, by a PUT or by a remount: the session opens (R163), the Reservation ends (R8), the
pass is counted (R9), and the request is MOUNTED (R25, R30, R53). -/
def State.enterMounted (r : ReqNo) (d : Nat) (v : Serial) (remount : Bool) (s : State) : State :=
  match s.findReq r, s.findDrive d with
  | some q, some x =>
    let ses := sessionOf q v (s.driveId x) s.acct.stationTime remount
    let t := s.updDrive d (Drive.mountFor r v s.cfg.cleanLimit remount ses)
    let t := if remount then t.modDrv fun u => { u with remountsSaved := satAdd Config.max32 u.remountsSaved 1 } else t.countPass v
    let t := (t.endReservations r).updReq r fun q =>
      { q with state := .mounted, drive := some d, reel := some v, phase := .none, roomWait := none, promptPending := none, lineWait := false }
    if q.role = .takenIn then t.sendOutcome r (.mounted (s.driveId x)) else t.reqReport q (.mounted (s.driveId x) (some v))
  | _, _ => s

/-- A STANDBY request, or one WAITING held for an audit that names the volume, is a remount candidate of the drive, less its
claim (R30). -/
def State.remountWish (x : Drive) (v : Serial) (q : Request) (s : State) : Bool :=
  match s.findEntry v with
  | none => false
  | some e =>
    decide (q.role ≠ .proxy) && decide (q.want = .volume v) && decide (q.cancelPending = false) &&
      (decide (q.state = .standby) || (decide (q.state = .waiting) && decide (s.inv.bay = .audit) && decide (s.sys.mode ≠ .joining))) &&
      decide (requiredClass q.classWish e.cls ≤ x.cls) &&
      (decide (q.access = .read) || (e.ring && !e.retired))

/-- The HELD claims that a remount examination makes for requests WAITING held for an audit (R30), at a planning pass and at entry to
GRACE alike (log entry 56). -/
def State.auditClaims (v : Serial) (s : State) : State :=
  if s.inv.bay = .audit then
    State.forEach (s.rm.queue.filter fun q => decide (q.state = .waiting) && decide (q.want = .volume v) && decide (q.role ≠ .proxy))
      (fun q t => match t.claimReel v q.req .held with
        | (.granted, u) => (match u.findEntry v with
            | some e => u.updReq q.req fun q => { q with reel := some v, reelClass := some e.cls }
            | none => u)
        | (_, u) => u) s
  else s

/-- A GRACE drive is examined for remount: the first candidate in Mount Queue order takes it (R30). -/
def State.examineDrive (d : Nat) (s : State) : State :=
  match s.findDrive d with
  | none => s
  | some x =>
    match x.state, x.loaded with
    | .grace, some v =>
      if !s.driveHeld x then s
      else
        let t := s.auditClaims v
        (match t.rm.queue.find? fun q => t.remountWish x v q && t.claimGranted v q.req with
         | some q => t.enterMounted q.req d v true
         | none => t)
    | _, _ => s

/-- The use of a MOUNTED drive ends: the session closes, and the drive goes to GRACE or IDLE_LOADED (R26). -/
def State.dismountDrive (d : Nat) (errors : Nat) (s : State) : State :=
  let t := (s.closeSession d errors .host).updDrive d fun x => { x with serving := none }
  match t.findDrive d with
  | none => t
  | some x =>
    if x.cleanDue = true ∨ t.cfg.gracePeriod = 0 then t.driveToIdle d
    else
      (t.updDrive d fun x => { x with state := .grace, graceExpiry := some (t.acct.stationTime + t.cfg.gracePeriod) }).examineDrive d

/-- A MOUNTED request is dismounted and ends (R59, R60); a remount that its drive finds at once (R26) is reported before the end
(log entry 60). -/
def State.dismountRequest (r : ReqNo) (errors : Nat) (e : End) (s : State) : State :=
  match (s.findReq r).bind Request.drive with
  | none => s
  | some d => (s.dismountDrive d errors).endRequest r e

/-- A PUT of a request's reel to a drive has completed: MOUNTED, and a pending cancel is taken at once as DISMOUNT (R25, R61). -/
def State.mountDone (r : ReqNo) (d : Nat) (v : Serial) (s : State) : State :=
  let t := s.enterMounted r d v false
  match t.findReq r with
  | some q => if q.cancelPending then t.dismountRequest r 0 .cancelled else t
  | none => t

/-! ## Cancel -/

/-- The PUT of the current move is directed to the reel's own slot, before it is issued (R61). -/
def State.putToSlot (m : Move) (s : State) : State :=
  match (s.findEntry m.volume).bind Entry.slot with
  | some n => (s.freeMoveCell m).updCurrent fun m => { m with dest := .slot n, purpose := none }
  | none => s

/-- A cancel taken in MOVING (R61); one taken during a Retry Pause leaves the pause and the order it repeats (R73; log entry 59). -/
def State.cancelMoving (r : ReqNo) (s : State) : State :=
  match s.arm.current with
  | some m =>
    if m.req = some r then
      let t := s.updReq r fun q => { q with cancelPending := true }
      if m.stage = .putNext ∧ (m.source.isSlot ∨ m.source.isEntry) then
        (((t.releaseDrivesOf r).updReq r fun q => { q with drive := none }).putToSlot m).push .issue
      else t
    else s.endRequest r .cancelled
  | none => s.endRequest r .cancelled

/-- RELEASE(cancel) goes to a station (R60, R113). -/
def State.sendRelease (server : Nat) (r : ReqNo) (k : ReleaseKind) (s : State) : State :=
  s.send (.release { server := server, req := r, kind := k })

/-- A proxy's Release is set and sent at once (R59, R60, R114). -/
def State.releaseProxy (r : ReqNo) (k : ReleaseKind) (s : State) : State :=
  match s.findReq r with
  | none => s
  | some q =>
    (s.updReq r fun q => { q with release := some k, state := if k = .cancel then .cancelling else q.state }).sendRelease
      (q.server.getD 0) r k

/-- CANCEL, or RELEASE(cancel), acts on a request by its state (R60, R118). -/
def State.cancelRequest (r : ReqNo) (s : State) : State :=
  match s.findReq r with
  | none => s
  | some q =>
    if q.cancelPending then s
    else
      match q.state with
      | .waiting => s.endRequest r .cancelled
      | .standby => s.endRequest r .cancelled
      | .locating =>
        (match q.phase, q.placeTarget with
         | .placing, some p => (s.sendRelease p r .cancel).endRequest r .cancelled
         | _, _ => s.endRequest r .cancelled)
      | .claiming => s.endRequest r .cancelled
      | .operator => s.endRequest r .cancelled
      | .moving => s.cancelMoving r
      | .hopping =>
        if q.hopExpiry.isSome then s.endRequest r .cancelled
        else s.updReq r fun q => { q with cancelPending := true }
      | .mounted => s.dismountRequest r 0 .cancelled
      | .forwarded => s.releaseProxy r .cancel
      | .remoteMounted => if q.release = none then s.releaseProxy r .cancel else s
      | .cancelling => s

end Sys2Proof.Machine
end

