-- ==== Sys2Proof/Machine/Moves.lean ====
section
/-! DEFINITION. What answers to orders lead to: completed GETs and PUTs (R5, R72), redirected PUTs (R77), retries (R73), failed
moves (R75, R76), reels given up (R78); the uses of a free cell (R12) and cleaning (R33 to R35). -/

namespace Sys2Proof.Machine

/-- The serving request of a move, if its record stands. -/
def State.moveReq (m : Move) (s : State) : Option Request := m.req.bind fun r => s.findReq r

/-- The serving request of a move has Cancel Pending set (R61). -/
def State.moveCancelled (m : Move) (s : State) : Bool :=
  match s.moveReq m with
  | some q => q.cancelPending
  | none => false

/-! ## The uses of a free entry cell (R12) -/

/-- An ACKED SHELF_FETCH with Cell Wait takes a cell, or returns to SHOWN when table room has gone; its ENTRY_FULL CELL prompt
is withdrawn (R147). -/
def State.serveShelfWait (p : Prompt) (s : State) : State :=
  match p.subject, s.lowestEmptyCell with
  | .volume v, some c =>
    let t := s.updPrompt p.key fun p => { p with cellWait := false }
    let t := if s.tableRoom = 0 then t.returnPrompt p.key else t.putCell c (.expecting v .shelf)
    let full : PromptKey := { cls := .entryFull, subject := .volume v }
    (match t.findPrompt full with
     | some f => if f.detail = some .cell then t.withdrawPrompt full else t
     | none => t)
  | _, _ => s

/-- The EMPTY entry cells that no ring-out waiting for room in the Arm Order Queue is to take (R49, R54). -/
def State.cellsLeft (s : State) : Nat :=
  ((List.range Config.entryCells).filter fun c => decide (s.cellAt c = .empty)).length -
    (s.rm.queue.filter fun q => decide (q.roomWait = some .ringOut)).length

/-- A request with cause CELL takes the ring-out path, where an EMPTY cell is left for it (R54). -/
def State.serveRingWait (r : ReqNo) (s : State) : State :=
  if 1 ≤ s.cellsLeft then (s.updReq r fun q => { q with promptPending := none }).startMove r .ringOut else s

/-- The waiting uses of a free cell are served: Exit Pending entries, SHELF_FETCH prompts with Cell Wait, then requests with
cause CELL whose reel is HOME (R12, R54, R147; log entry 14). -/
def State.serveCells (s : State) : State :=
  let t := s.serveExit
  let t := State.forEach ((listOrder t.panel.prompts).filter fun p => decide (p.cls = .shelfFetch) && decide (p.state = .acked) && p.cellWait)
    (fun p t => t.serveShelfWait p) t
  State.forEach (t.rm.queue.filter fun q => decide (q.promptPending = some .cell) &&
      (match q.reel.bind fun v => t.findEntry v with
       | some e => decide (e.state = .home)
       | none => false))
    (fun q t => t.serveRingWait q.req) t

/-! ## Putting a reel away (R77, R78) -/

/-- A reel is given up to the operator (R78). -/
def State.giveUpReel (m : Move) (s : State) : State :=
  let t := match m.req with
    | some r => if s.moveCancelled m then (s.modArm fun a => { a with current := none }).endRequest r .cancelled
        else (s.modArm fun a => { a with current := none }).failRequest r .armFault
    | none => s
  let t := match t.findEntry m.volume with
    | some e => (match e.home with
        | .here => t.reelMissing m.volume
        | .station _ => (t.delEntry m.volume).push (.reelLeft m.volume))
    | none => t
  ((t.freeMoveCell m).endMove m).raisePlain .armAttention (.volume m.volume)

/-- The move's PUT is directed to a new destination; the old one's cell is freed (R77). -/
def State.redirect (m : Move) (dst : Loc) (p : Option CellPurpose) (failed : Bool) (s : State) : State :=
  let t := s.freeMoveCell m
  let t := match dst, p with
    | .entry c, some k => t.putCell c (.expecting m.volume k)
    | _, _ => t
  (t.updCurrent fun m => { m with dest := dst, purpose := p, stage := .putNext, afterFailure := m.afterFailure || failed }).push .issue

/-- The reel of the current move is put away (R77). `failed` says that a PUT to the old destination failed, `occupied` that it
failed with OCCUPIED_DEST. A homed reel keeps its serving request, back in STANDBY, while its record stands, since a redirection continues
the same move (R67). A TAKE_IN redirected to the home hatch becomes a RETURN (log entry 62); a retired reel whose PUT to its cell failed goes
to its slot with Exit Pending left as it is (log entry 75). -/
def State.putAwayMove (failed occupied : Bool) (s : State) : State :=
  match s.arm.current with
  | none => s
  | some m =>
    if failed ∧ m.afterFailure = true then s.giveUpReel m
    else
      match s.findEntry m.volume with
      | none => s.giveUpReel m
      | some e =>
        match e.home with
        | .here =>
          let slot := Loc.slot (e.slot.getD 0)
          let t : State := match s.moveReq m with
            | some q => if q.cancelPending = false ∧ q.state = ReqState.moving then s.backToStandby q.req else s
            | none => s
          let t := if (s.moveReq m).isSome then t else t.updCurrent fun m => { m with req := none }
          if occupied = true ∧ m.dest = slot then
            match s.lowestEmptyCell with
            | some c => t.redirect m (.entry c) (some .ret) failed
            | none => t.giveUpReel m
          else t.redirect m slot none failed
        | .station h =>
          match (s.moveReq m).bind fun q => (s.chooseLocal q.required).map fun x => (q.req, x.address) with
          | some (r, d) =>
            ((s.reserveDrive d r).updReq r fun q => { q with state := .moving }).redirect m (.drive d) none failed
          | none =>
            let t := match m.req with
              | some r =>
                let u := s.updCurrent fun m => { m with req := none }
                if s.moveCancelled m then u.endRequest r .cancelled else u.push (.failReq r .armFault)
              | none => s
            (match s.sideOf h with
             | some side =>
               if s.hasHatch side ∧ ¬(failed = true ∧ m.dest = .hatch side) then
                 (t.updCurrent fun m => { m with kind := .ret }).redirect m (.hatch side) none failed
               else t.giveUpReel { m with req := none }
             | none => t.giveUpReel { m with req := none })

/-! ## A GET completes -/

/-- What a completed GET does to the entry, the source and the current move (R5, R12, R27, R72, R133). A reel taken from its cell is
awaited in no other (log entry 71). -/
def State.getEffects (m : Move) (ring : Bool) (s : State) : State :=
  let t := s.updEntry m.volume fun e => { e with state := .inGripper, ring := ring, unrecorded := false }
  let t := match m.source with
    | .slot _ => t
    | .entry c =>
      let u := t.emptyCell c
      (match u.cellFor m.volume .ret with
       | some d => u.emptyCell d
       | none => u)
    | .drive d => t.driveToEmpty d
    | .hatch side => (t.updRec (t.sideRes side) fun c => { c with cradle := .empty }).push .useEnd
  t.updCurrent fun m => { m with stage := .putNext }

/-- A drive serves the cleaning with this reel (R33). -/
def Drive.cleansWith (v : Serial) (x : Drive) : Bool := decide (x.serving = some .cleaning) && decide (x.cleaningReel = some v)

/-- The destination of a move still stands: a drive RESERVED for it, a hatch for a request that still stands, a cell that expects
its reel, or has it reported already (R13, R77, R79). -/
def State.destStands (m : Move) (s : State) : Bool :=
  match m.dest with
  | .drive d =>
    (match s.findDrive d with
     | some x => decide (x.state = .reserved) && (match m.req with
        | some r => decide (x.serving = some (.request r))
        | none => x.cleansWith m.volume)
     | none => false)
  | .hatch _ => decide (m.req = none) || (s.moveReq m).isSome
  | .entry c =>
    (match s.cellAt c with
     | .expecting v _ => decide (v = m.volume)
     | .occupied v => decide (v = some m.volume)
     | .empty => false)
  | .slot _ => true

/-- The ring check after the GET of a WRITE request's MOUNT: to the lowest EMPTY cell, or to its slot with cause CELL (R54). -/
def State.ringRedirect (m : Move) (q : Request) (s : State) : State :=
  let t := (s.releaseDrivesOf q.req).updReq q.req fun q => { q with drive := none }
  match t.lowestEmptyCell, (t.findEntry m.volume).bind Entry.slot with
  | some c, _ => t.redirect m (.entry c) (some .ring) false
  | none, some n => (t.updReq q.req fun q => { q with promptPending := some .cell }).redirect m (.slot n) none false
  | none, none => t

/-- The ring recheck of an ENTRY_IN: back to the same cell, or the lowest EMPTY one, or to the slot with cause CELL (R55). -/
def State.recheckRedirect (m : Move) (q : Request) (s : State) : State :=
  let same := match m.source with
    | .entry c => if s.cellAt c = .empty then some c else none
    | _ => none
  match same, s.lowestEmptyCell with
  | some c, _ => s.redirect m (.entry c) (some .ring) false
  | none, some c => s.redirect m (.entry c) (some .ring) false
  | none, none => (s.updReq q.req fun q => { q with promptPending := some .cell }).push .issue

/-- What redirects the PUT after the GET: a pending cancel (R61), an absent ring (R54, R55), an unusable destination (R77). The ring comes
before the destination: a WRITE MOUNT without a ring goes to an entry cell though its drive went OFFLINE (DESIGN CHOICE, log entry 98). -/
def State.afterGet (m : Move) (ring : Bool) (s : State) : State :=
  match s.moveReq m with
  | none => if s.destStands m then s else s.putAwayMove false false
  | some q =>
    if q.cancelPending ∧ (m.source.isSlot ∨ m.source.isEntry) ∧ m.kind ≠ .hopOut then
      ((s.releaseDrivesOf q.req).updReq q.req fun q => { q with drive := none }).putToSlot m
    else if q.access = .write ∧ ring = false ∧ m.kind = .mount ∧ m.source.isSlot then s.ringRedirect m q
    else if q.access = .write ∧ ring = false ∧ m.kind = .entryIn then s.recheckRedirect m q
    else if s.destStands m then s
    else s.putAwayMove false false

/-- ORDER DONE on the GET of the current move (R72). -/
def State.getDone (m : Move) (ring : Bool) (s : State) : State :=
  let t := s.getEffects m ring
  let t := if m.source.isEntry then t.serveCells else t
  (t.afterGet m ring).push .issue

/-! ## A PUT completes -/

/-- A drive's PUT completes (R25, R34). -/
def State.putToDrive (m : Move) (d : Nat) (s : State) : State :=
  let t := s.updEntry m.volume fun e => { e with state := .onDrive d }
  match m.kind, s.moveReq m with
  | .clean, _ =>
    t.updDrive d fun x => { x with state := .cleaning, loaded := some m.volume, serving := some .cleaning, cleaningReel := none,
                                   cleaningEnd := some (t.acct.stationTime + t.cfg.cleaningTime), cleaningStart := some t.acct.stationTime }
  | _, some q => t.mountDone q.req d m.volume
  | _, none => (t.updDrive d fun x => { x with loaded := some m.volume }).driveToIdle d

/-- A hatch's PUT completes: the cradle takes the volume and a HANDOFF is owed (R133, R134). -/
def State.putToHatch (m : Move) (side : Side) (s : State) : State :=
  ((s.updEntry m.volume fun e => { e with state := .inHatch side }).updRec (s.sideRes side) fun c =>
    { c with cradle := .volume m.volume }).owe (s.sideRes side) (match m.req with
      | some r => .request r
      | none => .noRequest) m.volume

/-- A RING_IN prompt is raised for a request whose reel has been put in a cell; one cancelled meanwhile brings its reel back to
its slot (R54, R61). -/
def State.ringPlaced (r : ReqNo) (v : Serial) (s : State) : State :=
  match s.findReq r with
  | none => s.push (.entryIn v)
  | some q =>
    if q.cancelPending then s.startMove r .entryIn
    else s.raise { cls := .ringIn, subject := .volume v, detail := none, req := some r }

/-- A reel put away because its slot was occupied is brought back when the slot's MISPLACED prompt leaves; where that has gone before
the PUT, at once (R76, R150). -/
def State.slotCleared (v : Serial) (s : State) : State :=
  match (s.findEntry v).bind Entry.slot with
  | some n =>
    if s.promptDue .misplaced (.slot n) then s.modInv fun i => { i with slotWaits := i.slotWaits ++ [v] } else s.push (.entryIn v)
  | none => s

/-- The serving request of a move that has put its reel away, to its slot or on its way out, ends CANCELLED if a cancel is pending, else it
returns to STANDBY (R53, R61; for a retired reel put to its cell DEDUCED, log entry 94). -/
def State.moveReturns (m : Move) (s : State) : State :=
  match s.moveReq m with
  | none => s
  | some q => if q.cancelPending then s.endRequest q.req .cancelled else if q.state = .moving then s.toStandby q.req else s

/-- An entry cell's PUT completes; another cell that its own expectation had moved to awaits the reel no more (R5, R11, R54, R76; log
entry 71). No ENTRY_IN that an earlier stay in a cell left waiting is asked for this one. -/
def State.putToCell (m : Move) (c : Nat) (s : State) : State :=
  let t := ((s.clearEntryIn m.volume).updEntry m.volume fun e => { e with state := .atEntry c }).putCell c (.occupied (some m.volume))
  let t := match m.purpose.bind fun p => t.cellFor m.volume p with
    | some d => t.emptyCell d
    | none => t
  match m.purpose, m.req with
  | some .retire, _ => (t.raisePlain .retireReel (.volume m.volume)).moveReturns m
  | some .ring, some r => t.ringPlaced r m.volume
  | some .ring, none => t.push (.entryIn m.volume)
  | some .ret, _ => t.slotCleared m.volume
  | _, _ => t

/-- A slot's PUT completes: the reel is HOME; the request ends CANCELLED or returns to STANDBY (R5, R54, R55, R61). -/
def State.putToSlotDone (m : Move) (s : State) : State :=
  (((s.updEntry m.volume fun e => { e with state := .home }).push (.reelHome m.volume)).push .plan).moveReturns m

/-- ORDER DONE on the PUT of the current move (R72). -/
def State.putDone (m : Move) (s : State) : State :=
  let t := s.endMove m
  match m.dest with
  | .drive d => t.putToDrive m d
  | .hatch side => t.putToHatch m side
  | .entry c => t.putToCell m c
  | .slot _ => t.putToSlotDone m

/-! ## Faults -/

/-- Why an order failed (R72, R73). -/
inductive Fail
  | retryable
  | emptySource
  | occupiedDest
deriving DecidableEq, Repr

/-- The request of a failed move ends: CANCELLED if a cancel is pending, else with the code (R61, R75). -/
def State.failMoveReq (m : Move) (code : FailCode) (s : State) : State :=
  match m.req with
  | none => s
  | some r => if s.moveCancelled m then s.endRequest r .cancelled else s.failRequest r code

/-- A drive RESERVED or LOADING for the cleaning with this reel: one taken OFFLINE meanwhile is not (R36, R79). -/
def State.awaitsClean (d : Nat) (v : Serial) (s : State) : Bool :=
  (s.findDrive d).any fun x => (decide (x.state = .reserved) || decide (x.state = .loading)) && x.cleansWith v

/-- A CLEAN move has failed otherwise than by EMPTY_SOURCE: the drive that awaits it is EMPTY with Clean Due set, a CLEAN_DRIVE prompt
is raised in place of R27's cleaning step, and the use of a boundary drive ends (R22, R25, R34, R75). Its hold is not asked again for the
reel that stands free (log entry 83). -/
def State.cleanFailed (d : Nat) (v : Serial) (s : State) : State :=
  if s.awaitsClean d v then
    (((s.updDrive d fun x => { x with state := .empty, loaded := none, serving := none, cleaningReel := none, parked := true }).driveUseEnds
      d).push .plan).raisePlain .cleanDrive (.drive d)
  else s

/-- The GET of a move has failed by a fault not retried: the owners act by the kind (R75). A TAKE_IN with no request is not asked again
(log entry 61). -/
def State.getFailed (m : Move) (s : State) : State :=
  let t := (s.endMove m).freeMoveCell m
  match m.kind, m.req with
  | .clean, _ => (match m.dest with
      | .drive d => t.cleanFailed d m.volume
      | _ => t)
  | .stow, _ => (match m.source with
      | .drive d => t.updDrive d fun x => { x with parked := true }
      | _ => t)
  | .ret, _ => (match m.source with
      | .drive d => t.updDrive d fun x => { x with parked := true }
      | _ => t)
  | .retireOut, _ => t.updEntry m.volume fun e => { e with exitPending := true }
  | .entryIn, none => t.modInv fun i => { i with entryInFailed := i.entryInFailed ++ [m.volume] }
  | _, _ => t.failMoveReq m .armFault

/-- A cell already expects another volume, so that it cannot expect this one back. -/
def State.cellTaken (v : Serial) (c : Nat) (s : State) : Bool :=
  match s.cellAt c with
  | .expecting w _ => decide (w ≠ v)
  | _ => false

/-- EMPTY_SOURCE at the GET of a move, by its source (R5, R76, R133). -/
def State.emptySource (m : Move) (s : State) : State :=
  let t := (s.endMove m).freeMoveCell m
  match m.source with
  | .slot _ =>
    let t := (t.failMoveReq m .reelMissing).reelMissing m.volume
    (match m.kind, m.dest with
     | .clean, .drive d => if t.awaitsClean d m.volume then t.releaseDrive d else t
     | _, _ => t)
  | .hatch side =>
    ((t.updRec (t.sideRes side) fun c => { c with cradle := .empty }).raisePlain .hatchClear (.hatch side)).failMoveReq m .armFault
  | .drive d =>
    (t.updDrive d fun x => { x with state := .offline }).raisePlain .armAttention (.drive d)
  | .entry c => (if t.cellTaken m.volume c then t else t.putCell c (.expecting m.volume .ret)).failMoveReq m .armFault

/-- The PUT of a move has failed by a retryable fault not retried (R75). -/
def State.putFailed (m : Move) (s : State) : State :=
  let t := s.updCurrent fun m => { m with stage := .put }
  let t := match m.kind, m.dest with
    | .clean, .drive d => t.cleanFailed d m.volume
    | _, .drive d => t.releaseDrive d
    | _, _ => t
  let t := t.failMoveReq m .armFault
  (t.updCurrent fun m => { m with req := none }).putAwayMove true false

/-- OCCUPIED_DEST at the PUT of a move, by its destination (R25, R76, R133). -/
def State.occupiedDest (m : Move) (s : State) : State :=
  match m.dest with
  | .drive d =>
    let t := s.driveOff d none
    let t := match m.req with
      | some r =>
        if t.moveCancelled m then t.endRequest r .cancelled else t.backToStandby r
      | none => t
    t.putAwayMove true true
  | .slot n => ((s.raisePlain .misplaced (.slot n)).failMoveReq m .armFault).putAwayMove true true
  | .hatch side =>
    (((s.updRec (s.sideRes side) fun c => { c with cradle := .foreign }).raisePlain .hatchClear (.hatch side)).failMoveReq m .armFault).putAwayMove
      true true
  | .entry c => ((s.putCell c (.occupied none)).failMoveReq m .armFault).putAwayMove true true

/-- A retryable fault may be retried (R73). -/
def State.mayRetry (o : Order) (m : Move) (s : State) : Bool :=
  !s.moveCancelled m && (s.cfg.retryUnlimited || decide (s.arm.retryCounter < Config.retryLimit)) && s.locOnline o.loc

/-- A retry starts the Retry Pause and raises the Arm Retry Counter (R73). -/
def State.retry (o : Order) (m : Move) (s : State) : State :=
  let n := satAdd Config.retryLimit s.arm.retryCounter 1
  let t := s.modArm fun a => { a with retryEnd := some (s.sys.clock + 1000 * s.cfg.retryPause), retryCounter := n }
  if s.arm.retryCounter < Config.retryLimit ∧ n = Config.retryLimit then t.report (.retryFull o.number m.kind m.volume) else t

/-- A retryable fault that is not retried; a counter standing at its limit raises ARM_ATTENTION (R73, R75). -/
def State.moveFails (o : Order) (m : Move) (s : State) : State :=
  let t := match o.kind with
    | .get => s.getFailed m
    | .put => s.putFailed m
  if !s.moveCancelled m && !s.cfg.retryUnlimited && decide (Config.retryLimit ≤ s.arm.retryCounter) then
    t.raisePlain .armAttention (.volume m.volume)
  else t

/-- The order in flight has been answered: it is no longer in flight, and the claims are told (R72, R131, R132). -/
def State.answered (o : Order) (s : State) : State :=
  (s.modArm fun a => { a with inFlight := none }).claimAnswered o.loc

/-- A fault of the order just answered, retried or not (R73, R75, R76). -/
def State.orderFails (o : Order) (m : Move) (f : Fail) (s : State) : State :=
  match f with
  | .retryable => if s.mayRetry o m then s.retry o m else (s.moveFails o m).push .issue
  | .emptySource => (s.emptySource m).push .issue
  | .occupiedDest => (s.occupiedDest m).push .issue

/-! ## Cleaning -/

/-- The cleaning reel that a drive is given: HOME, pool 15, not retired, unreserved, the source of no queued move and no other
drive's Cleaning reel; the lowest pass count, then the lowest slot (R33). -/
def State.cleaningPick (s : State) : Option Entry :=
  leastBy (fun a b => decide (a.passes < b.passes) || (decide (a.passes = b.passes) && decide (a.slot.getD 0 < b.slot.getD 0)))
    (s.inv.entries.filter fun e => e.isHomed && decide (e.state = .home) && decide (e.pool = some 15) && !e.retired &&
      decide (e.reservation = none) && !s.isMoveSource e.volume && !s.isCleaningReel e.volume)

/-- A drive waits to be cleaned: EMPTY with Clean Due and no serving request (R33, R35). -/
def Drive.wantsClean (x : Drive) : Bool := decide (x.state = .empty) && x.cleanDue && decide (x.serving = none)

/-- The hold of a boundary drive that waits for a cleaning reel standing ready is asked for, when a HOLD can be sent (R35); a CLEAN move
that failed before is forgotten. -/
def State.askToClean (x : Drive) (s : State) : State :=
  let t := s.updDrive x.address fun x => { x with parked := false }
  match s.posRes x.position with
  | some res => if s.cleaningPick.isSome && s.canHold then t.addAsk res (.driveUnit x.address) else t
  | none => t

/-- An EMPTY drive with Clean Due set is given a cleaning reel and its CLEAN move, its CLEAN_DRIVE prompt withdrawn if one stands (R35), or
raises CLEAN_DRIVE (R33); a boundary drive not held stays EMPTY with its prompt and asks for its hold (R22, R35; log entry 66). -/
def State.beginCleaning (d : Nat) (s : State) : State :=
  match s.findDrive d with
  | none => s
  | some x =>
    if x.wantsClean then
      if s.driveHeld x then
        match s.cleaningPick with
        | some e => ((s.withdrawPrompt { cls := .cleanDrive, subject := .drive d }).updDrive d fun x =>
            { x with state := .reserved, serving := some .cleaning, cleaningReel := some e.volume, parked := false }).cleanMove d
        | none => s.raisePlain .cleanDrive (.drive d)
      else (s.askToClean x).raisePlain .cleanDrive (.drive d)
    else s

/-- A cleaning reel has come HOME: the lowest-addressed waiting drive is served, with the reel that R33 picks, which need not be the one
that came HOME (log entry 74); a boundary drive not held asks for its hold first (R35). -/
def State.serveClean (s : State) : State :=
  match s.cleaningPick, s.drv.drives.find? fun x => x.wantsClean with
  | some _, some x =>
    if s.driveHeld x then s.beginCleaning x.address else s.askToClean x
  | _, _ => s

/-- A drive has been cleaned: its counters and its reel's pass count (R34, R35). -/
def Drive.cleaned (x : Drive) : Drive :=
  { x with passesSince := 0, cleanings := satAdd Config.max16 x.cleanings 1, cleanDue := false }

end Sys2Proof.Machine
end

