-- ==== Sys2Proof/Machine/Exchange.lean ====
section
/-! DEFINITION. The Peer Exchange (chapter 6) and the passing of hatches (R134 to R136): placing (R110, R112), windows (R108),
shelf fetches (R109), proxies (R113 to R117), hops (R50, R51, R120 to R122), and what the end of a message leads to. -/

namespace Sys2Proof.Machine

/-- A message names a request this station does not hold in the form expected: Stray (R103). -/
def State.countStray (s : State) : State := s.modPx fun p => { p with stray := satAdd Config.max16 p.stray 1 }

/-- The presence period of this station, in milliseconds. -/
def State.periodMs (s : State) : Nat := 1000 * s.cfg.presencePeriod

/-! ## Placing -/

/-- The minutes that a PLACE carries: the seconds to the Deadline, divided by 60 and rounded up; 0 for none or Late (R58). -/
def State.minutesLeft (q : Request) (s : State) : Nat :=
  match q.deadline with
  | some d => if q.late then 0 else (d - s.acct.stationTime + 59) / 60
  | none => 0

/-- The body of a PLACE for a request (R103, R110, R50). -/
def State.placeBody (q : Request) (target : Nat) (viaHatch : Bool) (s : State) : PlaceBody where
  target := target
  req := q.req
  want := q.want
  reel := q.reel.getD []
  reelClass := q.reelClass.getD 1
  access := q.access
  classWish := q.classWish
  priority := q.priority
  account := q.account
  minutes := s.minutesLeft q
  late := q.late
  hop := if viaHatch then 1 else 0
  viaHatch := viaHatch
  promptAcks := q.promptAcks

/-- A Place Attempt is counted: the 8th fails the request OWNER_BUSY, else the follow-up waits one Presence Period
(R112; log entry 10). -/
def State.countAttempt (r : ReqNo) (f : FollowUp) (unanswered : Bool) (s : State) : State :=
  match s.findReq r with
  | none => s
  | some q =>
    if Config.placeAttemptLimit ≤ q.placeAttempts + 1 then
      (s.updReq r fun q => { q with placeAttempts := q.placeAttempts + 1 }).failRequest r .ownerBusy
    else s.updReq r fun q =>
      { q with placeAttempts := q.placeAttempts + 1, state := .locating, phase := .followUp, waitEnd := some (s.sys.clock + s.periodMs),
               followUp := some f, unanswered := unanswered, placeWait := false }

/-- The follow-up of an attempt that may be placed again: PLACE_AGAIN while the target is PRESENT (R112). -/
def State.againTo (p : Nat) (s : State) : FollowUp := if s.isPresent p then .placeAgain else .seekAgain

/-- A via-hatch PLACE goes to the neighbour on a side (R120). -/
def Request.try_ (side : Side) (q : Request) : Request :=
  match side with
  | .left => { q with triedLeft := true }
  | .right => { q with triedRight := true }

/-- A plain PLACE goes to the station on a side, if it is a neighbour: its PLACED answers that one (R113, R120). -/
def Request.untry (side : Option Side) (q : Request) : Request :=
  match side with
  | some .left => { q with triedLeft := false }
  | some .right => { q with triedRight := false }
  | none => q

/-- A via-hatch PLACE of the request went to the station on a side, if it is a neighbour (R120). -/
def Request.tried (side : Option Side) (q : Request) : Bool :=
  match side with
  | some .left => q.triedLeft
  | some .right => q.triedRight
  | none => false

/-- A plain PLACE is sent, withheld for Queue room 0, or waits for the line (R110); one withheld leaves the PLACE before it as it was,
answered or not (R113). -/
def State.sendPlace (r : ReqNo) (p : Nat) (s : State) : State :=
  match s.findReq r with
  | none => s
  | some q =>
    let full := match (s.rosterAt p).presence with
      | some b => decide (b.queueRoom = 0)
      | none => false
    if full then (s.updReq r fun q => { q with placeTarget := some p, lineWait := false }).countAttempt r (s.againTo p)
      (q.unanswered && decide (q.placeTarget = some p))
    else if s.lineOk then
      (s.updReq r fun q => Request.untry (s.sideOf p)
        { q with phase := .placing, placeTarget := some p, waitEnd := none, followUp := none, lineWait := false,
                 placeWait := false, unanswered := false }).send (.place (s.placeBody q p false))
    else s.updReq r fun q => { q with placeTarget := some p, lineWait := true, placeWait := true }

/-- The record becomes a PROXY in FORWARDED (R51, R113). -/
def State.becomeProxy (r : ReqNo) (p : Nat) (s : State) : State :=
  match s.findReq r with
  | none => s
  | some q =>
    (s.updReq r fun q =>
      { q with role := .proxy, state := .forwarded, server := some p, phase := .none, placeTarget := none, waitEnd := none, followUp := none,
               placeWait := false, lineWait := false, unanswered := false, drive := none, hopTo := none, roomWait := none,
               forwardDue := some (s.acct.stationTime + s.cfg.forwardCheckInterval) }).reqReport q (.forwarded p)

/-! ## The window -/

/-- The rank of an answer (R108 step 5); a MISSING answer has none and comes last. -/
def answerRank (b : HaveBody) : Nat :=
  match b.status with
  | .grace => 1
  | .home => if b.freeDrive then 2 else 3
  | .onDrive => 4
  | .inGripper => 4
  | .inHatch => 4
  | .atEntry => 4
  | .visiting => 4
  | .busy => 5
  | .missing => 6

/-- The answer chosen: the best rank, and within it the one heard first (R108 step 5). -/
def chooseAnswer (l : List Answer) : Option Answer := leastBy (fun a b => decide (answerRank a.body < answerRank b.body)) l

/-- Retired answers are no use to a WRITE request (R108 step 3). -/
def usableAnswers (access : Access) (l : List Answer) : List Answer :=
  if access = .write then l.filter fun a => !a.body.retired else l

/-- Steps 6 and 7 of R108 for the chosen answer; the Place Target of a follow-up without a PLACE is the answering station (R106; log
entry 89). -/
def State.takeAnswer (r : ReqNo) (a : Answer) (s : State) : State :=
  match s.findReq r with
  | none => s
  | some q =>
    let t := s.updReq r fun q => { q with reel := some a.body.volume, reelClass := some a.body.cls, phase := .none, placeTarget := some a.station }
    if !t.classAvailable (requiredClass q.classWish a.body.cls) then t.failRequest r .noDriveClass
    else
      let t := if q.located then t
        else (t.updReq r fun q => { q with located := true }).reqReport q (.located a.body.volume a.station)
      if a.body.status = .busy ∨ a.body.status = .visiting then t.countAttempt r .seekAgain false
      else t.sendPlace r a.station

/-- Steps 3 to 7 of R108. -/
def State.weighAnswers (r : ReqNo) (l : List Answer) (s : State) : State :=
  match s.findReq r with
  | none => s
  | some q =>
    match chooseAnswer (usableAnswers q.access l) with
    | some a => s.takeAnswer r a
    | none => s.failRequest r .reelRetired

/-- A named request with no answer asks for a SHELF_FETCH prompt (R109). -/
def State.shelfFetch (r : ReqNo) (v : Serial) (s : State) : State :=
  (s.updReq r fun q => { q with phase := .none }).raise { cls := .shelfFetch, subject := .volume v, detail := none, req := some r }

/-- A reel for the request is here now (R108 step 1). -/
def State.foundHere (q : Request) (s : State) : Bool :=
  match q.want with
  | .volume v =>
    (match s.findEntry v with
     | some e => (match e.state with
        | .away _ => false
        | .missing => false
        | _ => true)
     | none => false)
  | .pool p => (s.scratchPick p).isSome

/-- The window of a settle re-seek closes (R109). -/
def State.closeReseek (r : ReqNo) (l : List Answer) (s : State) : State :=
  let t := s.updReq r fun q => { q with settleReseek := false, phase := .none, windowEnd := none, answers := [] }
  let real := l.filter fun a => decide (a.body.status ≠ .missing)
  match s.promptOf r with
  | some p =>
    if p.state = .settling ∧ real ≠ [] then
      ((t.updReq r fun q => { q with state := .locating }).unlink r).weighAnswers r real
    else t
  | none => t

/-- A window closes (R108). -/
def State.closeWindow (r : ReqNo) (s : State) : State :=
  match s.findReq r with
  | none => s
  | some q =>
    if q.settleReseek then s.closeReseek r q.answers
    else
      let t := s.updReq r fun q => { q with phase := .none, windowEnd := none, answers := [] }
      if s.foundHere q then (t.updReq r fun q => { q with state := .waiting }).push .plan
      else
        let real := q.answers.filter fun a => decide (a.body.status ≠ .missing)
        if q.answers = [] then
          match q.want with
          | .volume v => t.shelfFetch r v
          | .pool _ => t.failRequest r .noScratch
        else if real = [] then t.failRequest r .reelMissing
        else t.weighAnswers r real

/-! ## Hops, sending side -/

/-- Free drives of at least a class in a PRESENCE (R50). -/
def freeAtLeast (b : PresenceBody) (k : Nat) : Nat :=
  (if k ≤ 1 then b.free1 else 0) + (if k ≤ 2 then b.free2 else 0) + (if k ≤ 3 then b.free3 else 0) + (if k ≤ 4 then b.free4 else 0)

/-- The side is in the request's Hop Skip (R50). -/
def Request.skips (q : Request) : Side → Bool
  | .left => q.skipLeft
  | .right => q.skipRight

/-- A side joins the request's Hop Skip. -/
def Request.addSkip (side : Side) (q : Request) : Request :=
  match side with
  | .left => { q with skipLeft := true }
  | .right => { q with skipRight := true }

/-- The neighbour announces a hatch toward this station: its right hatch for the left neighbour (R98). -/
def hatchToward (side : Side) (b : PresenceBody) : Bool :=
  match side with
  | .left => b.rightHatch
  | .right => b.leftHatch

/-- What the neighbour on a side offers a request: its free drives of the required class, 0 if it does not qualify (R50). -/
def State.hopOffer (q : Request) (side : Side) (s : State) : Nat :=
  if s.hasHatch side && !q.skips side && s.isPresent (s.sideStation side) then
    match (s.rosterAt (s.sideStation side)).presence with
    | some b => if b.condition = .active ∧ b.accepts = true ∧ hatchToward side b = true then freeAtLeast b q.required else 0
    | none => 0
  else 0

/-- The side that a request is offered to: more free drives, then the lower station number, which is the left (R50). -/
def State.hopSide (q : Request) (s : State) : Option Side :=
  if s.hopOffer q .left = 0 ∧ s.hopOffer q .right = 0 then none
  else if s.hopOffer q .right ≤ s.hopOffer q .left then some .left
  else some .right

/-- A presented request left without a drive is offered to a neighbour (R50). -/
def State.offerHop (r : ReqNo) (s : State) : State :=
  match s.findReq r with
  | none => s
  | some q =>
    if q.hop = 0 ∧ s.lineOk = true then
      match s.hopSide q with
      | none => s
      | some side =>
        let p := s.sideStation side
        (s.updReq r fun q => Request.try_ side { q with phase := .hopPlacing, placeTarget := some p, waitEnd := none }).send
          (.place (s.placeBody q p true))
    else s

/-- A via-hatch PLACE was refused, Undelivered or not answered (R50). -/
def State.hopRefused (r : ReqNo) (p : Nat) (s : State) : State :=
  let t := s.updReq r fun q => { q with phase := .none, placeTarget := none, waitEnd := none }
  (match s.sideOf p with
   | some side => t.updReq r (Request.addSkip side)
   | none => t).push .plan

/-- A via-hatch PLACE was accepted: sender-side HOPPING, with its ask for the hatch (R50, R51). -/
def State.hopAccepted (r : ReqNo) (p : Nat) (s : State) : State :=
  let t := s.updReq r fun q => { q with state := .hopping, phase := .none, placeTarget := none, waitEnd := none, hopTo := some p }
  match s.sideOf p with
  | some side => t.addAsk (s.sideRes side) (.request r)
  | none => t

/-- A sender-side hop turns back to STANDBY with the side in its Hop Skip, or ends CANCELLED (R51, R134). -/
def State.hopBack (r : ReqNo) (side : Side) (s : State) : State :=
  match s.findReq r with
  | none => s
  | some q =>
    let t := s.dropAsker (.request r)
    if q.cancelPending then t.endRequest r .cancelled
    else (t.updReq r fun q => Request.addSkip side { q with hopTo := none, roomWait := none }).toStandby r

/-! ## HANDOFFs -/

/-- The HANDOFF body for a reel in the cradle (R125, R134). -/
def State.handoffBody (b : Nat) (e : Entry) (due : HandoffDue) (s : State) : HandoffBody where
  boundary := b
  volume := e.volume
  cls := e.cls
  ring := e.ring
  retired := e.retired
  pool := e.pool.getD 0
  passes := e.passes
  errors := e.errors
  home := match e.home with
    | .here => s.self
    | .station n => n
  req := match due with
    | .request r => some r
    | .noRequest => none

/-- The volume in a cradle, if it is known. -/
def Cradle.volume? : Cradle → Option Serial
  | .volume v => some v
  | _ => none

/-- A hop whose neighbour is not PRESENT is taken back: a TAKE_IN to the reel's slot (R134). A HANDOFF on the line is withdrawn and waited
for (R89; log entry 69). -/
def State.takeBack (c : ClaimRec) (side : Side) (r : ReqNo) (v : Serial) (b : Nat) (s : State) : State :=
  let t := s.withdraw (isHandoff b)
  if s.sending (isHandoff b) then t
  else (((t.updRec c.res fun c => { c with handoffDue := none, owed := none }).dropAsk c.res .claimUnit).askTakeIn v).hopBack r side

/-- The HANDOFF test on one hatch record (R134): sent; with the neighbour not PRESENT, a hop is taken back, and a visiting reel waits in the
cradle, its HANDOFF out of the Transmit Queue, or waited for while on the line (R89). -/
def State.handoffOne (c : ClaimRec) (s : State) : State :=
  match c.res, c.handoffDue, c.owed with
  | .hatch b, some due, some v =>
    (match s.resSide c.res, s.findEntry v with
     | some side, some e =>
       if s.isPresent c.neighbour then
         if c.holder = .self ∧ c.own = .held ∧ s.inv.bay = .normal ∧ s.permits .handoff = true ∧ s.inQueue (isHandoff b) = false then
           s.send (.handoff (s.handoffBody b e due))
         else s
       else
         (match due, e.home with
          | .request r, .here => s.takeBack c side r v b
          | _, _ => s.withdraw (isHandoff b))
     | _, _ => s)
  | _, _, _ => s

/-- The visiting reel that lies in the cradle of the hatch toward its home, with nothing owed, no move and no request, so that it is
returned in place (R136; log entry 68). -/
def State.strayVisitor (c : ClaimRec) (s : State) : Option Serial :=
  match c.handoffDue, c.cradle.volume?, s.resSide c.res with
  | none, some v, some side =>
    (match s.findEntry v with
     | some e =>
       if e.state = .inHatch side ∧ e.home = .station (s.sideStation side) ∧ s.hasMove v = false ∧ v ∉ s.claim.takeInWaits ∧
           (s.rm.queue.any fun q => decide (q.reel = some v) && decide (q.role ≠ .proxy)) = false then some v
       else none
     | none => none)
  | _, _, _ => none

/-- A stray visitor in the hatch becomes owed to its home (R136). -/
def State.strayTest (res : Resource) (s : State) : State :=
  match (s.findRec res).bind s.strayVisitor with
  | some v => s.owe res .noRequest v
  | none => s

/-- The HANDOFF test of R134 on one record, and the return in place of R136. -/
def State.handoffOn (res : Resource) (s : State) : State :=
  match s.findRec res with
  | some c => (match s.strayVisitor c with
    | some v => s.owe res .noRequest v
    | none => s.handoffOne c)
  | none => s

/-- The HANDOFF test of R134 on every record, made at END AUDIT, at a change of line state and at each PRESENCE asked. -/
def State.handoffTest (s : State) : State :=
  State.forEach (s.claim.records.map ClaimRec.res) (fun res t => t.handoffOn res) s

/-- A record joins the Moved List (R121). -/
def State.addMoved (r : ReqNo) (p : Nat) (s : State) : State :=
  s.modPx fun x =>
    let l := (x.moved.filter fun m => decide (m.1 ≠ r)) ++ [(r, p)]
    { x with moved := l.drop (l.length - Config.movedListSize) }

/-- The reel of a witnessed HANDOFF departs (R6). -/
def State.depart (v : Serial) (p : Nat) (s : State) : State :=
  match s.findEntry v with
  | none => s
  | some e =>
    (match e.home with
     | .here => s.updEntry v fun e => { e with state := .away p, reservation := none }
     | .station _ => s.delEntry v).push (.reelLeft v)

/-- The request of a hop whose HANDOFF was witnessed (R51, R60, R121); its Cancel Pending is spent with the RELEASE(cancel) (log
entry 86). -/
def State.hopDone (r : ReqNo) (p : Nat) (s : State) : State :=
  match s.findReq r with
  | none => s
  | some q =>
    if q.state = .hopping ∧ q.hopExpiry = none then
      let t := s.updReq r fun q => { q with hop := 1 }
      if r.origin = s.self then
        let t := t.becomeProxy r p
        if q.cancelPending then (t.updReq r fun q => { q with cancelPending := false }).releaseProxy r .cancel else t
      else
        let t := (t.sendOutcome r (.moved p)).addMoved r p
        let t := if q.cancelPending then t.sendRelease p r .cancel else t
        (t.endReservations r).delReq r
    else s

/-- Own HANDOFF witnessed: the hatch passes to the neighbour (R134). -/
def State.handoffWitnessed (b : HandoffBody) (s : State) : State :=
  let res := Resource.hatch b.boundary
  match s.findRec res with
  | none => s
  | some c =>
    let t := s.updRec res fun c => { c with holder := .peer, own := .none, handoffDue := none, owed := none, dropped := false }
    let t := (t.dropAsk res (.move b.volume)).dropAsk res .claimUnit
    let t := match b.req with
      | some r => t.dropAsk res (.request r)
      | none => t
    let t := t.depart b.volume c.neighbour
    match b.req with
    | some r => t.hopDone r c.neighbour
    | none => t

/-- The entry fields that a HANDOFF carries (R6). -/
def Entry.carried (b : HandoffBody) (side : Side) (e : Entry) : Entry :=
  { e with cls := b.cls, ring := b.ring, retired := b.retired, pool := if b.pool = 0 then none else some b.pool, passes := b.passes,
           errors := b.errors, state := .inHatch side }

/-- The visiting entry that a HANDOFF makes (R6). -/
def visitingEntry (b : HandoffBody) (side : Side) : Entry :=
  Entry.carried b side
    { volume := b.volume, home := .station b.home, slot := none, cls := 1, ring := false, pool := none, passes := 0, errors := 0,
      retired := false, unrecorded := false, exitPending := false, state := .inHatch side, reservation := none }

/-- A receiver-side hop completes at its HANDOFF (R52); its HELD claim granted runs a planning pass (R47). -/
def State.hopArrives (r : ReqNo) (v : Serial) (s : State) : State :=
  ((((s.dropArrival r).updEntry v fun e => { e with reservation := some { req := r, kind := .held } }).updReq r fun q =>
    { q with hopExpiry := none, reel := some v, reelClass := (s.findEntry v).map Entry.cls }).startMove r .takeIn).push .plan

/-- The reel of a HANDOFF is placed by the first case that applies (R135, R136); a hop whose arrival reservation has gone needs table
room. With no live hop, a reel homed here and AWAY whose HANDOFF names another Home station fits no case word for word, and is taken as
unexpected content (DESIGN CHOICE, log entry 106). -/
def State.placeArrival (b : HandoffBody) (sender : Nat) (side : Side) (s : State) : State :=
  let res := Resource.hatch b.boundary
  let clear := s.raisePlain .hatchClear (.hatch side)
  let hop := match b.req.bind fun r => s.findReq r with
    | some q => if q.state = .hopping ∧ q.hopExpiry.isSome then some q.req else none
    | none => none
  match s.findEntry b.volume, hop with
  | none, some r =>
    if r ∈ s.inv.hatchArrivals ∨ 1 ≤ s.tableRoom then ((s.dropArrival r).addEntry (visitingEntry b side)).hopArrives r b.volume
    else clear
  | some e, hop =>
    (match e.state, e.home with
     | .away _, .here =>
       let t := s.updEntry b.volume (Entry.carried b side)
       (match hop with
        | some r => t.hopArrives r b.volume
        | none => if b.home = s.self then t.askTakeIn b.volume else clear)
     | _, _ => clear)
  | none, none =>
    if b.home = sender ∧ 1 ≤ s.tableRoom then
      (s.addEntry (visitingEntry b side)).owe res .noRequest b.volume
    else clear

/-- A HANDOFF addressed here (R135). A conflict over the hatch is gone with it: its prompt leaves if it was acknowledged, and otherwise stands
until its next ACK (DESIGN CHOICE, log entry 101). In DETACHED or DUPLICATE the record is left Dropped, one Dropped before too (DESIGN
CHOICE, log entry 99). -/
def State.hearHandoff (b : HandoffBody) (sender : Nat) (s : State) : State :=
  let res := Resource.hatch b.boundary
  match s.resSide res with
  | none => s
  | some side =>
    let silent := decide (s.line.state = .detached) || decide (s.line.state = .duplicate)
    let t := (s.withdraw (isHold res false)).withdraw (isYield res)
    let t := (t.withdraw (isHold res true)).endConflict res
    let t := t.updRec res fun c =>
      { c with holder := if silent then .none else .self, own := if silent then .none else .held, dropped := silent, dispute := .none,
               conflictAcked := false, conflictGone := false, concede := false, alone := false, cradle := .volume b.volume }
    let t := t.placeArrival b sender side
    if silent then t else (t.push (.obtained res)).push .useEnd

/-! ## Answers to requests of peers -/

/-- The line state sends no answer: LISTEN, DETACHED and DUPLICATE (R111, R117). -/
def State.silentLine (s : State) : Bool :=
  decide (s.line.state = .listen) || decide (s.line.state = .detached) || decide (s.line.state = .duplicate)

/-- An answer is asked of the Line Controller, or nothing in a line state that sends none (R111, R117; log entry 30). -/
def State.answer (m : Msg) (s : State) : State := if s.silentLine then s else s.send m

/-- REFUSED goes to the station that sent the PLACE. -/
def State.refuse (sender : Nat) (r : ReqNo) (why : RefuseReason) (s : State) : State :=
  s.answer (.refused { target := sender, req := r, reason := why })

/-- PLACED goes to the station that sent the PLACE. -/
def State.accept (sender : Nat) (r : ReqNo) (s : State) : State := s.answer (.placed { target := sender, req := r })

/-- The record made for a PLACE taken in (R52, R58, R111, R120). -/
def State.takenIn (b : PlaceBody) (state : ReqState) (drive hopExpiry : Option Nat) (s : State) : Request where
  req := b.req
  role := .takenIn
  jobTag := 0
  want := b.want
  reel := some b.reel
  access := b.access
  classWish := b.classWish
  reelClass := some b.reelClass
  priority := b.priority
  account := b.account
  deadline := if b.minutes = 0 then none else some (s.acct.stationTime + 60 * b.minutes)
  late := b.late
  state := state
  server := none
  hop := if b.viaHatch then 1 else b.hop
  drive := drive
  promptAcks := b.promptAcks
  placeAttempts := 0
  promptPending := none
  ackHeld := false
  cancelPending := false
  lineWait := false
  skipLeft := false
  skipRight := false
  hopExpiry := hopExpiry
  release := none
  entered := s.acct.stationTime
  phase := .none
  windowEnd := none
  answers := []
  placeTarget := none
  waitEnd := none
  followUp := none
  settleReseek := false
  forwardDue := none
  releaseUnsent := false
  located := false
  roomWait := none
  hopTo := none
  placeWait := false
  unanswered := false
  triedLeft := false
  triedRight := false
  reseekDue := none

/-- A plain PLACE addressed here (R111). -/
def State.hearPlace (b : PlaceBody) (sender : Nat) (s : State) : State :=
  let r := b.req
  let refuse := fun why => s.refuse sender r why
  match s.findReq r with
  | some { role := .takenIn, .. } => s.accept sender r
  | _ =>
    if r.origin = s.self then refuse .unavailable
    else if s.sys.mode ≠ .active ∨ s.line.state = .muted ∨ s.silentLine = true then refuse .unavailable
    else if Config.mountQueueSize ≤ s.rm.queue.length then refuse .noRoom
    else
      match s.findEntry b.reel with
      | none => refuse .notHere
      | some e =>
        if (match e.state with
            | .away _ => true
            | .missing => true
            | _ => false) then refuse .notHere
        else if b.access = .write ∧ e.retired = true then refuse .retired
        else
          match s.claimReel b.reel r .held with
          | (.granted, t) =>
            let t := (t.accept sender r).addReq (s.takenIn b .waiting none none)
            if s.inv.bay = .audit then t.push .plan else (t.lookup r).push .plan
          | (_, _) => refuse .unavailable

/-- A proxy of this station becomes the converted record of R52: OWN, receiver-side HOPPING (R122). It keeps its own Prompt Acks
(log entry 79). -/
def Request.convert (b : PlaceBody) (sender d expiry : Nat) (q : Request) : Request :=
  { q with role := .own, state := .hopping, server := some sender, hop := 1, reel := some b.reel, reelClass := some b.reelClass,
           drive := some d, hopExpiry := some expiry, forwardDue := none, phase := .none }

/-- Cases 3 to 8 of R120, for a new record or for a proxy to be converted (R122). -/
def State.hopDecide (b : PlaceBody) (sender : Nat) (convert : Bool) (s : State) : State :=
  let r := b.req
  let refuse := fun why => s.refuse sender r why
  let hatch := match s.sideOf sender with
    | some side => s.hasHatch side
    | none => false
  if s.sys.mode ≠ .active ∨ s.line.state = .muted ∨ s.silentLine = true then refuse .unavailable
  else if s.bayShut then refuse .door
  else if !hatch then refuse .unavailable
  else if convert = false ∧ Config.mountQueueSize ≤ s.rm.queue.length then refuse .noRoom
  else if s.tableRoom = 0 then refuse .noRoom
  else
    match s.chooseLocal (requiredClass b.classWish b.reelClass) with
    | none => refuse .noDrive
    | some x =>
      let expiry := s.acct.stationTime + s.cfg.hopTimeout
      let t := (s.accept sender r).modInv fun i => { i with hatchArrivals := i.hatchArrivals ++ [r] }
      let t := if convert then t.updReq r (Request.convert b sender x.address expiry)
        else t.addReq (s.takenIn b .hopping (some x.address) (some expiry))
      t.reserveDrive x.address r

/-- A via-hatch PLACE addressed here (R120, R122). -/
def State.hearViaHatch (b : PlaceBody) (sender : Nat) (s : State) : State :=
  match s.findReq b.req with
  | some { role := .takenIn, .. } => s.accept sender b.req
  | some { role := .proxy, state := st, .. } =>
    if st = .forwarded then s.hopDecide b sender true else s.refuse sender b.req .unavailable
  | _ => if b.req.origin = s.self then s.refuse sender b.req .unavailable else s.hopDecide b sender false

/-- A PLACED addressed here (R50, R113, R120; log entries 11, 31, 64). One from a neighbour that was sent a via-hatch PLACE and is awaited no
more is Stray (R120; log entry 70). -/
def State.hearPlaced (r : ReqNo) (sender : Nat) (s : State) : State :=
  let other := if r.origin = s.self then s.sendRelease sender r .cancel else s.countStray
  match s.findReq r with
  | none => other
  | some q =>
    let late := if q.tried (s.sideOf sender) then s.countStray else other
    match q.role, q.phase with
    | .own, .placing => if q.placeTarget = some sender then s.becomeProxy r sender else late
    | .own, .followUp => if q.placeTarget = some sender ∧ q.unanswered = true then s.becomeProxy r sender else late
    | .own, .hopPlacing => if q.placeTarget = some sender then s.hopAccepted r sender else late
    | .takenIn, .hopPlacing => if q.placeTarget = some sender then s.hopAccepted r sender else late
    | .proxy, _ => if q.server = some sender then s else late
    | _, _ => late

/-- A REFUSED addressed here (R50, R112, R113). -/
def State.hearRefused (r : ReqNo) (why : RefuseReason) (sender : Nat) (s : State) : State :=
  match s.findReq r with
  | none => s.countStray
  | some q =>
    if q.placeTarget = some sender ∧ q.phase = .placing then
      match why with
      | .retired => s.failRequest r .reelRetired
      | .noRoom => s.countAttempt r (s.againTo sender) false
      | _ => s.countAttempt r .seekAgain false
    else if q.placeTarget = some sender ∧ q.phase = .hopPlacing then s.hopRefused r sender
    else s.countStray

/-! ## Proxies -/

/-- A proxy ends at an OUTCOME DISMOUNTED (R116). -/
def State.proxyDismounted (q : Request) (n : Nat) (s : State) : State :=
  match q.state with
  | .cancelling => s.endRequest q.req .cancelled
  | .remoteMounted => (match q.release with
      | some (.dismount k) => s.endRequest q.req (.dismounted k)
      | _ => s.endRequest q.req (.dismounted n))
  | _ => s.endRequest q.req (.dismounted n)

/-- The server of a proxy has handed the request on (R116, R122). -/
def State.proxyMoved (q : Request) (p : Nat) (s : State) : State :=
  if p = s.self then s.failRequest q.req .serverLost
  else if q.state = .cancelling then s.updReq q.req fun q => { q with server := some p, releaseUnsent := true }
  else s.updReq q.req fun q => { q with server := some p, forwardDue := some (s.acct.stationTime + s.cfg.forwardCheckInterval) }

/-- The server of a proxy has mounted the reel (R116). -/
def State.proxyMounted (q : Request) (d : DriveId) (s : State) : State :=
  if q.state = .forwarded then (s.updReq q.req fun q => { q with state := .remoteMounted }).reqReport q (.mounted d q.reel) else s

/-- An OUTCOME taken by a proxy (R116). -/
def State.applyOutcome (q : Request) (ev : OutcomeEvent) (s : State) : State :=
  match ev with
  | .mounted d => s.proxyMounted q d
  | .failed c => s.failRequest q.req c
  | .dismounted n => s.proxyDismounted q n
  | .cancelled => s.endRequest q.req .cancelled
  | .moved p => s.proxyMoved q p

/-- A STATE taken by a proxy (R117). -/
def State.applyState (q : Request) (a : StateAnswer) (s : State) : State :=
  let mark := fun (t : State) => if q.release.isSome then t.updReq q.req fun q => { q with releaseUnsent := true } else t
  match a with
  | .mounted d => mark (s.proxyMounted q d)
  | .pending => mark s
  | .moved p => s.proxyMoved q p
  | .unknown =>
    match q.release with
    | some (.dismount n) => s.endRequest q.req (.dismounted n)
    | some .cancel => s.endRequest q.req .cancelled
    | none => s.failRequest q.req .serverLost

/-- Who an OUTCOME or a STATE is for: a proxy of its sender, or a request PLACING with its sender, which is taken as placed
(R103, R113, R116, R122). -/
def State.fromServer (r : ReqNo) (sender : Nat) (movedHere : Bool) (apply : Request → State → State) (s : State) : State :=
  match s.findReq r with
  | none => s.countStray
  | some q =>
    match q.role with
    | .proxy => if q.server = some sender then apply q s else s.countStray
    | .own =>
      if q.phase = .placing ∧ q.placeTarget = some sender then
        let t := s.becomeProxy r sender
        (match t.findReq r with
         | some p => apply p t
         | none => t)
      else if movedHere ∧ q.server = some sender then s
      else s.countStray
    | .takenIn => s.countStray

/-- The MOVED of an OUTCOME or STATE names this station (R122). -/
def State.movedHere (p : Option Nat) (s : State) : Bool := decide (p = some s.self)

/-- The answer to an ASK (R117). -/
def State.askAnswer (r : ReqNo) (s : State) : StateAnswer :=
  match s.findReq r with
  | some { role := .takenIn, state := .mounted, drive := some d, .. } =>
    (match s.findDrive d with
     | some x => .mounted (s.driveId x)
     | none => .pending)
  | some { role := .takenIn, .. } => .pending
  | _ =>
    match s.px.moved.find? fun m => decide (m.1 = r) with
    | some m => .moved m.2
    | none => .unknown

/-- An ASK addressed here is answered with a STATE; a Moved List record goes when its answer is asked of the line (R117, R121; log
entry 90). -/
def State.hearAsk (r : ReqNo) (s : State) : State :=
  if s.silentLine then s
  else
    let a := s.askAnswer r
    let t := s.send (.state { req := r, answer := a })
    match a with
    | .moved _ => t.modPx fun p => { p with moved := p.moved.filter fun m => decide (m.1 ≠ r) }
    | _ => t

/-- A RELEASE addressed here (R118). -/
def State.hearRelease (r : ReqNo) (k : ReleaseKind) (sender : Nat) (s : State) : State :=
  match s.findReq r with
  | some q =>
    if q.role = .takenIn ∧ sender = r.origin then
      match k with
      | .dismount n => if q.state = .mounted then s.dismountRequest r n (.dismounted n) else s.cancelRequest r
      | .cancel => s.cancelRequest r
    else s.countStray
  | none => s.countStray

/-! ## SEEKs heard -/

/-- The status of a HAVE for an entry (R104); none for an AWAY entry. -/
def State.haveStatus (e : Entry) (s : State) : Option HaveStatus :=
  let grace : Nat → Bool := fun d => match s.findDrive d with
    | some x => decide (x.state = .grace)
    | none => false
  match e.home, e.state with
  | _, .missing => some .missing
  | _, .away _ => none
  | .here, .home => some .home
  | .here, .onDrive d => some (if grace d then .grace else .onDrive)
  | .here, .inGripper => some .inGripper
  | .here, .inHatch _ => some .inHatch
  | .here, .atEntry _ => some .atEntry
  | .station _, .onDrive d => some (if grace d then .grace else .visiting)
  | .station _, _ => some .visiting

/-- The expiry of the TIMED claim that a HAVE makes (R7). -/
def State.claimExpiry (asker : Nat) (s : State) : Nat :=
  let p := match (s.rosterAt asker).presence with
    | some b => b.period
    | none => s.cfg.presencePeriod
  s.sys.clock + 2 * s.cfg.seekWindow + 1000 * p

/-- A HAVE for an entry (R104). -/
def State.sendHave (b : SeekBody) (e : Entry) (st : HaveStatus) (s : State) : State :=
  s.send (.have_ { req := b.req, volume := e.volume, status := st, cls := e.cls, ring := e.ring, retired := e.retired,
                   freeDrive := s.freeDriveFor (requiredClass b.classWish e.cls) })

/-- A SEEK is answered from the Reel Table (R104, R105). -/
def State.hearSeek (b : SeekBody) (sender : Nat) (s : State) : State :=
  if (s.sys.mode = .active ∨ s.sys.mode = .standalone) ∧ s.permits .have_ = true then
    match b.want with
    | .volume v =>
      (match s.findEntry v with
       | none => s
       | some e =>
         match s.haveStatus e with
         | none => s
         | some .missing => s.sendHave b e .missing
         | some st =>
           match s.claimReel v b.req (.timed (s.claimExpiry sender)) with
           | (.granted, t) => t.sendHave b e st
           | (_, t) => t.sendHave b e .busy)
    | .pool p =>
      (match s.scratchPick p with
       | none => s
       | some e => ((s.claimReel e.volume b.req (.timed (s.claimExpiry sender))).2).sendHave b e .home)
  else s

/-! ## What the end of a message leads to -/

/-- A HANDOFF given up stays owed until the next event of R134; only a hop whose neighbour is gone meanwhile is looked at here. -/
def State.handoffKept (res : Resource) (s : State) : State :=
  match s.findRec res with
  | some c => if s.isPresent c.neighbour then s else s.handoffOne c
  | none => s

/-- The owner of a message given up acts (R50, R90, R106, R110, R114, R128 to R131, R134). A PLACE given up went unanswered (R113; log
entry 64); a settle re-seek given up is not asked again, for want of room in the queue either (R109; log entry 77); only a RELEASE to the
current server sets Release Unsent (R114; log entry 78). -/
def State.ownerUndelivered (m : Msg) (cause : UndelCause) (s : State) : State :=
  match m with
  | .seek b =>
    (match s.findReq b.req with
     | none => s
     | some q =>
       if q.phase ≠ .seeking then s
       else match cause with
         | .attempts => s.closeWindow b.req
         | .queueFull => s.updReq b.req fun q => { q with phase := .none, settleReseek := false }
         | _ => s.updReq b.req fun q => { q with phase := .none, lineWait := !q.settleReseek, settleReseek := false })
  | .place b =>
    (match s.findReq b.req with
     | none => s
     | some q =>
       if b.viaHatch then if q.phase = .hopPlacing then s.hopRefused b.req b.target else s
       else if q.phase = .placing ∧ q.placeTarget = some b.target then s.countAttempt b.req (s.againTo b.target) true
       else s)
  | .release b => s.updReq b.req fun q => if q.role = .proxy ∧ q.server = some b.server ∧ q.release.isSome then { q with releaseUnsent := true } else q
  | .hold b =>
    (match s.findRec b.resource with
     | none => s
     | some c =>
       if b.dispute then s.disputeLost b.resource
       else if c.holder = .none ∧ c.own = .wanting then
         if cause = .attempts ∧ s.isPresent c.neighbour = false then
           ((s.updRec b.resource fun c => { c with holder := .self, own := .held, dropped := false }).push (.obtained b.resource)).push .useEnd
         else (s.updRec b.resource fun c => { c with own := .none }).push (if cause = .queueFull then .notTaken b.resource else .lost b.resource)
       else s)
  | .yield b => s.endGiveWay b.resource
  | .handoff b => s.handoffKept (.hatch b.boundary)
  | _ => s

/-- The owner of a witnessed message acts (R50, R106, R110, R114, R127, R129, R134). Only a RELEASE to the current server clears Release
Unsent (R114, R116; log entry 78). -/
def State.ownerWitnessed (m : Msg) (s : State) : State :=
  match m with
  | .seek b =>
    (match s.findReq b.req with
     | none => s
     | some q =>
       if q.phase = .seeking then
         s.updReq b.req fun q => { q with phase := .window, answers := [], windowEnd := some (s.sys.clock + s.cfg.seekWindow) }
       else s)
  | .place b => s.updReq b.req fun q =>
      if (q.phase = .placing ∨ q.phase = .hopPlacing) ∧ q.placeTarget = some b.target then { q with waitEnd := some (s.sys.clock + s.periodMs) } else q
  | .release b => s.updReq b.req fun q => if q.role = .proxy ∧ q.server = some b.server then { q with releaseUnsent := false } else q
  | .hold b => s.holdWitnessed b
  | .yield b => s.yieldWitnessed b
  | .handoff b => s.handoffWitnessed b
  | _ => s

/-- A message withdrawn while on the line was not witnessed: nothing is sent any more (R89, R129). Its HANDOFF had waited for the Neighbour's
absence, so that its hatch is looked at now (R134; log entry 69). A Dispute HOLD that its record still
stands on cannot be sent, as at entry to STANDALONE (R131; log entry 52). -/
def State.ownerWithdrawn (m : Msg) (s : State) : State :=
  match m with
  | .hold b =>
    if b.dispute then
      if (s.findRec b.resource).any fun c => decide (c.dispute ≠ .none) then s.disputeLost b.resource else s
    else s.holdKept b.resource
  | .yield b => s.yieldKept b.resource
  | .handoff b => s.push (.handoffOn (.hatch b.boundary))
  | _ => s

/-- The Peer Exchange acts on a peer that has become ABSENT (R51, R119); a PLACE that waited on it went unanswered (R113; log entry 64). -/
def State.exchangeAbsent (p : Nat) (s : State) : State :=
  let proxies := s.rm.queue.filter fun q => decide (q.role = .proxy) && decide (q.server = some p)
  let t := State.forEach proxies (fun q t => t.failRequest q.req .serverLost) s
  let t := t.modRm fun m => { m with queue := m.queue.map fun q => { q with answers := q.answers.filter fun a => decide (a.station ≠ p) } }
  let t := State.forEach (t.rm.queue.filter fun q => decide (q.placeTarget = some p) && decide (q.phase = .placing))
    (fun q t => t.countAttempt q.req .seekAgain true) t
  let t := State.forEach (t.rm.queue.filter fun q => decide (q.placeTarget = some p) && decide (q.phase = .followUp))
    (fun q t => t.updReq q.req fun q => { q with followUp := some .seekAgain, placeWait := false }) t
  let t := State.forEach (t.rm.queue.filter fun q => decide (q.placeTarget = some p) && decide (q.phase = .hopPlacing))
    (fun q t => t.hopRefused q.req p) t
  match s.sideOf p with
  | none => t
  | some side =>
    State.forEach (t.rm.queue.filter fun q => decide (q.state = .hopping) && decide (q.hopExpiry = none) && decide (q.hopTo = some p) &&
        !(t.arm.current.any fun m => decide (m.req = some q.req)) &&
        !(t.claim.records.any fun c => decide (c.handoffDue = some (.request q.req))))
      (fun q t => (t.removeMoves fun m => decide (m.req = some q.req)).hopBack q.req side) t

end Sys2Proof.Machine
end

