-- ==== Sys2Proof/Machine/Planning.lean ====
section
/-! DEFINITION. Planning (R47), the steps a drive takes when it becomes EMPTY (R27), the offering of room (R68), what a prompt that
leaves sets off (R150), and how the consequences of one command are worked off (log entry 4). -/

namespace Sys2Proof.Machine

/-! ## The steps of a planning pass -/

/-- A request's reel is free for planning (R48). -/
def State.reelFree (q : Request) (s : State) : Bool :=
  decide (q.state = .standby) && decide (q.drive = none) && decide (q.roomWait = none) && !q.cancelPending &&
    decide (q.promptPending = none) && decide (s.inv.bay = .normal) &&
    match q.reel.bind fun v => s.findEntry v with
    | none => false
    | some e => e.isHomed && decide (e.state = .home) && decide (e.reservation = some { req := q.req, kind := .held }) &&
        !s.isMoveSource e.volume && !s.isCleaningReel e.volume

/-- The request is a WRITE whose reel's entry shows the Ring absent (R47 step 4). -/
def State.wantsRing (q : Request) (s : State) : Bool :=
  decide (q.access = .write) &&
  match q.reel.bind fun v => s.findEntry v with
  | some e => !e.ring
  | none => false

/-- Step 1: the WAITING requests are looked up (R47). -/
def State.planLookup (s : State) : State :=
  if s.sys.mode = .joining ∨ s.inv.bay = .audit then s
  else State.forEach (s.rm.queue.filter fun q => decide (q.state = .waiting)) (fun q t => t.lookup q.req) s

/-- The steps that waited for the line, or for room in the Transmit Queue, are taken again (R57, R106, R110). While the line may not carry
them, one that waited for the line waits on, and one that waited for room gets its Line Wait. -/
def State.planLine (s : State) : State :=
  State.forEach (s.rm.queue.filter fun q => decide (q.state = .locating) &&
      ((q.lineWait && s.lineOk) || (!q.lineWait && decide (q.phase = .none) && decide (q.promptPending = none))))
    (fun q t => match q.placeWait, q.placeTarget with
      | true, some p => t.sendPlace q.req p
      | _, _ => t.askSeek q.req) s

/-- Step 2 on one request: its HELD claim is made again; a WRITE request whose reel has become retired fails (R47). -/
def State.planClaim (r : ReqNo) (s : State) : State :=
  match s.findReq r with
  | none => s
  | some q =>
    if q.state = .standby then
      match q.reel.bind fun v => s.findEntry v with
      | none => s
      | some e =>
        if q.access = .write ∧ e.retired = true then s.failRequest r .reelRetired
        else if s.claimGranted e.volume r then s
        else (s.claimReel e.volume r .held).2
    else s

/-- A granted drive: the MOUNT move, or CLAIMING for a boundary drive shown NONE (R24, R49). -/
def State.grant (r : ReqNo) (x : Drive) (s : State) : State :=
  let t := s.reserveDrive x.address r
  if s.driveHeld x then t.startMove r .mount
  else
    match s.posRes x.position with
    | none => t
    | some res => (t.updReq r fun q => { q with state := .claiming, phase := .none }).addAsk res (.request r)

/-- The arbiter on one request: presented if its reel is free, its ring is as its access needs and no hop is offered (R29, R50). -/
def State.arbitrate (r : ReqNo) (s : State) : State :=
  match s.findReq r with
  | none => s
  | some q =>
    if s.reelFree q && !s.wantsRing q && decide (q.phase ≠ .hopPlacing) then
      match s.chooseDrive q.required with
      | some x => s.grant r x
      | none => s
    else s

/-- The arbiter on every request, in Mount Queue order (R29). -/
def State.arbiter (s : State) : State := State.forEach (s.rm.queue.map Request.req) (fun r t => t.arbitrate r) s

/-- Step 4 on one request: the ring-out path (R54). -/
def State.planRing (r : ReqNo) (s : State) : State :=
  match s.findReq r with
  | none => s
  | some q => if s.reelFree q && s.wantsRing q && decide (q.phase ≠ .hopPlacing) then s.startMove r .ringOut else s

/-- Step 6 on one request: the hop (R50). -/
def State.planHop (r : ReqNo) (s : State) : State :=
  match s.findReq r with
  | none => s
  | some q => if s.reelFree q && !s.wantsRing q && decide (q.phase ≠ .hopPlacing) then s.offerHop r else s

/-- A GRACE drive that may be yielded to a required class (R31). -/
def State.yieldable (k : Nat) (x : Drive) (s : State) : Bool := decide (x.state = .grace) && decide (k ≤ x.cls) && s.driveHeld x

/-- Earliest grace expiry first, then lowest address (R31). -/
def graceBefore (a b : Drive) : Bool :=
  decide (a.graceExpiry.getD 0 < b.graceExpiry.getD 0) ||
  (decide (a.graceExpiry = b.graceExpiry) && decide (a.address < b.address))

/-- Step 7 on one request: grace yields to need (R31). -/
def State.planYield (r : ReqNo) (s : State) : State :=
  match s.findReq r with
  | none => s
  | some q =>
    if s.reelFree q && !s.wantsRing q && !(s.drv.drives.any fun x => decide (x.state = .idleLoaded) && decide (q.required ≤ x.cls)) then
      match leastBy graceBefore (s.drv.drives.filter fun x => s.yieldable q.required x) with
      | some x => (s.modDrv fun u => { u with graceYielded := satAdd Config.max32 u.graceYielded 1 }).driveToIdle x.address
      | none => s
    else s

/-- The Drive Unit asks for the hold of each boundary drive in use, but in JOINING, or waiting to be cleaned, that is not held
(R22, R35, R126; log entry 23); one whose CLEAN move failed waits for the next occasion of R35 (log entry 83). -/
def State.driveAsks (s : State) : State :=
  State.forEach s.drv.drives
    (fun x t => match t.posRes x.position with
      | none => t
      | some res =>
        if t.heldSelf res then t
        else if (t.driveInUse x && decide (t.sys.mode ≠ .joining)) || (x.wantsClean && !x.parked && t.cleaningPick.isSome && t.canHold) then t.addAsk res (.driveUnit x.address) else t) s

/-- A TAKE_IN whose request has lost its drive is asked anew once there is room, and a drive for it (R68; log entry 16). -/
def State.planTakeIn (r : ReqNo) (s : State) : State :=
  match s.findReq r with
  | none => s
  | some q => if q.roomWait = some .takeIn ∧ q.drive = none ∧ s.armRoom = true then s.startMove r .takeIn else s

/-- One pass over the Mount Queue (R47), with the HOLD test of R126. -/
def State.plan (s : State) : State :=
  let each := fun (f : ReqNo → State → State) (t : State) => State.forEach (t.rm.queue.map Request.req) f t
  let t := s.planLookup.planLine
  let t := each (fun r t => t.planClaim r) t
  let t := State.forEach (t.drv.drives.map Drive.address) (fun d t => t.examineDrive d) t
  let t := each (fun r t => t.planRing r) t
  let t := t.arbiter
  let t := each (fun r t => t.planTakeIn r) t
  let t := each (fun r t => t.planHop r) t
  let t := each (fun r t => t.planYield r) t
  t.driveAsks.claimTest

/-! ## Other consequences -/

/-- The Drive Unit's ask for a boundary drive ends once the drive is EMPTY with no serving request (R22, R27, R126). -/
def State.endDriveAsk (d : Nat) (s : State) : State :=
  match s.findDrive d, s.driveRes d with
  | some x, some res => if x.state = .empty ∧ x.serving = none then s.dropAsk res (.driveUnit d) else s
  | _, _ => s

/-- What follows when a drive becomes EMPTY (R27): the hold it needed before it needs no more (R126), then cleaning, the arbiter, and the
report that its use has ended (R22). -/
def State.driveEmptied (d : Nat) (s : State) : State :=
  let t := (s.endDriveAsk d).beginCleaning d
  let t := match t.findDrive d with
    | some x => if t.eligible x then t.arbiter else t
    | none => t
  t.driveUseEnds d

/-- The end-of-use test waits until the steps of R27 have run for every drive that has become EMPTY (R22). -/
def State.useEndWork (s : State) : State :=
  if s.agenda.any fun w => match w with
    | .driveEmpty _ => true
    | _ => false then s.push .useEnd
  else s.useEndTest

/-- Room in the Arm Order Queue is offered to the waiting asks (R68). Its list names no place for a TAKE_IN with no request: it comes after the
drives and before the ENTRY_INs (DESIGN CHOICE, log entry 13). -/
def State.offerRoom (s : State) : State :=
  let t := State.forEach s.drv.drives (fun x t => if t.armRoom then (t.stowDrive x.address).cleanMove x.address else t) s
  let t := State.forEach t.claim.takeInWaits (fun v t => if t.armRoom then t.askTakeIn v else t) t
  let byCell := ((List.range Config.entryCells).map fun c => t.inv.entryInWaits.filter fun v =>
    match t.findEntry v with
    | some e => decide (e.state = .atEntry c)
    | none => false).flatten
  let t := State.forEach byCell (fun v t => if t.armRoom then t.askEntryIn v else t) t
  let t := State.forEach (List.range Config.entryCells) (fun _ t => t.serveExit) t
  State.forEach (t.rm.queue.map Request.req)
    (fun r t => match (t.findReq r).bind Request.roomWait with
      | some k => if t.armRoom then t.startMove r k else t
      | none => t) t

/-- An asker is told that the hold of a resource is obtained (R126); the Claim Unit's own ask needs no more than the HANDOFF test that the
hold brings (R134). -/
def State.tellObtained (res : Resource) (a : Asker) (s : State) : State :=
  match a with
  | .request r =>
    (match s.findReq r with
     | none => s.dropAsk res a
     | some q =>
       match q.state with
       | .claiming => (s.startMove r .mount).dropAsk res a
       | .hopping => if s.moves.any fun m => decide (m.req = some r) then s else s.startMove r .hopOut
       | _ => s.dropAsk res a)
  | .driveUnit d =>
    (match s.findDrive d with
     | some x =>
       if x.wantsClean ∧ s.cleaningPick.isSome then
         (s.dropAsk res a).beginCleaning d
       else if s.driveInUse x then s.stowDrive d
       else s.dropAsk res a
     | none => s.dropAsk res a)
  | .move _ => s.push .issue
  | .claimUnit => s

/-- An asker joined the list of a resource already held, and is told so (R126). -/
def State.toldHeld (res : Resource) (a : Asker) (s : State) : State :=
  match s.findRec res with
  | none => s
  | some c => if c.holder = .self ∧ c.own = .held ∧ a ∈ c.asks then (s.tellObtained res a).push .issue else s

/-- The hold of a resource is obtained: every asker is told (R126), and a HANDOFF owed for it is tested (R134). -/
def State.holdObtained (res : Resource) (s : State) : State :=
  match s.findRec res with
  | none => s
  | some c =>
    if c.holder = .self ∧ c.own = .held then
      ((State.forEach c.asks (fun a t => t.tellObtained res a) s).push (.handoffOn res)).push .issue
    else s

/-- The hold of a resource is lost (R24, R49, R126, R131): CLAIMING requests and the Drive Unit leave the Ask List; a drive in use
is asked for again (R22). -/
def State.holdLost (res : Resource) (s : State) : State :=
  match s.findRec res with
  | none => s
  | some c =>
    let t := State.forEach c.asks (fun a t => match a with
      | .request r =>
        (match t.findReq r with
         | some q => if q.state = .claiming then ((t.dropAsk res a).releaseDrivesOf r).backToStandby r else t
         | none => t.dropAsk res a)
      | .driveUnit _ => t.dropAsk res a
      | .move _ => t
      | .claimUnit => t) s
    let t := match t.resDrive res with
      | some x => if t.driveInUse x then t.addAsk res (.driveUnit x.address) else t
      | none => t
    (t.push .claimTest).push .issue

/-- A drive RESERVED for a request becomes EMPTY; the planning pass without HOLDs follows (log entry 12). -/
def Drive.freed (r : ReqNo) (x : Drive) : Drive :=
  if x.serving = some (.request r) ∧ x.state = .reserved then { x with state := .empty, loaded := none, serving := none } else x

/-- The drives RESERVED for a request become EMPTY; the planning pass without HOLDs follows (log entry 12). -/
def State.freeQuietly (r : ReqNo) (s : State) : State := s.modDrv fun u => { u with drives := u.drives.map (Drive.freed r) }

/-- The records shown NONE stand as the neighbour's. -/
def maskRec (c : ClaimRec) : ClaimRec := if c.holder = .none then { c with holder := .peer } else c

/-- A planning pass that asks for no HOLD: the resources shown NONE are out of it as those of the neighbour are, and are shown NONE
again after it (R47, R128; log entry 12). -/
def State.planWithoutHolds (s : State) : State :=
  (s.modClaim fun u => { u with records := u.records.map maskRec }).plan.modClaim fun u =>
    { u with records := u.records.map fun c =>
        if (s.findRec c.res).any fun b => decide (b.holder = .none) then { c with holder := .none } else c }

/-- A HOLD met a full Transmit Queue: the hold is lost as for any other cause, and the planning pass of R47 runs without the HOLD, which
it would ask for again at once (R128; log entry 12). -/
def State.holdNotTaken (res : Resource) (s : State) : State :=
  match s.findRec res with
  | none => s
  | some c =>
    let claiming := c.asks.any fun a => match a with
      | .request r => (s.findReq r).any fun q => decide (q.state = .claiming)
      | _ => false
    let t := State.forEach c.asks (fun a t => match a with
      | .request r =>
        (match t.findReq r with
         | some q =>
           if q.state = .claiming then
             ((t.dropAsk res a).freeQuietly r).updReq r fun q => { q with state := .standby, phase := .none, drive := none, roomWait := none }
           else t
         | none => t.dropAsk res a)
      | .driveUnit _ => t.dropAsk res a
      | .move _ => t
      | .claimUnit => t) s
    if claiming then t.planWithoutHolds else t

/-- The requests linked to a prompt for a shelf arrival go to STANDBY with their reel (R56). -/
def State.shelfArrived (v : Serial) (links : List ReqNo) (s : State) : State :=
  match s.findEntry v with
  | none => s
  | some e =>
    State.forEach links (fun r t =>
      match t.findReq r with
      | none => t
      | some q =>
        let t := t.updReq r fun q => { q with reel := some v, reelClass := some e.cls, settleReseek := false, reseekDue := none, located := true }
        let t := (t.claimReel v r .held).2
        let t := if q.located then t else t.reqReport q (.located v t.self)
        t.toStandby r) s

/-- An entry is made for a volume in a cell, in the lowest free slot, with its ENTRY_IN (R13). -/
def State.enterReel (v : Serial) (c n : Nat) (s : State) : State :=
  (s.addEntry (foundEntry v n (.atEntry c))).queueEntryIn v

/-- A slot has become free: the ENTRY_FULL prompts SETTLING or SHOWN of volumes in a cell with no entry are served, lowest cell first (R13,
R148). -/
def State.serveSlots (s : State) : State :=
  State.forEach (List.range Config.entryCells)
    (fun c t =>
      match t.lowestFreeSlot, t.cellAt c with
      | some n, .occupied (some v) =>
        if t.findEntry v = none ∧ 1 ≤ t.tableRoom then
          let k : PromptKey := { cls := .entryFull, subject := .volume v }
          match t.findPrompt k with
          | some p =>
            if p.state ≠ .acked then
              let t := (t.enterReel v c n).shelfArrived v p.links
              (t.updPrompt k fun p => { p with links := [] }).withdrawPrompt k
            else t
          | none => t
        else t
      | _, _ => t) s

/-- A SHELF_FETCH that leaves drops its expectation and its ENTRY_FULL CELL prompt (R150). -/
def State.shelfGone (v : Serial) (s : State) : State :=
  let t : State := match s.cellFor v .shelf with
    | some c => s.emptyCell c
    | none => s
  let full : PromptKey := { cls := .entryFull, subject := .volume v }
  match t.findPrompt full with
  | some f => if f.detail = some EntryFullDetail.cell then t.withdrawPrompt full else t
  | none => t

/-- What a prompt that has left the list sets off: its owner, then the waiting causes (R150). -/
def State.promptLeft (p : Prompt) (s : State) : State :=
  let t := match p.cls, p.subject with
    | .armAttention, .volume v => if v ∈ s.inv.entryInFailed then s.askEntryIn v else s
    | .misplaced, .slot n => (match s.slotEntry n with
        | some e => if e.volume ∈ s.inv.slotWaits then s.askEntryIn e.volume else s
        | none => s)
    | .shelfFetch, .volume v => s.shelfGone v
    | _, _ => s
  t.retryPending.takeDeferred

/-- A Dropped record is still in use: an ask, a move, a HANDOFF owed, or a drive whose use has not ended (R137). -/
def State.droppedInUse (c : ClaimRec) (s : State) : Bool :=
  decide (c.asks ≠ []) || decide (c.handoffDue ≠ none) ||
  (s.moves.any fun m => decide (s.locRes m.source = some c.res) || decide (s.locRes m.dest = some c.res)) ||
  match s.resDrive c.res with
  | some x => !x.useOver
  | none => false

/-- Each record still Dropped at recovery asks a HOLD, or a YIELD (R137). -/
def State.settleDropped (s : State) : State :=
  State.forEach (s.claim.records.map ClaimRec.res)
    (fun res t => match t.findRec res with
      | some c =>
        if c.dropped ∧ c.holder = .none ∧ c.own = .none then
          if t.droppedInUse c then
            (if c.asks = [] then
              match t.resDrive res, t.moves.find? fun m => decide (t.locRes m.source = some res) || decide (t.locRes m.dest = some res) with
              | some x, _ => t.addAsk res (.driveUnit x.address)
              | none, some m => t.addAsk res (.move m.volume)
              | none, none => t.addAsk res .claimUnit
            else t).push .claimTest
          else (t.updRec res fun c => { c with own := .yielding }).sendYield res
        else t
      | none => t) s

/-! ## Working off the agenda -/

/-- One consequence. A reel that comes HOME with Exit Pending set takes a cell that is EMPTY already (R11; log entry 72). -/
def State.doWork (w : Work) (s : State) : State :=
  match w with
  | .plan => s.plan
  | .driveEmpty d => s.driveEmptied d
  | .cellEmpty => s.serveCells
  | .slotFree => s.serveSlots
  | .reelHome v =>
    (match s.findEntry v with
     | some e =>
       let t := if e.pool = some 15 ∧ e.retired = false then s.serveClean else s
       if t.lowestEmptyCell.isSome then t.push .cellEmpty else t
     | none => s)
  | .promptGone p => s.promptLeft p
  | .room => s.offerRoom
  | .issue => s.issue
  | .claimTest => s.claimTest
  | .useEnd => s.useEndWork
  | .handoffTest => s.handoffTest
  | .handoffOn res => s.handoffOn res
  | .stray res => s.strayTest res
  | .obtained res => s.holdObtained res
  | .told res a => s.toldHeld res a
  | .lost res => s.holdLost res
  | .notTaken res => s.holdNotTaken res
  | .undelivered m c => s.ownerUndelivered m c
  | .failReq r c => s.failRequest r c
  | .putAway => s.putAwayMove false false
  | .settleDropped => s.settleDropped
  | .entryIn v => s.askEntryIn v
  | .reelLeft v => s.reelGone v

/-- The agenda is worked off in order, at most `n` consequences (log entry 4). -/
def State.drain : Nat → State → State
  | 0, s => s
  | n + 1, s =>
    match s.agenda with
    | [] => s
    | w :: t => State.drain n ((s.withAgenda t).doWork w)

/-- Every consequence of a command comes about inside it, and none waits for the next one (R178, 95; log entry 4). -/
def State.settle (s : State) : State := (State.drain Config.settleFuel s).withAgenda []

end Sys2Proof.Machine
end

