-- ==== Sys2Proof/Machine/Line.lean ====
section
/-! DEFINITION. The Line Controller (chapter 5): PRESENCE (R100, R101), the score and the line states (R91, R92, R94, R95), the
roster (R98, R99), the ends of attempts (R86 to R88), the entry to ACTIVE (R197) and the end of a RESTART (R199). -/

namespace Sys2Proof.Machine

/-! ## PRESENCE -/

/-- Accepts hatch arrivals (R100). -/
def State.acceptsHatch (s : State) : Bool :=
  decide (s.sys.mode = .active) && decide (s.inv.bay = .normal) && (decide (s.line.state = .clear) || decide (s.line.state = .caution)) &&
    (s.cfg.leftHatch || s.cfg.rightHatch) && decide (s.rm.queue.length < Config.mountQueueSize) && decide (1 ≤ s.tableRoom)

/-- The Condition of this station (R100). -/
def State.condition (tag : PresTag) (s : State) : Condition :=
  if tag = .leaving then .leaving
  else if s.sys.mode = .joining ∨ tag = .joining then .joining
  else if s.sys.mode = .standalone then .standalone
  else if s.line.state = .muted then .muted
  else
    match s.inv.bay with
    | .doorOpen => .doorOpen
    | .audit => .audit
    | .normal => .active

/-- The body of this station's PRESENCE as it stands (R100). -/
def State.presenceBody (tag : PresTag) (s : State) : PresenceBody where
  condition := s.condition tag
  period := s.cfg.presencePeriod
  free1 := s.freeCount 1
  free2 := s.freeCount 2
  free3 := s.freeCount 3
  free4 := s.freeCount 4
  queueRoom := Config.mountQueueSize - s.rm.queue.length
  leftHatch := s.cfg.leftHatch
  rightHatch := s.cfg.rightHatch
  accepts := s.acceptsHatch

/-- The message is a PRESENCE. -/
def isPresence : Msg → Bool
  | .presence _ => true
  | _ => false

/-- A PRESENCE is asked; one queued meets the ask. The YIELDING records are asked again, and owed HANDOFFs tested
(R101, R129, R134). -/
def State.askPresence (tag : PresTag) (s : State) : State :=
  let t := if s.queuedMsg isPresence then s else s.sendTagged tag (.presence (s.presenceBody tag))
  t.repeatYields.push .handoffTest

/-- The presence timer starts from its full length (R101). -/
def State.startPresence (s : State) : State := s.modLine fun l => { l with presenceEnd := some (s.sys.clock + s.periodMs) }

/-- A change that may change the Condition: a changed one asks for a PRESENCE and restarts the timer, while it runs (R101). -/
def State.withCondition (f : State → State) (s : State) : State :=
  let t := f s
  if t.condition .plain ≠ s.condition .plain ∧ t.line.presenceEnd.isSome = true ∧ t.sys.restartPending = false then
    (t.askPresence .plain).startPresence
  else t

/-! ## Entering ACTIVE, and the end of RESTART -/

/-- The reels left in an entry cell are taken up at entry to ACTIVE (R19). -/
def State.takeUpCell (c : Nat) (s : State) : State :=
  let t := match s.cellAt c with
    | .occupied (some v) =>
      (match s.findEntry v with
       | none => s.raise { cls := .entryFull, subject := .volume v, detail := some (.noSlot c), req := none }
       | some _ => s)
    | _ => s
  State.forEach (t.inv.entries.filter fun e => decide (e.state = .atEntry c))
    (fun e t => if e.retired then t.raisePlain .retireReel (.volume e.volume) else t.askEntryIn e.volume) t

/-- The Drive Unit's work at entry to ACTIVE (R39, R197). -/
def State.takeUpDrive (x : Drive) (s : State) : State :=
  match x.state with
  | .idleLoaded => (s.updDrive x.address fun x => { x with parked := false }).stowDrive x.address
  | .empty => s.beginCleaning x.address
  | _ => s

/-- The station enters ACTIVE (R96, R197). Retired reels HOME with Exit Pending wait on for a cell (R19; log entry 85). The moves are queued
drive by drive, a STOW or RETURN and a cleaning in address order, and then cell by cell (DESIGN CHOICE, log entry 102). -/
def State.enterActive (s : State) : State :=
  let left := s.line.state
  let entered := if left = .duplicate then LineState.duplicate else .clear
  let t := (s.modSys fun y => { y with mode := .active, listenEnd := none }).modLine fun l => { l with state := entered }
  let t := (t.report (.line left entered t.line.score)).startPresence.askPresence .plain
  let t := t.modPort fun p => { p with silenceEnd := some (t.sys.clock + 1000 * t.cfg.silenceLimit) }
  let t := State.forEach t.drv.drives (fun x t => t.takeUpDrive x) t
  let t := State.forEach (List.range Config.entryCells) (fun c t => t.takeUpCell c) t
  ((t.push .plan).push .issue).push .claimTest

/-- An entry after a RESTART; a visiting reel in the gripper or a hatch is forgotten (R19). -/
def restartEntry (e : Entry) : Option Entry :=
  let e := { e with reservation := none }
  match e.home, e.state with
  | .here, .inGripper => some { e with state := .missing }
  | .here, .inHatch _ => some { e with state := .missing }
  | .station _, .inGripper => none
  | .station _, .inHatch _ => none
  | _, _ => some e

/-- A cell after a RESTART (R19). -/
def restartCell : CellState → CellState
  | .expecting _ _ => .empty
  | c => c

/-- A drive record after a RESTART (R39). -/
def restartDrive (x : Drive) : Drive :=
  let y := { x with serving := none, graceExpiry := none, cleaningEnd := none, cleaningReel := none, cleaningStart := none }
  match x.state with
  | .empty => { y with state := .empty, loaded := none, parked := false }
  | .reserved => { y with state := .empty, loaded := none }
  | .loading => { y with state := .empty, loaded := none }
  | .mounted => { y with state := .idleLoaded, parked := true }
  | .grace => { y with state := .idleLoaded, parked := true }
  | .idleLoaded => { y with state := .idleLoaded, parked := true }
  | .cleaning => { y with state := .idleLoaded, parked := true }
  | .offline => y

/-- The open sessions close at a RESTART, by drive address (R199; log entry 81). -/
def State.closeAll (s : State) : State := State.forEach (s.drv.drives.map Drive.address) (fun d t => t.closeSession d 0 .restart) s

/-- The LINE report of the change to LISTEN, at a score of 0 (R92). -/
def State.reportListen (s : State) : State := if s.line.state = .listen then s else s.report (.line s.line.state .listen 0)

/-- The end of a RESTART (R199): the sessions close and the line state changes first, with their reports, which leave with the Report Queue
(R191), then every block takes its after-restart values. -/
def State.completeRestart (s : State) : State :=
  let t := s.closeAll.reportListen
  { t with
    sys := { t.sys with mode := .init, listenEnd := none, restartPending := false }
    inv := { t.inv with entries := t.inv.entries.filterMap restartEntry, cells := t.inv.cells.map restartCell, hatchArrivals := [],
                        entryInWaits := [], entryInFailed := [], slotWaits := [] }
    drv := { t.drv with drives := t.drv.drives.map restartDrive }
    rm := { t.rm with queue := [] }
    px := { t.px with moved := [] }
    arm := { t.arm with queue := [], current := none, inFlight := none, retryEnd := none }
    line := { txq := [], state := .listen, score := 0, errors := 0, errOverflow := false, roster := t.line.roster.map fun _ => .unknown,
              presenceEnd := none, goodFrames := 0, quietEnd := none }
    claim := { records := [], takeInWaits := [] }
    panel := { t.panel with prompts := [], deferred := [], cursor := none, lamp := .off, lampSince := t.sys.clock,
                            ackPress := t.panel.ackPress.map fun p => { p with target := none } }
    port := { t.port with reports := [], silenceEnd := none }
    agenda := [] }

/-! ## Line states -/

/-- The line state that follows a changed score (R92). -/
def nextLine (held : LineState) (score : Nat) : LineState :=
  match held with
  | .clear => if 96 ≤ score then .detached else if 64 ≤ score then .muted else if 32 ≤ score then .caution else .clear
  | .caution => if 96 ≤ score then .detached else if 64 ≤ score then .muted else if 24 ≤ score then .caution else .clear
  | .muted => if 96 ≤ score then .detached else if 48 ≤ score then .muted else .caution
  | .detached => .detached
  | .listen => .listen
  | .duplicate => .duplicate

/-- The messages of `p` leave the Transmit Queue and are given up (R93). -/
def State.flushTx (p : TxMsg → Bool) (cause : UndelCause) (s : State) : State :=
  let gone := s.line.txq.filter p
  (s.modLine fun l => { l with txq := l.txq.filter fun t => !p t }).giveUpAll gone cause

/-- A message is Undelivered after `n` attempts: its report, and its owner acts, as one event (R90). -/
def State.undeliver (m : TxMsg) (n : Nat) (cause : UndelCause) (s : State) : State :=
  if m.msg.kind = .presence then s
  else (s.report (.undelivered m.msg.kind cause n m.msg.about)).ownerUndelivered m.msg cause

/-- The Transmit Queue is cleared, and every message is Undelivered in queue order (R94, R95). -/
def State.clearTx (cause : UndelCause) (s : State) : State :=
  State.forEach s.line.txq (fun m t => t.undeliver m m.attempts cause) (s.modLine fun l => { l with txq := [] })

/-- What entry to a line state does to the queue, the holds and the recovery counts (R93 to R95, R137): a clearing of the queue comes before
the holds are dropped, so that a Dispute HOLD in it has left its resource to the neighbour by then (R131). -/
def State.enterLine (new : LineState) (s : State) : State :=
  match new with
  | .muted => s.flushTx (fun m => !m.msg.kind.mutedOk) .notPermitted
  | .detached =>
    ((s.clearTx .detached).dropHolds).modLine fun l =>
      { l with goodFrames := 0, quietEnd := some (s.sys.clock + 8 * s.periodMs) }
  | .duplicate => ((s.clearTx .duplicate).dropHolds).modLine fun l => { l with quietEnd := none }
  | _ => s

/-- A change of line state (R92, R95): its entry, the LINE report, the planning pass, the HANDOFF test, the Condition. A PRESENCE
cleared in JOINING, or a LEAVING one, has ended with it (R95, R196, R198). -/
def State.setLine (new : LineState) (s : State) : State :=
  let old := s.line.state
  if new = old then s
  else
    let joiningQueued := s.line.txq.any fun m => decide (m.tag = .joining)
    let t := s.withCondition fun s =>
      ((((s.modLine fun l => { l with state := new }).enterLine new).report (.line old new s.line.score)).push .plan).push .handoffTest
    if new = .detached ∨ new = .duplicate then
      if s.sys.restartPending then t.completeRestart
      else if s.sys.mode = .joining ∧ joiningQueued = true then t.enterActive
      else t
    else t

/-- The score rises or falls by an event, except in LISTEN and DUPLICATE, and the line state follows it (R91, R92). -/
def State.score (f : Nat → Nat) (s : State) : State :=
  match s.line.state with
  | .listen => s
  | .duplicate => s
  | st =>
    let n := f s.line.score
    (s.modLine fun l => { l with score := n }).setLine (nextLine st n)

/-- A rise of the score (R91). -/
def raise_ (k : Nat) (n : Nat) : Nat := satAdd Config.scoreLimit n k

/-- A bad frame received (R84, R91, R94, R97). -/
def State.badFrame (s : State) : State :=
  let t := s.modLine fun l =>
    { l with errors := satAdd Config.max8 l.errors 1, errOverflow := l.errOverflow || decide (l.errors = Config.max8),
             quietEnd := if l.state = .detached then some (s.sys.clock + 8 * s.periodMs) else l.quietEnd }
  t.score (raise_ 1)

/-- Recovery from DETACHED (R94, R137). -/
def State.recover (s : State) : State :=
  let t := s.modLine fun l => { l with score := 0, state := .clear, goodFrames := 0, quietEnd := none }
  ((((t.report (.line .detached .clear 0)).push .settleDropped).push .plan).askPresence .joining).startPresence

/-! ## The roster -/

/-- A good frame credits its sender (R98); the HANDOFFs owed to one that has become PRESENT are tested (R134). -/
def State.credit (p : Nat) (s : State) : State :=
  let e := s.rosterAt p
  let period := match e.presence with
    | some b => b.period
    | none => s.cfg.presencePeriod
  let t := s.updRoster p fun e =>
    { e with state := .present, lastHeard := some s.acct.stationTime, absentAt := some (s.sys.clock + 3 * (1000 * period)) }
  if e.state = .present then t
  else (t.report (.peer p .present (e.presence.map PresenceBody.condition))).testOwedTo p

/-- A roster entry becomes ABSENT (R99). -/
def State.peerGone (p : Nat) (s : State) : State :=
  let cond := (s.rosterAt p).presence.map PresenceBody.condition
  let t := (s.updRoster p fun e => { e with state := .absent, absentAt := none }).report (.peer p .absent cond)
  ((t.claimAbsent p).exchangeAbsent p).push .plan

/-- The free-drive counts or the Condition of two PRESENCEs differ (R47). -/
def presenceDiffers (a : Option PresenceBody) (b : PresenceBody) : Bool :=
  match a with
  | none => true
  | some a => decide (a.condition ≠ b.condition) || decide (a.free1 ≠ b.free1) || decide (a.free2 ≠ b.free2) ||
      decide (a.free3 ≠ b.free3) || decide (a.free4 ≠ b.free4)

/-- A PRESENCE from a neighbour clears its side from the Hop Skips; that, or a change, runs a planning pass (R47, R50). -/
def State.neighbourHeard (p : Nat) (changed : Bool) (s : State) : State :=
  match s.sideOf p with
  | none => s
  | some side =>
    let hit := s.rm.queue.any fun q => q.skips side
    let t := s.modRm fun m => { m with queue := m.queue.map fun q => match side with
      | .left => { q with skipLeft := false }
      | .right => { q with skipRight := false } }
    if hit || changed then t.push .plan else t

/-- A PRESENCE heard: the entry's fields are replaced, and LEAVING makes it ABSENT (R98, R99). -/
def State.hearPresence (b : PresenceBody) (p : Nat) (s : State) : State :=
  let changed := presenceDiffers (s.rosterAt p).presence b
  let t := (s.updRoster p fun e => { e with presence := some b }).credit p
  let t := t.neighbourHeard p changed
  if b.condition = .leaving then t.peerGone p else t

/-- A good frame is taken: a frame with this station's own number is DUPLICATE's entry; any other is credited, then delivered (log entry 87)
and counted toward recovery (R84, R85, R94, R95, R98). -/
def State.takeFrame (sender : Nat) (presence : Bool) (deliver : State → State) (s : State) : State :=
  if sender = s.self then
    if s.line.txq.any TxMsg.onLine then s else s.setLine .duplicate
  else
    let t := if presence then s else s.credit sender
    let detached := decide (t.line.state = .detached)
    let t := if detached then t.modLine fun l => { l with goodFrames := l.goodFrames + 1 } else t
    let t := deliver t
    if detached ∧ t.line.state = .detached ∧ Config.recoveryFrames ≤ t.line.goodFrames then t.recover else t

/-- A frame heard (R81, R84): nothing in INIT; a body outside its ranges is a format fault. -/
def State.hear (sender : Nat) (legal presence : Bool) (deliver : State → State) (s : State) : State :=
  if s.sys.mode = .init then s
  else if legal && decide (sender ≤ 7) then (s.takeFrame sender presence deliver).settle
  else s.badFrame.settle

/-! ## The ends of attempts -/

/-- The message whose frame is on the line. -/
def State.onLine (s : State) : Option TxMsg := s.line.txq.find? TxMsg.onLine

/-- The message on the line leaves the queue. -/
def State.dropOnLine (s : State) : State := s.modLine fun l => { l with txq := l.txq.filter fun t => !t.onLine }

/-- The message on the line keeps its place, with its attempts. -/
def State.keepOnLine (attempts : Nat) (s : State) : State :=
  s.modLine fun l => { l with txq := l.txq.map fun t => if t.onLine then { t with onLine := false, attempts := attempts } else t }

/-- The end of a PRESENCE with Condition JOINING sent in JOINING (R196). A RESTART under way takes its effect (R198). -/
def State.joiningEnded (witnessed : Bool) (s : State) : State :=
  if s.sys.mode ≠ .joining ∨ s.sys.restartPending = true then s
  else if witnessed ∨ s.line.roster.any (fun e => decide (e.state = .present)) = false then s.enterActive
  else s.modSys fun y => { y with listenEnd := some (y.clock + s.periodMs) }

/-- The owner's side of a witnessed message (R88). -/
def State.settled (m : TxMsg) (s : State) : State :=
  match m.tag with
  | .leaving => s.completeRestart
  | .joining => s.joiningEnded true
  | .plain => s.ownerWitnessed m.msg

/-- An attempt ends witnessed (R88, R91). -/
def State.attemptWitnessed (s : State) : State :=
  match s.onLine with
  | none => s
  | some m =>
    let st := s.line.state
    let t := s.dropOnLine.settled m
    if m.tag = .leaving ∨ st = .listen then t else t.score fun n => n - 1

/-- A message whose 4th attempt has failed is given up, and its owner acts before the score changes (R88, R90). -/
def State.attemptsOut (m : TxMsg) (n : Nat) (s : State) : State := s.undeliver m n .attempts

/-- The message's own outcome at a failed attempt (R88, R89, R102). -/
def State.attemptFailed (m : TxMsg) (s : State) : State :=
  match m.tag with
  | .leaving => s.completeRestart
  | tag =>
    if m.withdrawn then s.dropOnLine.ownerWithdrawn m.msg
    else if m.attempts + 1 < Config.maxAttempts then s.keepOnLine (m.attempts + 1)
    else
      let t := s.dropOnLine.attemptsOut m (m.attempts + 1)
      if tag = .joining then t.joiningEnded false else t

/-- An attempt fails, and the score rises by `k` (R87, R88, R91). -/
def State.failAttempt (k : Nat) (s : State) : State :=
  match s.onLine with
  | none => s
  | some m =>
    let st := s.line.state
    let t := s.attemptFailed m
    if m.tag = .leaving ∨ st = .listen then t else t.score (raise_ k)

/-- Some roster entry is PRESENT (R91). -/
def State.anyPresent (s : State) : Bool := s.line.roster.any fun e => decide (e.state = .present)

/-- The frame of the head of the Transmit Queue begins (R86, R89): a PRESENCE takes its body from the state as it stands (R101). A HANDOFF
queued before the door opened goes out as any message (log entry 54). -/
def State.beginFrame (s : State) : State :=
  if s.sys.mode = .init ∨ s.line.txq.any TxMsg.onLine = true then s
  else
    match s.line.txq with
    | [] => s
    | m :: rest =>
      if s.permits m.msg.kind then
        let msg := match m.msg with
          | .presence _ => Msg.presence (s.presenceBody m.tag)
          | x => x
        s.modLine fun l => { l with txq := { m with msg := msg, onLine := true } :: rest }
      else s

/-- Contention is lost: the message keeps its place and its attempts; one withdrawn meanwhile is removed (R86, R89). -/
def State.contentionLost (s : State) : State :=
  match s.onLine with
  | none => s
  | some m => if m.withdrawn then s.dropOnLine.ownerWithdrawn m.msg else s.keepOnLine m.attempts

end Sys2Proof.Machine
end

