-- ==== Sys2Proof/Machine/Operands.lean ====
section
/-! DEFINITION. Operand forms: which serials are legal (00 "Identities"), the ranges of line bodies (R100, R103, R125), and how the
fields of a reply become data words (R180, R181; log entries 5 and 6). -/

namespace Sys2Proof.Machine

/-! ## Legal values -/

/-- A character of a volume serial: A–Z or 0–9. -/
def serialChar (c : Char) : Bool :=
  (decide (65 ≤ c.toNat) && decide (c.toNat ≤ 90)) || (decide (48 ≤ c.toNat) && decide (c.toNat ≤ 57))

/-- A serial: one to six characters, padded on the right with spaces to six (00 "Identities"). -/
def serialOk (v : Serial) : Bool :=
  decide (v.length = 6) && decide (v.takeWhile serialChar ≠ []) && (v.dropWhile serialChar).all fun c => decide (c = ' ')

/-- A requestable pool (00 "Identities"). -/
def poolOk (p : Nat) : Bool := decide (1 ≤ p) && decide (p ≤ 14)

/-- A class 1..4. -/
def classOk (k : Nat) : Bool := decide (1 ≤ k) && decide (k ≤ 4)

/-- A request number: origin 0..7, sequence 1..255. -/
def reqOk (r : ReqNo) : Bool := decide (r.origin ≤ 7) && decide (1 ≤ r.seq) && decide (r.seq ≤ 255)

/-- A volume or a requestable pool. -/
def wantOk : Want → Bool
  | .volume v => serialOk v
  | .pool p => poolOk p

/-- A Class Wish or none. -/
def wishOk (w : Option Nat) : Bool :=
  match w with
  | none => true
  | some k => classOk k

/-- A drive identity on the line (R20). -/
def driveIdOk : DriveId → Bool
  | .own n a => decide (n ≤ 7) && decide (a ≤ 7)
  | .boundary b i => decide (b ≤ 6) && decide (i ≤ 1)

/-- A resource on the line (R125). -/
def resourceOk : Resource → Bool
  | .hatch b => decide (b ≤ 6)
  | .bdrive b i => decide (b ≤ 6) && decide (i ≤ 1)

/-- The ranges of a PRESENCE body (R100). -/
def presenceOk (b : PresenceBody) : Bool :=
  decide (1 ≤ b.period) && decide (b.period ≤ 16) && decide (b.free1 ≤ 8) && decide (b.free2 ≤ 8) && decide (b.free3 ≤ 8) &&
    decide (b.free4 ≤ 8) && decide (b.free1 + b.free2 + b.free3 + b.free4 ≤ 8) && decide (b.queueRoom ≤ 32)

/-- The ranges of a SEEK body (R103). -/
def seekOk (b : SeekBody) : Bool := reqOk b.req && wantOk b.want && wishOk b.classWish

/-- The ranges of a HAVE body (R103). -/
def haveOk (b : HaveBody) : Bool := reqOk b.req && serialOk b.volume && classOk b.cls

/-- The ranges of a PLACE body (R103). -/
def placeOk (b : PlaceBody) : Bool :=
  decide (b.target ≤ 7) && reqOk b.req && wantOk b.want && serialOk b.reel && classOk b.reelClass && wishOk b.classWish &&
    decide (b.priority ≤ 7) && decide (b.account ≤ 63) && decide (b.minutes ≤ 255) && decide (b.hop ≤ 1) && decide (b.promptAcks ≤ 3)

/-- The ranges of a PLACED body (R103). -/
def placedOk (b : PlacedBody) : Bool := decide (b.target ≤ 7) && reqOk b.req

/-- The ranges of a REFUSED body (R103). -/
def refusedOk (b : RefusedBody) : Bool := decide (b.target ≤ 7) && reqOk b.req

/-- The ranges of an OUTCOME body (R103). -/
def outcomeOk (b : OutcomeBody) : Bool :=
  reqOk b.req &&
  match b.event with
  | .mounted d => driveIdOk d
  | .failed _ => true
  | .dismounted n => decide (n ≤ 255)
  | .cancelled => true
  | .moved p => decide (p ≤ 7)

/-- The ranges of a RELEASE body (R103). -/
def releaseOk (b : ReleaseBody) : Bool :=
  decide (b.server ≤ 7) && reqOk b.req &&
  match b.kind with
  | .dismount n => decide (n ≤ 255)
  | .cancel => true

/-- The ranges of an ASK body (R103). -/
def askOk (b : AskBody) : Bool := decide (b.server ≤ 7) && reqOk b.req

/-- The ranges of a STATE body (R103). -/
def stateOk (b : StateBody) : Bool :=
  reqOk b.req &&
  match b.answer with
  | .mounted d => driveIdOk d
  | .moved p => decide (p ≤ 7)
  | .pending => true
  | .unknown => true

/-- The ranges of a HOLD body: Busy needs Dispute (R125). -/
def holdOk (b : HoldBody) : Bool := resourceOk b.resource && (b.dispute || !b.busy)

/-- The ranges of a YIELD body: a boundary drive's carries no volume (R125). -/
def yieldOk (b : YieldBody) : Bool :=
  resourceOk b.resource &&
  match b.resource, b.cradle with
  | _, none => true
  | .hatch _, some v => serialOk v
  | .bdrive _ _, some _ => false

/-- The ranges of a HANDOFF body (R125). -/
def handoffOk (b : HandoffBody) : Bool :=
  decide (b.boundary ≤ 6) && serialOk b.volume && classOk b.cls && decide (b.pool ≤ 15) && decide (b.passes ≤ 65535) &&
    decide (b.errors ≤ 255) && decide (b.home ≤ 7) &&
  match b.req with
  | none => true
  | some r => reqOk r

/-! ## Fields of replies as data words -/

/-- A field of a reply: its data words. -/
abbrev Field := List Data

/-- A number in `k` words of 15 bits, the most significant first (R180; log entry 5). -/
def numWords : Nat → Nat → Field
  | 0, _ => []
  | k + 1, n => BitVec.ofNat 15 (n / 2 ^ (15 * k)) :: numWords k n

/-- A number in one word. -/
def w1 (n : Nat) : Field := numWords 1 n
/-- A number in two words. -/
def w2 (n : Nat) : Field := numWords 2 n
/-- A number in three words. -/
def w3 (n : Nat) : Field := numWords 3 n

/-- A flag: 1 for set or present, 2 for clear or absent (R180; log entry 6). -/
def wFlag (b : Bool) : Field := w1 (if b then 1 else 2)

/-- A volume serial in three words of two characters (R180). -/
def wSerial (v : Serial) : Field :=
  let c := fun (i : Nat) => (v.getD i ' ').toNat
  w1 (c 0 * 128 + c 1) ++ w1 (c 2 * 128 + c 3) ++ w1 (c 4 * 128 + c 5)

/-- A request number: its origin and its sequence. -/
def wReq (r : ReqNo) : Field := w1 r.origin ++ w1 r.seq

/-- An optional field whose values are never zero: zeros when absent (R180). -/
def wOpt {α : Type} (k : Nat) (f : α → Field) (o : Option α) : Field :=
  match o with
  | some a => f a
  | none => numWords k 0

/-- An optional field that can be zero: a presence word ahead of it (R180). -/
def wOptP {α : Type} (k : Nat) (f : α → Field) (o : Option α) : Field :=
  match o with
  | some a => w1 1 ++ f a
  | none => w1 0 ++ numWords k 0

def wSide : Side → Field
  | .left => w1 1
  | .right => w1 2

/-- A drive identity: its form, station or boundary, address or index. -/
def wDriveId : DriveId → Field
  | .own n a => w1 1 ++ w1 n ++ w1 a
  | .boundary b i => w1 2 ++ w1 b ++ w1 i

/-- An arm order location: its place in the list SLOT, DRIVE, HATCH LEFT, HATCH RIGHT, ENTRY, GRIPPER, and its number. -/
def wLoc : Loc → Field
  | .slot n => w1 1 ++ w1 n
  | .drive d => w1 2 ++ w1 d
  | .hatch .left => w1 3 ++ w1 0
  | .hatch .right => w1 4 ++ w1 0
  | .entry c => w1 5 ++ w1 c

def wOrderKind : OrderKind → Field
  | .get => w1 1
  | .put => w1 2

def wMoveKind : MoveKind → Field
  | .mount => w1 1
  | .stow => w1 2
  | .ret => w1 3
  | .hopOut => w1 4
  | .takeIn => w1 5
  | .clean => w1 6
  | .retireOut => w1 7
  | .ringOut => w1 8
  | .entryIn => w1 9

def wLine : LineState → Field
  | .listen => w1 1
  | .clear => w1 2
  | .caution => w1 3
  | .muted => w1 4
  | .detached => w1 5
  | .duplicate => w1 6

def wMode : Mode → Field
  | .init => w1 1
  | .joining => w1 2
  | .active => w1 3
  | .standalone => w1 4

def wBay : Bay → Field
  | .normal => w1 1
  | .doorOpen => w1 2
  | .audit => w1 3

def wRoster : RosterState → Field
  | .unknown => w1 1
  | .present => w1 2
  | .absent => w1 3

def wCondition : Condition → Field
  | .joining => w1 1
  | .active => w1 2
  | .muted => w1 3
  | .doorOpen => w1 4
  | .audit => w1 5
  | .standalone => w1 6
  | .leaving => w1 7

def wClass : PromptClass → Field
  | .shelfFetch => w1 1
  | .ringIn => w1 2
  | .entryFull => w1 3
  | .cleanDrive => w1 4
  | .retireReel => w1 5
  | .misplaced => w1 6
  | .armAttention => w1 7
  | .hatchConflict => w1 8
  | .hatchClear => w1 9
  | .doorLong => w1 10

/-- The place of a failure code in R63's table. -/
def wFail : FailCode → Field
  | .noScratch => w1 1
  | .reelMissing => w1 2
  | .reelRetired => w1 3
  | .noDriveClass => w1 4
  | .ownerBusy => w1 5
  | .serverLost => w1 6
  | .armFault => w1 7
  | .operatorDeclined => w1 8
  | .driveLost => w1 9
  | .standalone => w1 10

def wAccess : Access → Field
  | .read => w1 1
  | .write => w1 2

/-- A prompt's subject: its kind and its value in three words. -/
def wSubject : Subject → Field
  | .volume v => w1 1 ++ wSerial v
  | .drive d => w1 2 ++ w3 d
  | .hatch .left => w1 3 ++ w3 1
  | .hatch .right => w1 3 ++ w3 2
  | .slot n => w1 4 ++ w3 n
  | .door => w1 5 ++ w3 0

def wRole : Role → Field
  | .own => w1 1
  | .proxy => w1 2
  | .takenIn => w1 3

def wReqState : ReqState → Field
  | .waiting => w1 1
  | .locating => w1 2
  | .standby => w1 3
  | .claiming => w1 4
  | .hopping => w1 5
  | .moving => w1 6
  | .operator => w1 7
  | .mounted => w1 8
  | .forwarded => w1 9
  | .remoteMounted => w1 10
  | .cancelling => w1 11

def wPhase : Phase → Field
  | .none => w1 1
  | .seeking => w1 2
  | .window => w1 3
  | .placing => w1 4
  | .followUp => w1 5
  | .hopPlacing => w1 6

/-- The place of a status in R104, which names MISSING first and BUSY last (log entry 88). -/
def wHaveStatus : HaveStatus → Field
  | .missing => w1 1
  | .home => w1 2
  | .grace => w1 3
  | .onDrive => w1 4
  | .inGripper => w1 5
  | .inHatch => w1 6
  | .atEntry => w1 7
  | .visiting => w1 8
  | .busy => w1 9

/-! ### Records -/

/-- A reel state, by its place in R4's table; every visiting entry is in the 8th, whatever its sub-location. -/
def wReelState (e : Entry) : Field :=
  match e.home, e.state with
  | .station _, .onDrive _ => w1 8
  | .station _, .inGripper => w1 8
  | .station _, .inHatch _ => w1 8
  | _, .home => w1 1
  | _, .inGripper => w1 2
  | _, .onDrive _ => w1 3
  | _, .inHatch _ => w1 4
  | _, .atEntry _ => w1 5
  | _, .away _ => w1 6
  | _, .missing => w1 7

/-- A location detail (R4): its kind and its value, absent for a homed reel HOME, IN_GRIPPER or MISSING; a visiting entry's sub-location is
carried in the same way. -/
def wLocation (e : Entry) : Field :=
  match e.state with
  | .home => w1 0 ++ w1 0
  | .inGripper => if e.isHomed then w1 0 ++ w1 0 else w1 2 ++ w1 0
  | .onDrive d => w1 1 ++ w1 d
  | .inHatch side => w1 3 ++ wSide side
  | .atEntry c => w1 4 ++ w1 c
  | .away n => w1 5 ++ w1 n
  | .missing => w1 0 ++ w1 0

/-- A Reservation: its request, its kind (0 none, 1 TIMED, 2 HELD), its expiry. -/
def wReservation : Option Reservation → Field
  | none => numWords 6 0
  | some { req := r, kind := .timed t } => wReq r ++ w1 1 ++ w3 t
  | some { req := r, kind := .held } => wReq r ++ w1 2 ++ w3 0

/-- Every field of R1 for an entry, in its order (R18, R181). -/
def wEntry (e : Entry) : List Field :=
  [wSerial e.volume,
   match e.home with
   | .here => w1 1 ++ w1 0
   | .station n => w1 2 ++ w1 n,
   wOptP 1 w1 e.slot, w1 e.cls, wFlag e.ring, wOpt 1 w1 e.pool, w2 e.passes, w1 e.errors, wFlag e.retired, wFlag e.unrecorded,
   wFlag e.exitPending, wReelState e, wReservation e.reservation, wLocation e]

/-- The state of an entry cell: its place, its content or expected volume, its purpose (R12, R18). -/
def wCell : CellState → List Field
  | .empty => [w1 1, w3 0, w1 0]
  | .occupied none => [w1 2, w3 0, w1 0]
  | .occupied (some v) => [w1 2, wSerial v, w1 0]
  | .expecting v .shelf => [w1 3, wSerial v, w1 1]
  | .expecting v .ring => [w1 3, wSerial v, w1 2]
  | .expecting v .retire => [w1 3, wSerial v, w1 3]
  | .expecting v .ret => [w1 3, wSerial v, w1 4]

def wDrivePos : DrivePos → Field
  | .loc => w1 1
  | .boundary .left 0 => w1 2
  | .boundary .left _ => w1 3
  | .boundary .right 0 => w1 4
  | .boundary .right _ => w1 5

def wDriveState : DriveState → Field
  | .empty => w1 1
  | .reserved => w1 2
  | .loading => w1 3
  | .mounted => w1 4
  | .grace => w1 5
  | .idleLoaded => w1 6
  | .cleaning => w1 7
  | .offline => w1 8

/-- Every field of R20 for a drive, in its order. -/
def wDrive (x : Drive) : List Field :=
  [w1 x.address, w1 x.cls, wDrivePos x.position, wDriveState x.state, wOpt 3 wSerial x.loaded,
   match x.serving with
   | none => numWords 3 0
   | some (.request r) => w1 1 ++ wReq r
   | some .cleaning => w1 2 ++ w2 0,
   wOptP 3 w3 x.graceExpiry, wOptP 3 w3 x.cleaningEnd, wOpt 3 wSerial x.cleaningReel, wFlag x.cleanDue, w3 x.mounts, w3 x.mountedSeconds,
   w2 x.passesSince, w2 x.cleanings]

def wWant : Want → List Field
  | .volume v => [wSerial v, w1 0]
  | .pool p => [w3 0, w1 p]

/-- An answer: the station and the body of its HAVE (R106). -/
def wAnswer (a : Answer) : List Field :=
  [w1 a.station, wReq a.body.req, wSerial a.body.volume, wHaveStatus a.body.status, w1 a.body.cls, wFlag a.body.ring, wFlag a.body.retired,
   wFlag a.body.freeDrive]

/-- An exchange field, present in the phases of R106 alone. -/
def Request.inPhase {α : Type} (l : List Phase) (o : Option α) (q : Request) : Option α := if q.phase ∈ l then o else none

/-- Release Unsent, present for a PROXY with a Release alone (R106). -/
def Request.unsent (q : Request) : Option Bool := if q.role = .proxy ∧ q.release.isSome = true then some q.releaseUnsent else none

/-- The Answer List, present in WINDOW (R106). -/
def Request.answerList (q : Request) : List Answer := if q.phase = .window then q.answers else []

/-- Every field of R41, then of R106, for a record, in their order; optional ones with their absent forms. -/
def wRequest (q : Request) : List Field :=
  [wReq q.req, wRole q.role, w1 q.req.origin, wOptP 2 w2 (if q.role = .takenIn then none else some q.jobTag)] ++ wWant q.want ++
  [wOpt 3 wSerial q.reel, wAccess q.access, wOpt 1 w1 q.classWish, wOpt 1 w1 q.reelClass, w1 q.priority, w1 q.account,
   wOptP 3 w3 q.deadline, wFlag q.late, wReqState q.state, wOptP 1 w1 q.server, w1 q.hop, wOptP 1 w1 q.drive, w1 q.promptAcks, w1 q.placeAttempts,
   match q.promptPending with
   | none => w1 1
   | some .cell => w1 2
   | some (.prompt _ _ _) => w1 3,
   wFlag q.ackHeld, wFlag q.cancelPending, wFlag q.lineWait,
   w1 (match q.skipLeft, q.skipRight with
     | false, false => 1
     | true, false => 2
     | false, true => 3
     | true, true => 4),
   wOptP 3 w3 q.hopExpiry,
   match q.release with
   | none => w1 0 ++ w1 0
   | some (.dismount n) => w1 1 ++ w1 n
   | some .cancel => w1 2 ++ w1 0,
   w3 q.entered, wPhase q.phase, wOptP 3 w3 (q.inPhase [.window] q.windowEnd), w1 q.answerList.length] ++
  (q.answerList.map wAnswer).flatten ++
  [wOptP 1 w1 (q.inPhase [.placing, .followUp, .hopPlacing] q.placeTarget),
   wOptP 3 w3 (q.inPhase [.placing, .followUp, .hopPlacing] q.waitEnd),
   match q.inPhase [.followUp] q.followUp with
   | none => w1 0
   | some .placeAgain => w1 1
   | some .seekAgain => w1 2,
   wFlag q.settleReseek, wOptP 3 w3 q.forwardDue, wOpt 1 wFlag q.unsent]

/-- Every field of an account (R170). -/
def wAccount (a : Account) : List Field := [w3 a.units, w1 a.milli, w3 a.sessions, w3 a.seconds, wFlag a.saturated]

/-- Every field of a closed session record (R166), its flags one word each. -/
def wSession (c : ClosedSession) : List Field :=
  [wOpt 2 wReq c.req, w1 c.origin, w1 c.account, wSerial c.volume, wDriveId c.drive, w3 c.start, w3 c.finish, w2 c.t0, w2 c.t1, w2 c.t2, w2 c.t3,
   w3 c.charge, w1 c.errors, w1 c.promptAcks, wFlag c.write, wFlag c.hopped, wFlag c.remount, wFlag c.cleaning, wFlag c.restartClosed,
   wFlag c.driveLost, wFlag c.timeSaturated, wFlag c.chargeSaturated]

/-- Every field of a roster entry (R98); the absence timer as the milliseconds remaining. The counts of the Free drives, and the Queue room,
can be zero: each of the two fields has its presence word (R180). -/
def wRosterEntry (e : RosterEntry) (now : Nat) : List Field :=
  [wRoster e.state] ++
  (match e.presence with
   | none => [w1 0, w1 0, w1 0 ++ numWords 4 0, w1 0 ++ w1 0, numWords 3 0]
   | some b => [wCondition b.condition, w1 b.period, w1 1 ++ w1 b.free1 ++ w1 b.free2 ++ w1 b.free3 ++ w1 b.free4, w1 1 ++ w1 b.queueRoom,
                wFlag b.leftHatch ++ wFlag b.rightHatch ++ wFlag b.accepts]) ++
  [wOptP 3 w3 e.lastHeard, wOptP 2 w2 (e.absentAt.map fun t => t - now)]

def wAbout : About → Field
  | .nothing => numWords 4 0
  | .request r => w1 1 ++ wReq r ++ w1 0
  | .resource (.hatch b) => w1 2 ++ w1 1 ++ w1 b ++ w1 0
  | .resource (.bdrive b i) => w1 2 ++ w1 2 ++ w1 b ++ w1 i

def wUndel : UndelCause → Field
  | .attempts => w1 1
  | .queueFull => w1 2
  | .notPermitted => w1 3
  | .detached => w1 4
  | .duplicate => w1 5

/-- The contents of a REQUEST report's event (R64). -/
def wReqEvent : ReqEvent → List Field
  | .accepted => [w1 1]
  | .located v n => [w1 2, wSerial v, w1 n]
  | .forwarded n => [w1 3, w1 n]
  | .mounted d v => [w1 4, wDriveId d, wOpt 3 wSerial v]
  | .late => [w1 5]
  | .operatorWait c => [w1 6, wClass c]
  | .dismounted n => [w1 7, w1 n]
  | .cancelled => [w1 8]
  | .failed c => [w1 9, wFail c]

/-- A PROMPT report's event (R187). -/
def wPromptEvent : PromptEvent → Field
  | .raised => w1 1
  | .escalated => w1 2
  | .acked => w1 3
  | .declined => w1 4

/-- The number of a report's kind in R187's table, ahead of its Station Time, and its body behind it. -/
def wReport (r : Report) : List Field :=
  let out := fun (k : Nat) (b : List Field) => w1 k :: w3 r.time :: b
  match r.body with
  | .request n tag ev => out 1 ([wReq n, w2 tag] ++ wReqEvent ev)
  | .orderSlow n k m v q => out 2 [w1 n, wOrderKind k, wMoveKind m, wSerial v, wOpt 2 wReq q]
  | .retryFull n m v => out 3 [w1 n, wMoveKind m, wSerial v]
  | .line a b n => out 4 [wLine a, wLine b, w1 n]
  | .peer n st c => out 5 [w1 n, wRoster st, wOpt 1 wCondition c]
  | .prompt ev c sub links acks =>
    out 6 ([wPromptEvent ev, wClass c, wSubject sub, w1 links.length] ++ links.map wReq ++ (match acks with
      | some n => [w1 n]
      | none => []))
  | .watermark n => out 7 [w1 1, w1 n]
  | .stale n t => out 7 [w1 2, w1 n, w3 t]
  | .lost q a c n => out 7 [w1 3, wOpt 2 wReq q, w1 a, w3 c, w1 n]
  | .door isOpen => out 8 [w1 (if isOpen then 1 else 2)]
  | .auditNeeded => out 9 []
  | .undelivered k c n ab => out 10 [w1 (k.number + 1), wUndel c, w1 n, wAbout ab]

/-! ## Parts of a reply -/

/-- Whole fields packed into parts of at most 14 words, in order (R181). -/
def packParts : List Field → List (List Data)
  | [] => [[]]
  | f :: rest =>
    match packInto f rest with
    | parts => parts
where
  /-- Fields go into the part begun by `acc` while they fit. -/
  packInto (acc : List Data) : List Field → List (List Data)
    | [] => [acc]
    | f :: rest => if acc.length + f.length ≤ 14 then packInto (acc ++ f) rest else acc :: packInto f rest

/-- The part word: the number of the part and the number of parts (R181; log entry 6). -/
def partWord (n parts : Nat) : Data := BitVec.ofNat 15 (n * 256 + parts)

/-- The data words of one part of a reply; a reply without fields has none (R181). -/
def partOf (fields : List Field) (n : Nat) : List Data :=
  if fields = [] then []
  else partWord n (packParts fields).length :: (packParts fields).getD n []

end Sys2Proof.Machine
end

