-- ==== Sys2Proof/Machine/ClaimEvents.lean ====
section
/-! DEFINITION. The frames that the Claim Unit hears (chapter 7): HOLD (R127), YIELD (R130), HANDOFF (R135). One from a station that is not
the neighbour of a configured resource has no effect on the claims. -/

namespace Sys2Proof.Machine

/-- The claim record of a resource shared with the sender (R124, R125). -/
def State.sharedWith (res : Resource) (sender : Nat) (s : State) : Option ClaimRec :=
  (s.findRec res).filter fun c => decide (c.neighbour = sender)

/-- HOLD_HEARD (R127, R131). -/
def execHoldHeard (sender : Nat) (b : HoldBody) (s : State) : Host.Outcome State Fault Refusal :=
  .next (s.hear sender (holdOk b) false fun t =>
    match t.sharedWith b.resource sender with
    | none => t
    | some c => t.hearHold b c)

/-- YIELD_HEARD (R130). -/
def execYieldHeard (sender : Nat) (b : YieldBody) (s : State) : Host.Outcome State Fault Refusal :=
  .next (s.hear sender (yieldOk b) false fun t =>
    match t.sharedWith b.resource sender with
    | none => t
    | some c => t.hearYield b c)

/-- HANDOFF_HEARD (R135, R136). -/
def execHandoffHeard (sender : Nat) (b : HandoffBody) (s : State) : Host.Outcome State Fault Refusal :=
  .next (s.hear sender (handoffOk b) false fun t =>
    match t.sharedWith (.hatch b.boundary) sender with
    | none => t
    | some _ => t.hearHandoff b sender)

end Sys2Proof.Machine
end

