-- ==== Sys2Proof/Machine/ExchangeEvents.lean ====
section
/-! DEFINITION. The events of the Peer Exchange (chapter 6): the frames it hears and the ends of its waits. A frame addressed to another
station is credited and passed over (R98, R103). -/

namespace Sys2Proof.Machine

/-- The addressee of a frame is this station; another's frame is passed over (R103). -/
def State.addressed (n : Nat) (act : State → State) (s : State) : State := if n = s.self then act s else s

/-- A HAVE for a request whose window is open joins its Answer List; otherwise it is Stray (R107). -/
def State.hearHave (b : HaveBody) (sender : Nat) (s : State) : State :=
  match s.findReq b.req with
  | none => s.countStray
  | some q =>
    if q.phase = .window then
      if q.answers.any fun a => decide (a.station = sender) then s
      else s.updReq b.req fun q => { q with answers := q.answers ++ [{ station := sender, body := b }] }
    else s.countStray

/-- A PLACE addressed here, plain or via-hatch (R111, R120). -/
def State.takePlace (b : PlaceBody) (sender : Nat) (s : State) : State := if b.viaHatch then s.hearViaHatch b sender else s.hearPlace b sender

/-- SEEK_HEARD (R104, R105). -/
def execSeekHeard (sender : Nat) (b : SeekBody) (s : State) : Host.Outcome State Fault Refusal :=
  .next (s.hear sender (seekOk b) false fun t => t.hearSeek b sender)

/-- HAVE_HEARD (R107). -/
def execHaveHeard (sender : Nat) (b : HaveBody) (s : State) : Host.Outcome State Fault Refusal :=
  .next (s.hear sender (haveOk b) false fun t => t.addressed b.req.origin fun t => t.hearHave b sender)

/-- PLACE_HEARD (R111). -/
def execPlaceHeard (sender : Nat) (b : PlaceBody) (s : State) : Host.Outcome State Fault Refusal :=
  .next (s.hear sender (placeOk b) false fun t => t.addressed b.target fun t => t.takePlace b sender)

/-- VIA_HATCH_PLACE_HEARD (R120, R122). -/
def execViaHatchPlaceHeard (sender : Nat) (b : PlaceBody) (s : State) : Host.Outcome State Fault Refusal :=
  .next (s.hear sender (placeOk b) false fun t => t.addressed b.target fun t => t.takePlace b sender)

/-- PLACED_HEARD (R113). -/
def execPlacedHeard (sender : Nat) (b : PlacedBody) (s : State) : Host.Outcome State Fault Refusal :=
  .next (s.hear sender (placedOk b) false fun t => t.addressed b.target fun t => t.hearPlaced b.req sender)

/-- REFUSED_HEARD (R112, R113). -/
def execRefusedHeard (sender : Nat) (b : RefusedBody) (s : State) : Host.Outcome State Fault Refusal :=
  .next (s.hear sender (refusedOk b) false fun t => t.addressed b.target fun t => t.hearRefused b.req b.reason sender)

/-- The station that an OUTCOME names as the new server. -/
def outcomeMoved : OutcomeEvent → Option Nat
  | .moved p => some p
  | _ => none

/-- The station that a STATE names as the new server. -/
def stateMoved : StateAnswer → Option Nat
  | .moved p => some p
  | _ => none

/-- OUTCOME_HEARD (R116). -/
def execOutcomeHeard (sender : Nat) (b : OutcomeBody) (s : State) : Host.Outcome State Fault Refusal :=
  .next (s.hear sender (outcomeOk b) false fun t => t.addressed b.req.origin fun t =>
    t.fromServer b.req sender (t.movedHere (outcomeMoved b.event)) fun q t => t.applyOutcome q b.event)

/-- RELEASE_HEARD (R118). -/
def execReleaseHeard (sender : Nat) (b : ReleaseBody) (s : State) : Host.Outcome State Fault Refusal :=
  .next (s.hear sender (releaseOk b) false fun t => t.addressed b.server fun t => t.hearRelease b.req b.kind sender)

/-- ASK_HEARD (R117, R121). -/
def execAskHeard (sender : Nat) (b : AskBody) (s : State) : Host.Outcome State Fault Refusal :=
  .next (s.hear sender (askOk b) false fun t => t.addressed b.server fun t => t.hearAsk b.req)

/-- STATE_HEARD (R117). -/
def execStateHeard (sender : Nat) (b : StateBody) (s : State) : Host.Outcome State Fault Refusal :=
  .next (s.hear sender (stateOk b) false fun t => t.addressed b.req.origin fun t =>
    t.fromServer b.req sender (t.movedHere (stateMoved b.answer)) fun q t => t.applyState q b.answer)

/-! ## The ends of waits -/

/-- A wait of a request in a phase has an end in milliseconds; the clock reaches it and `act` follows (log entry 2). -/
def State.waitOver (r : ReqNo) (ph : Phase) (wait : Request → Option Nat) (act : Request → State → State) (s : State) : State :=
  match s.findReq r with
  | none => s
  | some q =>
    match wait q with
    | none => s
    | some e => if q.phase = ph then (act q (s.reach e)).settle else s

/-- WINDOW_CLOSE (R108). -/
def execWindowClose (r : ReqNo) (s : State) : Host.Outcome State Fault Refusal :=
  .next (s.waitOver r .window Request.windowEnd fun _ t => t.closeWindow r)

/-- The settle re-seek of a request whose SHELF_FETCH still settles; one that cannot be sent is not tried again (R109). -/
def State.settleReseek (r : ReqNo) (s : State) : State :=
  let t := s.updReq r fun q => { q with reseekDue := none }
  match t.promptOf r with
  | some p => if p.state = .settling ∧ t.lineOk = true then (t.updReq r fun q => { q with settleReseek := true }).askSeek r else t
  | none => t

/-- SETTLE_RESEEK (R109). -/
def execSettleReseek (r : ReqNo) (s : State) : Host.Outcome State Fault Refusal :=
  .next (match (s.findReq r).bind Request.reseekDue with
    | none => s
    | some e => ((s.reach e).settleReseek r).settle)

/-- PLACE_WAIT_END: a PLACE without an answer counts an attempt (R112, R113). -/
def execPlaceWaitEnd (r : ReqNo) (s : State) : Host.Outcome State Fault Refusal :=
  .next (s.waitOver r .placing Request.waitEnd fun q t => t.countAttempt r (t.againTo (q.placeTarget.getD 0)) true)

/-- The follow-up of a counted attempt: the same PLACE again, or a new SEEK (R112). -/
def State.followUp (q : Request) (s : State) : State :=
  match q.followUp, q.placeTarget with
  | some .placeAgain, some p => s.sendPlace q.req p
  | _, _ => s.askSeek q.req

/-- FOLLOW_UP_WAIT_END: the follow-up runs, unless it already waits for the line (R57, R112). -/
def execFollowUpWaitEnd (r : ReqNo) (s : State) : Host.Outcome State Fault Refusal :=
  .next (s.waitOver r .followUp (fun q => if q.lineWait then none else q.waitEnd) State.followUp)

/-- HOP_PLACE_WAIT_END: a via-hatch PLACE without an answer (R50). -/
def execHopPlaceWaitEnd (r : ReqNo) (s : State) : Host.Outcome State Fault Refusal :=
  .next (s.waitOver r .hopPlacing Request.waitEnd fun q t => t.hopRefused r (q.placeTarget.getD 0))

end Sys2Proof.Machine
end

