-- ==== Sys2Proof/Machine/Flags.lean ====
section
/-! DEFINITION. What the station shows outside, computed from its state: the status word and the words shifted out (R179, R181),
ATTN (R182), the lamp's level (R154) and the display line (R153). -/

namespace Sys2Proof.Machine

/-! ## The Local Port -/

/-- The number of ones of a word. -/
def onesOf (w : Word) : Nat := ((List.range 16).filter fun i => w.getLsbD i).length

/-- The word has odd parity (R178). -/
def oddParity (w : Word) : Bool := decide (onesOf w % 2 = 1)

/-- A word of 15 bits with its parity bit in bit 0 (R179). -/
def withParity (d : Data) : Word :=
  let w : Word := d.zeroExtend 16 <<< 1
  if oddParity w then w else w ||| 1

/-- The number of a reply code (R179). -/
def ReplyCode.number : ReplyCode → Nat
  | .ok => 0
  | .full => 1
  | .locked => 2
  | .notNow => 3
  | .badValue => 4
  | .unknownRequest => 5
  | .staleOrder => 6

/-- An order waits in the Order Slot: it has not been taken (R70, R179). -/
def State.orderWaiting (s : State) : Bool := s.arm.inFlight.any fun o => !o.taken

/-- A report waits (R179). -/
def State.reportWaiting (s : State) : Bool := decide (s.port.reports ≠ [])

/-- ATTN is asserted while a report or an order waits; it is released while RESET is low (R182, R192). -/
def State.attn (s : State) : Bool := !s.sys.resetHeld && (s.reportWaiting || s.orderWaiting)

/-- The two bits of the line state in the status word (R92, R179). -/
def lineBits : LineState → Nat
  | .clear => 0
  | .caution => 1
  | .muted => 2
  | .listen => 3
  | .detached => 3
  | .duplicate => 3

/-- Bits 15..1 of the status word, as a number (R179). -/
def State.statusData (s : State) : Data :=
  let b := fun (x : Bool) => if x then 1 else 0
  BitVec.ofNat 15 (b s.port.reply.heartbeat * 16384 + b s.port.frameFault * 8192 + s.port.reply.code.number * 1024 +
    b s.reportWaiting * 512 + b s.orderWaiting * 256 + b (decide (s.sys.mode = .standalone)) * 128 + lineBits s.line.state * 32 +
    s.port.reply.words.length % 16 * 2)

/-- The status word (R179). -/
def State.statusWord (s : State) : Word := withParity s.statusData

/-- The words shifted out by a transfer of `n` words: the status word, the pending reply, then words of parity alone (R181). -/
def State.shiftOut (n : Nat) (s : State) : List Word :=
  ((s.statusWord :: s.port.reply.words.map withParity) ++ List.replicate n 1).take n

/-! ## The panel -/

/-- The lamp is on, `ms` milliseconds after its pattern began (R154). -/
def lampOn (p : LampPattern) (ms : Nat) : Bool :=
  match p with
  | .off => false
  | .steady => true
  | .slow => decide (ms % 1000 < 500)
  | .fast => decide (ms % 1500 < 750) && decide (ms % 1500 % 250 < 125)

/-- The level of LAMP; off while RESET is low (R154, R192). -/
def State.lampLevel (s : State) : Bool := !s.sys.resetHeld && lampOn s.panel.lamp (s.sys.clock - s.panel.lampSince)

/-- The display code of a class (R141). -/
def displayCode : PromptClass → String
  | .shelfFetch => "SF"
  | .ringIn => "RI"
  | .entryFull => "EF"
  | .cleanDrive => "CD"
  | .retireReel => "RR"
  | .misplaced => "MP"
  | .armAttention => "AA"
  | .hatchConflict => "HC"
  | .hatchClear => "HX"
  | .doorLong => "DL"

/-- The subject on the display (R153). -/
def displaySubject : Subject → String
  | .volume v => String.ofList v
  | .drive d => "D" ++ toString d
  | .hatch .left => "HL"
  | .hatch .right => "HR"
  | .slot n => "S" ++ toString n
  | .door => "DOOR"

/-- The parts of the display line (R153): class, marks, subject, age in minutes, position and number. -/
structure Display where
  code : String
  escalated : Bool
  acked : Bool
  subject : String
  age : Nat
  place : Nat
  count : Nat
deriving DecidableEq, Repr

/-- The display line; none is blank (R153). -/
def State.display (s : State) : Option Display :=
  match s.panel.cursor with
  | none => none
  | some k =>
    match s.findPrompt k with
    | none => none
    | some p => some
      { code := displayCode p.cls, escalated := p.escalated, acked := decide (p.state = .acked), subject := displaySubject p.subject,
        age := min 99 ((s.acct.stationTime - p.raised) / 60),
        place := s.displayable.findIdx (fun q => decide (q.key = k)) + 1, count := s.displayable.length }

end Sys2Proof.Machine
end

