-- ==== Sys2Proof/Machine/Port.lean ====
section
/-! DEFINITION. The Local Port (chapter 10): the execution of an accepted transfer (R178, R180, R181, R183), the heartbeat (R184). -/

namespace Sys2Proof.Machine

/-- The Silence timer's full length, from now (R184). -/
def State.silenceFull (s : State) : Nat := s.sys.clock + 1000 * s.cfg.silenceLimit

/-- The Heartbeat bit of an accepted transfer is taken (R184). -/
def State.heartbeat (b : Bool) (s : State) : State :=
  if s.port.lastHeartbeat = some b then s
  else s.modPort fun p =>
    { p with lastHeartbeat := some b,
             silenceEnd := if p.lastHeartbeat = none then p.silenceEnd else p.silenceEnd.map fun _ => s.silenceFull }

/-- What every accepted transfer does: its Heartbeat bit is taken, and Frame Fault, which its status word has shown, is cleared
(R181, R184). -/
def State.accepted (x : Xfer) (s : State) : State := (s.heartbeat x.heartbeat).modPort fun p => { p with frameFault := false }

/-- The pending reply (R181). -/
def State.reply (x : Xfer) (c : ReplyCode) (words : List Data) (s : State) : State :=
  s.modPort fun p => { p with reply := { heartbeat := x.heartbeat, code := c, words := words } }

/-- A refused command: its reply code and no data words (R181, R183). -/
def State.refuseCmd (x : Xfer) (c : ReplyCode) (s : State) : State := s.reply x c []

/-- Which modes refuse a command before its owning rule is asked (R183). -/
inductive Kind
  /-- SET STARTUP, LOAD DRIVE, LOAD REEL, START -/
  | initOnly
  /-- READ STATUS, TAKE REPORT, TAKE ORDER, ORDER DONE, ORDER FAULT, RESUME -/
  | standalone
  | other
deriving DecidableEq, Repr

/-- The mode check of R183. -/
def modeCheck (k : Kind) (m : Mode) : Option ReplyCode :=
  match k, m with
  | .initOnly, .init => none
  | .initOnly, _ => some .locked
  | .other, .standalone => some .notNow
  | _, _ => none

/-- What an owning rule answers. -/
inductive Answered
  /-- a refusal that changes nothing -/
  | error (c : ReplyCode)
  /-- STALE_ORDER, which is counted (R72) -/
  | stale (t : State)
  /-- OK: the fields of the reply, and the state it leaves -/
  | ok (a : List Field × State)
deriving DecidableEq, Repr

/-- The part of the reply asked is made; only the last part changes the state (R181). -/
def State.replyPart (x : Xfer) (a : Answered) (s : State) : State :=
  match a with
  | .error c => s.refuseCmd x c
  | .stale t => t.refuseCmd x .staleOrder
  | .ok (fields, t) =>
    let parts := (packParts fields).length
    if parts ≤ x.part then s.refuseCmd x .badValue
    else if x.part + 1 < parts then s.reply x .ok (partOf fields x.part)
    else t.reply x .ok (partOf fields x.part)

/-- The execution of an accepted transfer: its words counted, the mode checked, its owning rule asked, its reply made (R180, R181,
R183). -/
def State.execute (x : Xfer) (least : Nat) (k : Kind) (f : State → Answered) (s : State) : State :=
  let s := s.accepted x
  if x.count < least then s.refuseCmd x .badValue
  else
    match modeCheck k s.sys.mode with
    | some c => s.refuseCmd x c
    | none => s.replyPart x (f s)

/-- A command of the host: nothing while RESET is low (R192), else its execution with all its consequences (R178). -/
def State.hostCommand (x : Xfer) (least : Nat) (k : Kind) (f : State → Answered) (s : State) : State :=
  if s.sys.resetHeld then s else (s.execute x least k f).settle

end Sys2Proof.Machine
end

