-- ==== Sys2Proof/Machine/HostAccount.lean ====
section
/-! DEFINITION. The host's commands on the accounts (chapter 9): TAKE SESSION (R176), READ ACCOUNT (R171), CLEAR ACCOUNT (R172),
READ BANDS (R161), READ LOST (R176). -/

namespace Sys2Proof.Machine

/-- A record leaves the Closed Session Queue, with the watermark (R174) and the stale timer (R175). -/
def Acct.dropClosed (c : StartUp) (rest : List ClosedSession) (a : Acct) : Acct :=
  { a with closed := rest, armed := a.armed || decide (rest.length < c.sessionWatermark),
           staleLeft := if rest = [] then 60 * c.sessionStaleTime else a.staleLeft }

/-- TAKE SESSION (R176). -/
def State.takeSession (s : State) : Answered :=
  match s.acct.closed with
  | [] => .ok ([w1 0], s)
  | c :: rest => .ok (w1 1 :: wSession c, s.modAcct (Acct.dropClosed s.cfg rest))

/-- TAKE SESSION, command 19. -/
def execTakeSession (x : Xfer) (s : State) : Host.Outcome State Fault Refusal := .next (s.hostCommand x 0 .other State.takeSession)

/-- An account of the Account Table (R170). -/
def State.account (n : Nat) (s : State) : Account := s.acct.accounts.getD n .zero

/-- READ ACCOUNT (R171). -/
def State.readAccount (n : Nat) (s : State) : Answered :=
  if 63 < n then .error .badValue else .ok (wAccount (s.account n) ++ wAccount s.acct.total, s)

/-- READ ACCOUNT, command 20. -/
def execReadAccount (x : Xfer) (account : Nat) (s : State) : Host.Outcome State Fault Refusal :=
  .next (s.hostCommand x 1 .other fun s => s.readAccount account)

/-- The Station Charge Total less an account's total, borrowing across the milli remainder (R172 step 2). -/
def Account.less (a : Account) (total : Account) : Account :=
  if total.saturated then total
  else if a.milli ≤ total.milli then { total with milli := total.milli - a.milli, units := total.units - a.units }
  else { total with milli := 1000 + total.milli - a.milli, units := total.units - (a.units + 1) }

/-- CLEAR ACCOUNT (R172). -/
def State.clearAccount (n : Nat) (s : State) : Answered :=
  if 63 < n then .error .badValue
  else .ok (wAccount (s.account n) ++ wAccount s.acct.total,
    s.modAcct fun a => { a with accounts := a.accounts.set n .zero, total := (s.account n).less a.total })

/-- CLEAR ACCOUNT, command 21. -/
def execClearAccount (x : Xfer) (account : Nat) (s : State) : Host.Outcome State Fault Refusal :=
  .next (s.hostCommand x 1 .other fun s => s.clearAccount account)

/-- The fields of READ BANDS (R161). -/
def bandFields (c : StartUp) (a : Acct) : List Field :=
  a.bandTicks.map w3 ++ a.bandEntries.map w3 ++
    [w3 a.driveSeconds, w1 a.peak, wOptP 2 (fun t => w1 t.1 ++ w1 t.2) a.lastTick, w1 c.b1, w1 c.b2, w1 c.b3, w3 a.stationTime]

/-- READ BANDS (R161). -/
def State.readBands (s : State) : Answered := .ok (bandFields s.cfg s.acct, s)

/-- READ BANDS, command 22. -/
def execReadBands (x : Xfer) (s : State) : Host.Outcome State Fault Refusal := .next (s.hostCommand x 0 .other State.readBands)

/-- READ LOST (R176). -/
def State.readLost (s : State) : Answered :=
  .ok ([w1 s.acct.sessionsLost, wFlag s.acct.lostOverflow], s.modAcct fun a => { a with sessionsLost := 0, lostOverflow := false })

/-- READ LOST, command 23. -/
def execReadLost (x : Xfer) (s : State) : Host.Outcome State Fault Refusal := .next (s.hostCommand x 0 .other State.readLost)

end Sys2Proof.Machine
end

