-- ==== Sys2Proof/Machine/HostArm.lean ====
section
/-! DEFINITION. The host's commands on orders (chapter 4): TAKE ORDER (R70), ORDER DONE and ORDER FAULT (R72), CLEAR RETRY (R74). -/

namespace Sys2Proof.Machine

/-- The fields of TAKE ORDER's reply for an order: number, kind, location, volume, Expected Time in seconds (R70). -/
def orderFields (c : StartUp) (o : Order) : List Field :=
  [w1 o.number, wOrderKind o.kind, wLoc o.loc, wSerial o.volume, w1 (expectedMs c o.route / 1000)]

/-- TAKE ORDER (R70); without an order the reply is the number 0, which no order has. -/
def State.takeOrder (s : State) : Answered :=
  if s.sys.mode = .init then .error .notNow
  else
    match s.arm.inFlight with
    | none => .ok ([w1 0], s)
    | some o => .ok (orderFields s.cfg o, s.takeInFlight)

/-- TAKE ORDER, command 9. -/
def execTakeOrder (x : Xfer) (s : State) : Host.Outcome State Fault Refusal := .next (s.hostCommand x 0 .standalone State.takeOrder)

/-- Stale Answers rises (R72). -/
def State.countStale (s : State) : State := s.modArm fun a => { a with stale := satAdd Config.max16 a.stale 1 }

/-- Checks 1 to 3 of an answer to an order, then what it does (R72). -/
def State.answerOrder (number : Nat) (act : Order → Answered) (s : State) : Answered :=
  if s.sys.mode = .init then .error .notNow
  else if number < 1 ∨ Config.max8 < number then .error .badValue
  else
    match s.arm.inFlight with
    | none => .stale s.countStale
    | some o => if o.number = number then act o else .stale s.countStale

/-- The order in flight completed (R72). -/
def State.completeOrder (o : Order) (ring : Bool) (s : State) : State :=
  let t := s.answered o
  match t.arm.current with
  | none => t
  | some m =>
    (match o.kind with
     | .get => t.getDone m ring
     | .put => t.putDone m).examineAlone

/-- ORDER DONE (R72). -/
def State.orderDone (number : Nat) (ring : Option Bool) (s : State) : Answered :=
  s.answerOrder number fun o =>
    match o.kind, ring with
    | .get, none => .error .badValue
    | .get, some r => .ok ([], s.completeOrder o r)
    | .put, _ => .ok ([], s.completeOrder o true)

/-- ORDER DONE, command 10. -/
def execOrderDone (x : Xfer) (number : Nat) (ring : Option Bool) (s : State) : Host.Outcome State Fault Refusal :=
  .next (s.hostCommand x 2 .standalone fun s => s.orderDone number ring)

/-- The order in flight faulted (R72, R73). -/
def State.faultOrder (o : Order) (f : Fail) (s : State) : State :=
  let t := s.answered o
  match t.arm.current with
  | none => t
  | some m => (t.orderFails o m f).examineAlone

/-- What a reason amounts to for an order's kind; none is an answer that does not fit the kind (R72, R73). -/
def failOf (k : OrderKind) (r : FaultReason) : Option Fail :=
  match k, r with
  | _, .blocked => some .retryable
  | _, .gripper => some .retryable
  | .get, .emptySource => some .emptySource
  | .put, .occupiedDest => some .occupiedDest
  | .put, .emptySource => none
  | .get, .occupiedDest => none

/-- ORDER FAULT (R72). -/
def State.orderFault (number : Nat) (reason : Option FaultReason) (s : State) : Answered :=
  s.answerOrder number fun o =>
    match reason.bind (failOf o.kind) with
    | none => .error .badValue
    | some f => .ok ([], s.faultOrder o f)

/-- ORDER FAULT, command 11. -/
def execOrderFault (x : Xfer) (number : Nat) (reason : Option FaultReason) (s : State) : Host.Outcome State Fault Refusal :=
  .next (s.hostCommand x 2 .standalone fun s => s.orderFault number reason)

/-- CLEAR RETRY (R74). -/
def State.clearRetry (s : State) : Answered :=
  .ok ([w1 s.arm.retryCounter, w2 s.arm.stale], s.modArm fun a => { a with retryCounter := 0 })

/-- CLEAR RETRY, command 25. -/
def execClearRetry (x : Xfer) (s : State) : Host.Outcome State Fault Refusal := .next (s.hostCommand x 0 .other State.clearRetry)

end Sys2Proof.Machine
end

