-- ==== Sys2Proof/Machine/HostInventory.lean ====
section
/-! DEFINITION. The host's commands on cells, slots and drives: LABEL READ (R13), SLOT REPORT (R15), END AUDIT (R16), READ REEL (R18),
DRIVE OFFLINE (R36), DRIVE ONLINE (R37), READ DRIVE (R38). -/

namespace Sys2Proof.Machine

/-! ## LABEL READ -/

/-- A MISPLACED prompt for a volume. -/
def State.misplaced (v : Serial) (s : State) : State := s.raisePlain .misplaced (.volume v)

/-- A retired reel leaves the bay: its entry is deleted, its slot freed, and its cell made EMPTY unless another content was
reported there (R11, R13). -/
def State.retireOut (v : Serial) (c : Nat) (keepCell : Bool) (s : State) : State :=
  let t := s.retireEntry v
  if keepCell then t else t.emptyCell c

/-- Each request linked to a prompt fails OPERATOR_DECLINED (R147, R148). -/
def State.declineLinks (k : PromptKey) (s : State) : State :=
  match s.findPrompt k with
  | none => s
  | some p => State.forEach p.links (fun r t => t.failRequest r .operatorDeclined) (s.updPrompt k fun p => { p with links := [] })

/-- A volume that was never entered has gone from its cell: its ENTRY_FULL or MISPLACED prompt is withdrawn (R13, R148). -/
def State.strangerGone (w : Serial) (s : State) : State :=
  let full : PromptKey := { cls := .entryFull, subject := .volume w }
  ((s.declineLinks full).withdrawPrompt full).withdrawPrompt { cls := .misplaced, subject := .volume w }

/-- The entry of the volume is AT_ENTRY in the cell. -/
def State.atCell (w : Serial) (c : Nat) (s : State) : Bool :=
  match s.findEntry w with
  | some e => decide (e.state = .atEntry c)
  | none => false

/-- The volume is retired and has a RETIRE_REEL prompt. -/
def State.retiring (w : Serial) (s : State) : Bool :=
  s.promptStands .retireReel (.volume w) &&
  match s.findEntry w with
  | some e => e.retired
  | none => false

/-- The cell of a volume is reported EMPTY (R13). -/
def State.cellFoundEmpty (w : Serial) (c : Nat) (s : State) : State :=
  if s.atCell w c then
    if s.retiring w then (s.retireOut w c false).withdrawPrompt { cls := .retireReel, subject := .volume w }
    else s.putCell c (.expecting w .ret)
  else (s.emptyCell c).strangerGone w

/-- Another content is reported where a volume was: the volume is gone from the cell (R13). -/
def State.cellFoundOther (w : Serial) (c : Nat) (s : State) : State :=
  if s.atCell w c then
    if s.retiring w then (s.retireOut w c true).withdrawPrompt { cls := .retireReel, subject := .volume w }
    else (s.reelMissing w).removeMoves fun m => decide (m.volume = w) && decide (m.kind = .entryIn) && decide (m.source = .entry c)
  else s.strangerGone w

/-- A volume reported where the cell did not expect it (R13). `room` is the table room with every arrival reservation that still stands, that
of a shelf reel whom the report displaces among them (R3). -/
def State.unexpected (v : Serial) (c room : Nat) (s : State) : State :=
  let t := s.putCell c (.occupied (some v))
  match s.findEntry v with
  | none =>
    (match s.lowestFreeSlot with
     | some n => if 1 ≤ room then t.enterReel v c n
         else t.raise { cls := .entryFull, subject := .volume v, detail := some (.noSlot c), req := none }
     | none => t.raise { cls := .entryFull, subject := .volume v, detail := some (.noSlot c), req := none })
  | some e =>
    if e.state = .missing then (t.updEntry v fun e => { e with state := .atEntry c }).queueEntryIn v else t.misplaced v

/-- A move of the volume goes to or comes from another cell (R13). -/
def Move.moveCell (v : Serial) (c d : Nat) (m : Move) : Move :=
  if m.volume = v then
    { m with source := if m.source = .entry c then .entry d else m.source, dest := if m.dest = .entry c then .entry d else m.dest }
  else m

/-- An order at the cell is in flight: it runs to its answer there. -/
def State.orderAtCell (c : Nat) (s : State) : Bool := s.arm.inFlight.any fun o => decide (o.loc = .entry c)

/-- The expectation for a volume moves to another cell, with the moves that name the old one, but for the move whose order in flight is
at work there (R13; log entry 71). -/
def State.moveExpectation (w : Serial) (p : CellPurpose) (c d : Nat) (s : State) : State :=
  (s.putCell d (.expecting w p)).modArm fun a =>
    { a with queue := a.queue.map (Move.moveCell w c d),
             current := if s.orderAtCell c then a.current else a.current.map (Move.moveCell w c d) }

/-- What becomes of a queued move whose cell is lost: a RING_OUT leaves its request waiting for a cell, a retired reel's STOW or
TAKE_IN goes to the slot, a RETIRE_OUT leaves Exit Pending (R11, R54; log entry 32). -/
def State.queuedCellLost (m : Move) (s : State) : State :=
  match m.kind, m.req with
  | .ringOut, some r => (s.removeMoves fun n => decide (n = m)).pendCell r
  | .retireOut, _ => (s.removeMoves fun n => decide (n = m)).updEntry m.volume fun e => { e with exitPending := true }
  | _, _ =>
    (match (s.findEntry m.volume).bind Entry.slot with
     | some n =>
       (s.modArm fun a => { a with queue := a.queue.map fun k => if k = m then { k with dest := .slot n, purpose := none } else k }).updEntry
         m.volume fun e => { e with exitPending := true }
     | none => s)

/-- An expectation is dropped for want of a cell: a SHELF_FETCH returns to SHOWN; a pending move has lost its destination
(R13, R77; log entry 32). -/
def State.dropExpectation (w : Serial) (p : CellPurpose) (c : Nat) (s : State) : State :=
  match p with
  | .shelf => s.returnPrompt { cls := .shelfFetch, subject := .volume w }
  | _ =>
    match s.arm.current.filter fun m => decide (m.volume = w) && decide (m.dest = .entry c), s.arm.queue.find? fun m =>
      decide (m.volume = w) && decide (m.dest = .entry c) with
    | some m, _ =>
      if m.stage = .putNext then
        match p, m.req, (s.findEntry w).bind Entry.slot with
        | .ring, some r, some n => (s.updReq r fun q => { q with promptPending := some .cell }).redirect m (.slot n) none false
        | .retire, _, _ => (s.updEntry w fun e => { e with exitPending := true }).putAwayMove false false
        | _, _, _ => s.putAwayMove false false
      else if p = .retire ∧ m.stage = .get then s.updEntry w fun e => { e with exitPending := true }
      else s
    | none, some m => s.queuedCellLost m
    | none, none => s

/-- The cell of an expectation is found with another content (R13). -/
def State.expectationDisplaced (w : Serial) (p : CellPurpose) (c : Nat) (s : State) : State :=
  match s.lowestEmptyCell with
  | some d => s.moveExpectation w p c d
  | none => s.dropExpectation w p c

/-- An acknowledged RING_IN with its reel in the cell: the prompt leaves, the first linked request in queue order asks its ENTRY_IN,
the others return to STANDBY (R55, R147). -/
def State.serveRingIn (p : Prompt) (s : State) : State :=
  let linked := (s.rm.queue.filter fun q => decide (q.req ∈ p.links)).map Request.req
  let t := (s.updPrompt p.key fun p => { p with links := [] }).leavePrompt p.key
  let t := State.forEach linked (fun r t => t.updReq r fun q => { q with ackHeld := false }) t
  match linked with
  | [] => t
  | r :: rest => State.forEach rest (fun r t => t.toStandby r) (t.startMove r .entryIn)

/-- A request waits for its reel in an entry cell, its RING_IN not raised or its ENTRY_IN without room (R49, R56). -/
def State.cellWaited (v : Serial) (s : State) : Bool := s.rm.queue.any fun q => decide (q.reel = some v) && q.cellWait v

/-- The ENTRY_IN of a request that waits for room is asked for a reel back in its cell (R55, R68). -/
def State.askWaiting (v : Serial) (s : State) : State :=
  State.forEach (s.rm.queue.filter fun q => decide (q.reel = some v) && decide (q.roomWait = some .entryIn))
    (fun q t => t.startMove q.req .entryIn) s

/-- The reel is back in its cell (R13, R55, R76, R148); one with a RETIRE_REEL prompt is on its way out (R11). Its ENTRY_IN is asked at
once, whether or not its MISPLACED or ARM_ATTENTION prompt still stands (log entry 73); but a reel for which a request waits with its RING_IN
not raised lies in the cell until that request goes on, and an ENTRY_IN that waits for room is asked (DESIGN CHOICE, log entry 96). -/
def State.reelBack (v : Serial) (c : Nat) (s : State) : State :=
  let t := (s.putCell c (.occupied (some v))).updEntry v fun e => match e.state with
    | .atEntry _ => { e with state := .atEntry c }
    | _ => e
  match t.findPrompt { cls := .ringIn, subject := .volume v } with
  | some p => if p.state = .acked then t.serveRingIn p else t
  | none =>
    if t.promptDue .retireReel (.volume v) then t else if t.cellWaited v then t.askWaiting v else t.queueEntryIn v

/-- A shelf arrival is reported in its cell: it is entered in the lowest free slot, or meets no free slot (R3, R13, R148;
log entry 33). -/
def State.shelfReported (v : Serial) (c : Nat) (s : State) : State :=
  let k : PromptKey := { cls := .shelfFetch, subject := .volume v }
  let links := match s.findPrompt k with
    | some p => p.links
    | none => []
  let t := s.putCell c (.occupied (some v))
  let done := fun (t : State) => (t.updPrompt k fun p => { p with links := [] }).leavePrompt k
  match s.findEntry v with
  | some e =>
    let home := match e.state with
      | .missing => true
      | .away _ => true
      | _ => false
    done ((if home then (t.updEntry v fun e => { e with state := .atEntry c }).queueEntryIn v else t.misplaced v).shelfArrived v links)
  | none =>
    match s.lowestFreeSlot with
    | some n => done ((t.enterReel v c n).shelfArrived v links)
    | none =>
      let full := fun (r : Option ReqNo) (t : State) =>
        t.raise { cls := .entryFull, subject := .volume v, detail := some (.noSlot c), req := r }
      if links = [] then full none (done t) else State.forEach links (fun r t => full (some r) t) (done t)

/-- The volume is reported in the cell it occupies: an ACKED ENTRY_FULL returns to SHOWN, and a failed ENTRY_IN from that cell with no prompt
is asked again (R13, R75, R148). -/
def State.stillThere (v : Serial) (c : Nat) (s : State) : State :=
  let full : PromptKey := { cls := .entryFull, subject := .volume v }
  let t := match s.findPrompt full with
    | some p => if p.state = .acked ∧ p.detail ≠ some .cell then s.returnPrompt full else s
    | none => s
  if v ∈ t.inv.entryInFailed ∧ t.promptStands .armAttention (.volume v) = false ∧ t.atCell v c = true then t.queueEntryIn v else t

/-- The consequences of what a rule has said so far are worked off before what it says comes "then" (R13, R15; log entry 4). -/
def State.andThen (f : State → State) (s : State) : State := f s.settle

/-- LABEL READ by the cell's state and the content reported (R13). A volume displaced is gone, with all that this leads to, before the volume
reported is handled; an expectation displaced is moved or dropped after it. -/
def State.labelApply (c : Nat) (content : CellContent) (s : State) : State :=
  match s.cellAt c, content with
  | .empty, .empty => s
  | .empty, .noLabel => s.putCell c (.occupied none)
  | .empty, .volume v => s.unexpected v c s.tableRoom
  | .occupied none, .empty => s.emptyCell c
  | .occupied none, .noLabel => s
  | .occupied none, .volume v => s.unexpected v c s.tableRoom
  | .occupied (some w), .empty => s.cellFoundEmpty w c
  | .occupied (some w), .noLabel => (s.putCell c (.occupied none)).cellFoundOther w c
  | .occupied (some w), .volume v =>
    if v = w then s.stillThere v c
    else ((s.putCell c (.occupied none)).cellFoundOther w c).andThen fun t => t.unexpected v c t.tableRoom
  | .expecting _ _, .empty => s
  | .expecting w p, .noLabel => (s.putCell c (.occupied none)).expectationDisplaced w p c
  | .expecting w p, .volume v =>
    if v = w then
      match p with
      | .shelf => s.shelfReported v c
      | .ring => s.reelBack v c
      | .ret => s.reelBack v c
      | .retire => s.putCell c (.occupied (some v))
    else (s.unexpected v c s.tableRoom).expectationDisplaced w p c

/-- A reported content is legal (R13). -/
def cellContentOk : CellContent → Bool
  | .volume v => serialOk v
  | .noLabel => true
  | .empty => true

/-- LABEL READ (R13). -/
def State.labelRead (cell : Nat) (content : Option CellContent) (s : State) : Answered :=
  if s.sys.mode = .init then .error .notNow
  else
    match content with
    | none => .error .badValue
    | some k => if 3 < cell ∨ cellContentOk k = false then .error .badValue else .ok ([], s.labelApply cell k)

/-- LABEL READ, command 12. -/
def execLabelRead (x : Xfer) (cell : Nat) (content : Option CellContent) (s : State) : Host.Outcome State Fault Refusal :=
  .next (s.hostCommand x 5 .other fun s => s.labelRead cell content)

/-! ## SLOT REPORT and END AUDIT -/

/-- A reel that the audit finds in its slot again becomes HOME (R15, R35, R47). -/
def State.foundHome (v : Serial) (s : State) : State :=
  ((s.updEntry v fun e => { e with state := .home }).push (.reelHome v)).push .plan

/-- SLOT REPORT against the table as it stands (R15): a reel displaced from its slot is MISSING, and its requests have failed, before the reel
found there is handled. -/
def State.slotApply (n : Nat) (content : SlotContent) (s : State) : State :=
  match s.slotEntry n, content with
  | none, .empty => s
  | none, .volume y =>
    (match s.findEntry y with
     | some _ => s.misplaced y
     | none => if 1 ≤ s.tableRoom then (s.addEntry (foundEntry y n .home)).push .plan else s.misplaced y)
  | some e, .empty => if e.state = .home then s.reelMissing e.volume else s
  | some e, .volume y =>
    match e.state with
    | .home => if y = e.volume then s else (s.reelMissing e.volume).andThen fun t => t.misplaced y
    | .missing => if y = e.volume then s.foundHome y else s.misplaced y
    | _ => s.misplaced y

/-- SLOT REPORT (R15). -/
def State.slotReport (n : Nat) (content : Option SlotContent) (s : State) : Answered :=
  if s.sys.mode = .init ∨ s.inv.bay ≠ .audit then .error .notNow
  else
    match content with
    | none => .error .badValue
    | some .empty => if s.cfg.slotCount ≤ n then .error .badValue else .ok ([], s.slotApply n .empty)
    | some (.volume y) => if s.cfg.slotCount ≤ n ∨ serialOk y = false then .error .badValue else .ok ([], s.slotApply n (.volume y))

/-- SLOT REPORT, command 13. -/
def execSlotReport (x : Xfer) (slot : Nat) (content : Option SlotContent) (s : State) : Host.Outcome State Fault Refusal :=
  .next (s.hostCommand x 5 .other fun s => s.slotReport slot content)

/-- END AUDIT (R16). -/
def State.endAudit (s : State) : Answered :=
  if s.sys.mode = .init ∨ s.inv.bay ≠ .audit then .error .notNow
  else
    let t := s.withCondition fun s => s.modInv fun i => { i with bay := .normal }
    .ok ([], ((t.push .plan).push .issue).push .handoffTest)

/-- END AUDIT, command 14. -/
def execEndAudit (x : Xfer) (s : State) : Host.Outcome State Fault Refusal := .next (s.hostCommand x 0 .other State.endAudit)

/-! ## READ REEL -/

/-- An entry's fields behind a presence word (R18). -/
def wMaybeEntry (e : Option Entry) : List Field :=
  match e with
  | none => [w1 0]
  | some e => w1 1 :: wEntry e

/-- READ REEL, by exactly one of volume, slot and cell (R18; log entry 27). -/
def State.readReel (volume : Option Serial) (slot cell : Option Nat) (s : State) : Answered :=
  match volume, slot, cell with
  | some v, none, none => if serialOk v then .ok (wMaybeEntry (s.findEntry v), s) else .error .badValue
  | none, some n, none =>
    if n ≤ 511 ∧ (s.sys.mode = .init ∨ n < s.cfg.slotCount) then
      .ok (wMaybeEntry (s.slotEntry n) ++ [w1 s.freeSlots, w1 s.tableRoom], s)
    else .error .badValue
  | none, none, some c => if c ≤ 3 then .ok (wCell (s.cellAt c), s) else .error .badValue
  | _, _, _ => .error .badValue

/-- READ REEL, command 17. -/
def execReadReel (x : Xfer) (volume : Option Serial) (slot cell : Option Nat) (s : State) : Host.Outcome State Fault Refusal :=
  .next (s.hostCommand x 7 .other fun s => s.readReel volume slot cell)

/-! ## DRIVE OFFLINE, DRIVE ONLINE, READ DRIVE -/

/-- An order that names the drive is in flight (R36, R79). -/
def State.driveNamed (d : Nat) (s : State) : Bool := s.arm.inFlight.any fun o => decide (o.loc = .drive d)

/-- The current move goes to the drive and holds the reel in the gripper, its PUT not in flight. -/
def State.gripperFor (d : Nat) (s : State) : Bool :=
  s.arm.current.any fun m => decide (m.dest = .drive d) && (decide (m.stage = .putNext) || decide (m.stage = .put))

/-- The reel on its way to a drive that has gone is put away; a retry awaited is not made, and its Retry Pause ends at once (R36, R77; DESIGN
CHOICE, log entry 105). -/
def State.driveLostPutAway (d : Nat) (s : State) : State :=
  if s.gripperFor d then
    (s.modArm fun a => { a with retryEnd := if a.current.any fun m => decide (m.stage = .put) then none else a.retryEnd }).putAwayMove false false
  else s

/-- A record that awaits its HANDOFF is given another local drive, or fails DRIVE_LOST (R52). -/
def State.otherDrive (r : ReqNo) (q : Request) (s : State) : State :=
  match s.chooseLocal q.required with
  | some x => s.reserveDrive x.address r
  | none => s.failRequest r .driveLost

/-- The request of a drive that went OFFLINE while RESERVED or LOADING for it gives up the drive and returns to STANDBY (R36, R53). Its MOUNT
still queued is removed (DESIGN CHOICE, log entry 103); a TAKE_IN stays queued, since its reel must leave the hatch, and R77 redirects its
PUT; one that waits for room waits on (R68; log entry 16). -/
def State.driveTaken (r : ReqNo) (s : State) : State :=
  match s.findReq r with
  | none => s
  | some q =>
    if q.hopExpiry.isSome then s.otherDrive r q
    else if q.cancelPending then s.updReq r fun q => { q with drive := none }
    else
      let t := (s.removeMoves fun m => decide (m.req = some r) && decide (m.kind ≠ .takeIn)).dropAsker (.request r)
      let t := t.backToStandby r
      if q.roomWait = some .takeIn then t.updReq r fun q => { q with roomWait := some .takeIn } else t

/-- DRIVE OFFLINE by the drive's state (R36). A STOW or RETURN that has begun and awaits its retry stays the current move (log
entry 58). -/
def State.driveOffline (d : Nat) (x : Drive) (s : State) : State :=
  let s := s.withdrawPrompt { cls := .cleanDrive, subject := .drive d }
  let taken := fun (t : State) => match x.serving with
    | some (.request r) => (t.driveTaken r).driveLostPutAway d
    | some .cleaning => (t.removeMoves fun m => decide (m.kind = .clean) && decide (m.dest = .drive d)).driveLostPutAway d
    | none => t
  match x.state with
  | .empty => s.driveOff d none
  | .reserved => taken (s.driveOff d none)
  | .loading => taken (s.driveOff d none)
  | .mounted =>
    let t := (s.closeSession d 0 .driveLost).driveOff d x.loaded
    (match x.serving with
     | some (.request r) => t.failRequest r .driveLost
     | _ => t)
  | .grace => s.driveOff d x.loaded
  | .idleLoaded => (s.driveOff d x.loaded).removeMoves fun m => decide (m.source = .drive d)
  | .cleaning => (s.closeCleaning d true).driveOff d x.loaded
  | .offline => s

/-- The checks of DRIVE OFFLINE and DRIVE ONLINE (R36, R37). -/
def State.checkDrive (d : Nat) (act : Drive → Answered) (s : State) : Answered :=
  if s.sys.mode = .init then .error .notNow
  else if 7 < d then .error .badValue
  else
    match s.findDrive d with
    | none => .error .badValue
    | some x => if s.driveNamed d then .error .notNow else act x

/-- DRIVE OFFLINE, command 15. -/
def execDriveOffline (x : Xfer) (address : Nat) (s : State) : Host.Outcome State Fault Refusal :=
  .next (s.hostCommand x 1 .other fun s => s.checkDrive address fun y => .ok ([], s.driveOffline address y))

/-- DRIVE ONLINE: to IDLE_LOADED with its reel, else to EMPTY; an order held back for the drive is tested again (R37, R69). -/
def State.driveOnline (d : Nat) (y : Drive) (s : State) : Answered :=
  if y.state ≠ .offline then .error .notNow
  else .ok ([], (if y.loaded.isSome then s.driveToIdle d else s.driveToEmpty d).push .issue)

/-- DRIVE ONLINE, command 16. -/
def execDriveOnline (x : Xfer) (address : Nat) (s : State) : Host.Outcome State Fault Refusal :=
  .next (s.hostCommand x 1 .other fun s => s.checkDrive address fun y => s.driveOnline address y)

/-- READ DRIVE (R38). -/
def State.readDrive (d : Nat) (s : State) : Answered :=
  if 7 < d then .error .badValue
  else
    let fields := match s.findDrive d with
      | none => [w1 0]
      | some x => w1 1 :: wDrive x
    .ok (fields ++ [w3 s.drv.remountsSaved, w3 s.drv.graceYielded], s)

/-- READ DRIVE, command 18. -/
def execReadDrive (x : Xfer) (address : Nat) (s : State) : Host.Outcome State Fault Refusal :=
  .next (s.hostCommand x 1 .other fun s => s.readDrive address)

end Sys2Proof.Machine
end

