-- ==== Sys2Proof/Machine/HostRequests.lean ====
section
/-! DEFINITION. The host's commands on requests (chapter 3): MOUNT (R42, R45), DISMOUNT (R59), CANCEL (R60), QUERY REQUEST (R62). -/

namespace Sys2Proof.Machine

/-! ## MOUNT -/

/-- The sequence that follows another: 1 follows 255 (R42). -/
def nextSeq (n : Nat) : Nat := if n < 255 then n + 1 else 1

/-- The first sequence after `n` that no record of this origin carries; at most `fuel` candidates are passed over (R42). -/
def freshSeq (used : Nat → Bool) : Nat → Nat → Nat
  | 0, n => nextSeq n
  | fuel + 1, n => if used (nextSeq n) then freshSeq used fuel (nextSeq n) else nextSeq n

/-- The sequence that MOUNT gives: the queue's 32 records pass over at most 32 candidates (R42). -/
def State.newSeq (s : State) : Nat :=
  freshSeq (fun n => s.rm.queue.any fun q => decide (q.req = { origin := s.self, seq := n })) s.rm.queue.length s.rm.lastSeq

/-- What MOUNT names: exactly one of a volume and a pool, both legal (R45). -/
def mountWant (a : MountArgs) : Option Want :=
  match a.volume, a.pool with
  | some v, none => if serialOk v then some (.volume v) else none
  | none, some p => if poolOk p then some (.pool p) else none
  | _, _ => none

/-- The other fields of MOUNT are in their ranges (R41, R45). -/
def mountInRange (a : MountArgs) : Bool :=
  decide (a.jobTag ≤ Config.max16) && wishOk a.classWish && decide (a.priority ≤ 7) && decide (a.account ≤ 63) &&
    match a.minutes with
    | none => true
    | some m => decide (1 ≤ m) && decide (m ≤ 255)

/-- The record that MOUNT makes (R45). -/
def State.newRequest (a : MountArgs) (want : Want) (access : Access) (s : State) : Request where
  req := { origin := s.self, seq := s.newSeq }
  role := .own
  jobTag := a.jobTag
  want := want
  reel := none
  access := access
  classWish := a.classWish
  reelClass := none
  priority := a.priority
  account := a.account
  deadline := a.minutes.map fun m => s.acct.stationTime + 60 * m
  late := false
  state := .waiting
  server := none
  hop := 0
  drive := none
  promptAcks := 0
  placeAttempts := 0
  promptPending := none
  ackHeld := false
  cancelPending := false
  lineWait := false
  skipLeft := false
  skipRight := false
  hopExpiry := none
  release := none
  entered := s.acct.stationTime
  phase := .none
  windowEnd := none
  answers := []
  placeTarget := none
  waitEnd := none
  followUp := none
  settleReseek := false
  forwardDue := none
  releaseUnsent := false
  located := false
  roomWait := none
  hopTo := none
  placeWait := false
  unanswered := false
  triedLeft := false
  triedRight := false
  reseekDue := none

/-- A request joins the queue, takes Last Sequence with it, and is reported ACCEPTED (R42, R45). -/
def State.enterRequest (q : Request) (s : State) : State :=
  ((s.modRm fun m => { m with lastSeq := q.req.seq }).addReq q).reqReport q .accepted

/-- The first look at an entered request: none in JOINING; in AUDIT only the remount examination of a planning pass (R30, R45). -/
def State.firstLook (r : ReqNo) (s : State) : State :=
  if s.sys.mode = .joining then s
  else if s.inv.bay = .audit then s.push .plan
  else (s.lookup r).push .plan

/-- MOUNT (R45). -/
def State.mount (a : MountArgs) (s : State) : Answered :=
  if s.sys.mode = .init then .error .notNow
  else
    match mountWant a, a.access with
    | some want, some access =>
      if mountInRange a = false then .error .badValue
      else if Config.mountQueueSize ≤ s.rm.queue.length then .error .full
      else
        let q := s.newRequest a want access
        .ok ([wReq q.req], (s.enterRequest q).firstLook q.req)
    | _, _ => .error .badValue

/-- MOUNT, command 5. -/
def execMount (x : Xfer) (a : MountArgs) (s : State) : Host.Outcome State Fault Refusal :=
  .next (s.hostCommand x 11 .other fun s => s.mount a)

/-! ## DISMOUNT, CANCEL, QUERY REQUEST -/

/-- A record that the host may name in DISMOUNT and CANCEL: any but a TAKEN_IN one (R59, R60). -/
def State.hostReq (r : ReqNo) (s : State) : Option Request := (s.findReq r).filter fun q => decide (q.role ≠ .takenIn)

/-- DISMOUNT (R59, R180). -/
def State.dismount (r : ReqNo) (errors : Nat) (s : State) : Answered :=
  if 255 < errors ∨ reqOk r = false then .error .badValue
  else
    match s.hostReq r with
    | none => .error .unknownRequest
    | some q =>
      match q.state, q.release with
      | .mounted, _ => .ok ([], s.dismountRequest r errors (.dismounted errors))
      | .remoteMounted, none => .ok ([], s.releaseProxy r (.dismount errors))
      | _, _ => .error .notNow

/-- DISMOUNT, command 6. -/
def execDismount (x : Xfer) (r : ReqNo) (errors : Nat) (s : State) : Host.Outcome State Fault Refusal :=
  .next (s.hostCommand x 3 .other fun s => s.dismount r errors)

/-- CANCEL (R60, R61, R180). -/
def State.cancel (r : ReqNo) (s : State) : Answered :=
  if reqOk r = false then .error .badValue
  else
    match s.hostReq r with
    | none => .error .unknownRequest
    | some q =>
      match q.state, q.release with
      | .remoteMounted, some (.dismount _) => .error .notNow
      | _, _ => .ok ([], s.cancelRequest r)

/-- CANCEL, command 7. -/
def execCancel (x : Xfer) (r : ReqNo) (s : State) : Host.Outcome State Fault Refusal :=
  .next (s.hostCommand x 2 .other fun s => s.cancel r)

/-- The place of a record in the Mount Queue, counted from 1 (R62). -/
def State.placeOf (r : ReqNo) (s : State) : Nat := s.rm.queue.findIdx (fun q => decide (q.req = r)) + 1

/-- QUERY REQUEST (R62, R180). -/
def State.queryRequest (r : ReqNo) (s : State) : Answered :=
  if reqOk r = false then .error .badValue
  else
    match s.findReq r with
    | none => .error .unknownRequest
    | some q => .ok (wRequest q ++ [w1 (s.placeOf r)], s)

/-- QUERY REQUEST, command 8. -/
def execQueryRequest (x : Xfer) (r : ReqNo) (s : State) : Host.Outcome State Fault Refusal :=
  .next (s.hostCommand x 2 .other fun s => s.queryRequest r)

end Sys2Proof.Machine
end

