-- ==== Sys2Proof/Machine/HostSetup.lean ====
section
/-! DEFINITION. Reset and start-up (chapter 11): POWER_ON_RESET, RESET_RELEASE (R192), SET STARTUP (R193, R194), LOAD DRIVE (R21),
LOAD REEL (R17), START (R195), RESUME (R186), RESTART (R198). -/

namespace Sys2Proof.Machine

/-! ## Reset -/

/-- POWER_ON_RESET: every block holds its power-on values and RESET is low (R192). -/
def execPowerOnReset (s : State) : Host.Outcome State Fault Refusal :=
  .next (((State.reset).modSys fun y => { y with resetHeld := true }).withPending s.pending)

/-- RESET_RELEASE: RESET rises (R192). -/
def execResetRelease (s : State) : Host.Outcome State Fault Refusal := .next (s.modSys fun y => { y with resetHeld := false })

/-! ## SET STARTUP -/

/-- A plain range (R194). -/
def clampTo (lo hi v : Nat) : Nat := max lo (min hi v)

/-- The distance of two numbers. -/
def apart (a b : Nat) : Nat := (a - b) + (b - a)

/-- The nearest of `c` and the values of a rising list that follows it; a value midway stores the lower (R194). -/
def nearest (v c : Nat) : List Nat → Nat
  | [] => c
  | x :: t => nearest v (if apart v x < apart v c then x else c) t

/-- A stepped range (R194). -/
def stepped (step lo hi v : Nat) : Nat := clampTo lo hi (v / step * step)

/-- The thresholds put in order after one of them is written (R194). -/
def StartUp.ordered (c : StartUp) : StartUp := { c with b2 := max c.b1 c.b2, b3 := max (max c.b1 c.b2) c.b3 }

/-- A value given to a field is made legal and stored (R193, R194). -/
def StartUp.put (field v : Nat) (c : StartUp) : StartUp :=
  match field with
  | 1 => { c with stationNumber := clampTo 0 7 v }
  | 2 => { c with slotCount := clampTo 16 512 v }
  | 3 => { c with leftHatch := decide (v ≠ 0) }
  | 4 => { c with rightHatch := decide (v ≠ 0) }
  | 5 => { c with lineRate := nearest v 3125 [6250, 12500] }
  | 6 => { c with presencePeriod := clampTo 1 16 v }
  | 7 => { c with seekWindow := stepped 50 50 800 v }
  | 8 => { c with gracePeriod := clampTo 0 255 v }
  | 9 => { c with promptSettle := clampTo 0 30 v }
  | 10 => { c with escalateTime := clampTo 1 60 v }
  | 11 => { c with doorLimit := clampTo 1 30 v }
  | 12 => StartUp.ordered { c with b1 := clampTo 1 8 v }
  | 13 => StartUp.ordered { c with b2 := clampTo 1 8 v }
  | 14 => StartUp.ordered { c with b3 := clampTo 1 8 v }
  | 15 => { c with rate0 := clampTo 0 65535 v }
  | 16 => { c with rate1 := clampTo 0 65535 v }
  | 17 => { c with rate2 := clampTo 0 65535 v }
  | 18 => { c with rate3 := clampTo 0 65535 v }
  | 19 => { c with mountFee := clampTo 0 65535 v }
  | 20 => { c with ringFee := clampTo 0 65535 v }
  | 21 => { c with operatorFee := clampTo 0 65535 v }
  | 22 => { c with transferFee := clampTo 0 65535 v }
  | 23 => { c with retireLimit := clampTo 100 65535 v }
  | 24 => { c with cleanLimit := clampTo 50 4000 v }
  | 25 => { c with cleaningTime := clampTo 30 300 v }
  | 26 => { c with expSlotDrive := clampTo 5 120 v }
  | 27 => { c with expSlotHatch := clampTo 5 120 v }
  | 28 => { c with expEntryAny := clampTo 5 120 v }
  | 29 => { c with expDriveHatch := clampTo 5 120 v }
  | 30 => { c with slowMargin := nearest v 25 [50, 100, 200] }
  | 31 => { c with retryPause := nearest v 2 [5, 15, 60] }
  | 32 => { c with retryUnlimited := decide (v ≠ 0) }
  | 33 => { c with silenceLimit := clampTo 1 30 v }
  | 34 => { c with sessionStaleTime := clampTo 1 60 v }
  | 35 => { c with sessionWatermark := clampTo 1 48 v }
  | 36 => { c with longPress := stepped 100 800 2500 v }
  | 37 => { c with hopTimeout := clampTo 30 600 v }
  | 38 => { c with forwardCheckInterval := clampTo 10 120 v }
  | _ => c

/-- The value that a field now holds (R193); a flag as 0 or 1, the number that R194 stores it from (DESIGN CHOICE, log entry 6). -/
def StartUp.get (field : Nat) (c : StartUp) : Nat :=
  match field with
  | 1 => c.stationNumber
  | 2 => c.slotCount
  | 3 => c.leftHatch.toNat
  | 4 => c.rightHatch.toNat
  | 5 => c.lineRate
  | 6 => c.presencePeriod
  | 7 => c.seekWindow
  | 8 => c.gracePeriod
  | 9 => c.promptSettle
  | 10 => c.escalateTime
  | 11 => c.doorLimit
  | 12 => c.b1
  | 13 => c.b2
  | 14 => c.b3
  | 15 => c.rate0
  | 16 => c.rate1
  | 17 => c.rate2
  | 18 => c.rate3
  | 19 => c.mountFee
  | 20 => c.ringFee
  | 21 => c.operatorFee
  | 22 => c.transferFee
  | 23 => c.retireLimit
  | 24 => c.cleanLimit
  | 25 => c.cleaningTime
  | 26 => c.expSlotDrive
  | 27 => c.expSlotHatch
  | 28 => c.expEntryAny
  | 29 => c.expDriveHatch
  | 30 => c.slowMargin
  | 31 => c.retryPause
  | 32 => c.retryUnlimited.toNat
  | 33 => c.silenceLimit
  | 34 => c.sessionStaleTime
  | 35 => c.sessionWatermark
  | 36 => c.longPress
  | 37 => c.hopTimeout
  | 38 => c.forwardCheckInterval
  | _ => 0

/-- The reply of SET STARTUP: the field and the value stored, or the three thresholds after a write of one (R193), every value in two words
(DESIGN CHOICE, log entry 6). -/
def startupReply (field : Nat) (written : Bool) (c : StartUp) : List Field :=
  if written ∧ 12 ≤ field ∧ field ≤ 14 then [w1 field, w2 c.b1, w2 c.b2, w2 c.b3] else [w1 field, w2 (c.get field)]

/-- SET STARTUP (R193, R194). A new Session Stale Time is the preset of a stale timer that is not running (R175). -/
def State.setStartup (field : Nat) (value : Option Nat) (s : State) : Answered :=
  if field < 1 ∨ 38 < field ∨ 65535 < value.getD 0 then .error .badValue
  else
    match value with
    | none => .ok (startupReply field false s.cfg, s)
    | some v =>
      let c := s.cfg.put field v
      .ok (startupReply field true c,
        (s.modSys fun y => { y with startup := c }).modAcct fun a =>
          { a with staleLeft := if a.closed = [] then 60 * c.sessionStaleTime else a.staleLeft })

/-- SET STARTUP, command 1. -/
def execSetStartup (x : Xfer) (field : Nat) (value : Option Nat) (s : State) : Host.Outcome State Fault Refusal :=
  .next (s.hostCommand x 4 .initOnly fun s => s.setStartup field value)

/-! ## LOAD DRIVE and LOAD REEL -/

/-- A position with a boundary index 0 or 1 (R21). -/
def positionOk : DrivePos → Bool
  | .loc => true
  | .boundary _ i => decide (i ≤ 1)

/-- A new drive record (R21). -/
def newDrive (address cls : Nat) (p : DrivePos) : Drive where
  address := address
  cls := cls
  position := p
  state := .empty
  loaded := none
  serving := none
  graceExpiry := none
  cleaningEnd := none
  cleaningReel := none
  cleanDue := false
  mounts := 0
  mountedSeconds := 0
  passesSince := 0
  cleanings := 0
  session := none
  cleaningStart := none
  parked := false

/-- LOAD DRIVE (R21). -/
def State.loadDrive (address cls : Nat) (position : Option DrivePos) (s : State) : Answered :=
  match position with
  | none => .error .badValue
  | some p =>
    if 7 < address ∨ (s.findDrive address).isSome = true ∨ classOk cls = false ∨ positionOk p = false ∨
        (p ≠ .loc ∧ (s.drv.drives.any fun x => decide (x.position = p)) = true) then .error .badValue
    else .ok ([], s.modDrv fun u => { u with drives := insertDrive (newDrive address cls p) u.drives })

/-- LOAD DRIVE, command 2. -/
def execLoadDrive (x : Xfer) (address cls : Nat) (position : Option DrivePos) (s : State) : Host.Outcome State Fault Refusal :=
  .next (s.hostCommand x 3 .initOnly fun s => s.loadDrive address cls position)

/-- The entry that LOAD REEL makes (R17). -/
def loadedEntry (a : LoadReelArgs) (ring retired : Bool) : Entry where
  volume := a.volume
  home := .here
  slot := some a.slot
  cls := a.cls
  ring := ring
  pool := if a.pool = 0 then none else some a.pool
  passes := a.passes
  errors := a.errors
  retired := retired
  unrecorded := false
  exitPending := false
  state := .home
  reservation := none

/-- LOAD REEL (R17). -/
def State.loadReel (a : LoadReelArgs) (s : State) : Answered :=
  match a.ring, a.retired with
  | some ring, some retired =>
    if serialOk a.volume = false ∨ (s.findEntry a.volume).isSome = true ∨ 511 < a.slot ∨ s.slotNamed a.slot = true ∨ classOk a.cls = false ∨
        15 < a.pool ∨ Config.max16 < a.passes ∨ Config.max8 < a.errors then .error .badValue
    else if s.tableRoom = 0 then .error .full
    else .ok ([], s.addEntry (loadedEntry a ring retired))
  | _, _ => .error .badValue

/-- LOAD REEL, command 3. -/
def execLoadReel (x : Xfer) (a : LoadReelArgs) (s : State) : Host.Outcome State Fault Refusal :=
  .next (s.hostCommand x 11 .initOnly fun s => s.loadReel a)

/-! ## START -/

/-- The checks of START (R195). -/
def State.startRefused (s : State) : Bool :=
  (s.inv.entries.any fun e => match e.slot with
    | some n => decide (s.cfg.slotCount ≤ n)
    | none => false) ||
  (decide (s.self = 0) && (s.cfg.leftHatch || s.drv.drives.any fun x => match x.position with
    | .boundary .left _ => true
    | _ => false)) ||
  (decide (s.self = 7) && (s.cfg.rightHatch || s.drv.drives.any fun x => match x.position with
    | .boundary .right _ => true
    | _ => false))

/-- What START does to the blocks, less a held DOOR_LONG (R139, R158, R160, R161, R195, R196). -/
def State.begin (s : State) : State :=
  { s with
    sys := { s.sys with mode := .joining, listenEnd := some (s.sys.clock + 2 * s.periodMs) }
    claim := { s.claim with records := s.makeRecords }
    acct := { s.acct with nextSecond := some (s.acct.nextSecond.getD (s.sys.clock + 1000)), lastBand := none, lastTick := none } }

/-- START (R195); a held DOOR_LONG is given if the door is still open (R155, R157). -/
def State.start (s : State) : Answered :=
  if s.startRefused then .error .notNow
  else .ok ([], if s.panel.doorIsOpen ∧ s.panel.doorExpired then s.begin.raisePlain .doorLong .door else s.begin)

/-- START, command 4. -/
def execStart (x : Xfer) (s : State) : Host.Outcome State Fault Refusal := .next (s.hostCommand x 0 .initOnly State.start)

/-! ## RESUME and RESTART -/

/-- RESUME (R186). -/
def State.resume (x : Xfer) (s : State) : Answered :=
  if s.sys.mode ≠ .standalone then .error .notNow
  else
    let t := s.withCondition fun s => (s.modSys fun y => { y with mode := .active }).modPort fun p =>
      { p with lastHeartbeat := some x.heartbeat, silenceEnd := some s.silenceFull }
    .ok ([], ((t.push .plan).push .claimTest).push .issue)

/-- RESUME, command 28. -/
def execResume (x : Xfer) (s : State) : Host.Outcome State Fault Refusal := .next (s.hostCommand x 0 .standalone (State.resume x))

/-- The LEAVING PRESENCE goes ahead of every queued message, so that it is the next one sent (R102); a full queue makes it Undelivered,
which ends the RESTART (R89; log entry 34). -/
def State.queueLeaving (s : State) : State :=
  let m : TxMsg := { msg := .presence (s.presenceBody .leaving), attempts := 0, onLine := false, withdrawn := false, tag := .leaving }
  let t := s.withdraw isPresence
  if Config.transmitQueueSize ≤ t.line.txq.length then t.completeRestart
  else t.modLine fun l => { l with txq := m :: l.txq }

/-- RESTART (R198). -/
def State.restart (s : State) : Answered :=
  if s.sys.mode = .init ∨ s.sys.mode = .standalone then .error .notNow
  else if s.sys.restartPending then .ok ([], s)
  else
    let t := ((s.modPort fun p => { p with silenceEnd := none }).modLine fun l => { l with presenceEnd := none }).modSys fun y =>
      { y with listenEnd := none }
    if s.line.state = .detached ∨ s.line.state = .duplicate then .ok ([], t.completeRestart)
    else .ok ([], (t.modSys fun y => { y with restartPending := true }).queueLeaving)

/-- RESTART, command 29. -/
def execRestart (x : Xfer) (s : State) : Host.Outcome State Fault Refusal := .next (s.hostCommand x 0 .other State.restart)

end Sys2Proof.Machine
end

