-- ==== Sys2Proof/Machine/HostStatus.lean ====
section
/-! DEFINITION. The host's commands on the line and the port itself: READ LINE (R97), TAKE REPORT (R188), READ STATUS (R189), an
undefined command code (R180), a faulted transfer (R178, R181). -/

namespace Sys2Proof.Machine

/-- READ LINE, without a station number or with one (R97). -/
def State.readLine (station : Option Nat) (s : State) : Answered :=
  match station with
  | none =>
    .ok ([wLine s.line.state, w1 s.line.score, w1 s.line.errors, wFlag s.line.errOverflow] ++
        (List.range 8).map (fun p => wRoster (s.rosterAt p).state),
      s.modLine fun l => { l with errors := 0, errOverflow := false })
  | some p => if 7 < p then .error .badValue else .ok (wRosterEntry (s.rosterAt p) s.sys.clock, s)

/-- READ LINE, command 24. -/
def execReadLine (x : Xfer) (station : Option Nat) (s : State) : Host.Outcome State Fault Refusal :=
  .next (s.hostCommand x 2 .other fun s => s.readLine station)

/-- TAKE REPORT (R188). -/
def State.takeReport (s : State) : Answered :=
  match s.port.reports with
  | [] => .ok ([], s)
  | r :: rest => .ok (wReport r, s.modPort fun p => { p with reports := rest })

/-- TAKE REPORT, command 26. -/
def execTakeReport (x : Xfer) (s : State) : Host.Outcome State Fault Refusal := .next (s.hostCommand x 0 .standalone State.takeReport)

/-- The fields of READ STATUS (R189). -/
def State.statusFields (s : State) : List Field :=
  [wMode s.sys.mode, wLine s.line.state, wBay s.inv.bay, w1 s.self, w3 s.acct.stationTime,
   w1 s.rm.queue.length, w1 s.arm.queue.length, w1 s.line.txq.length, w1 s.panel.prompts.length, w1 s.port.reports.length,
   w1 s.acct.closed.length, wFlag s.orderWaiting, wOpt 1 w1 ((s.arm.inFlight.filter fun o => !o.taken).map Order.number),
   wOptP 1 w1 (s.port.silenceEnd.map fun t => t - s.sys.clock),
   w1 s.port.reportsLost, w2 s.px.stray, w2 s.panel.suppressed, w1 s.panel.promptsLost]

/-- READ STATUS (R189). -/
def State.readStatus (s : State) : Answered := .ok (s.statusFields, s.modPort fun p => { p with reportsLost := 0 })

/-- READ STATUS, command 27. -/
def execReadStatus (x : Xfer) (s : State) : Host.Outcome State Fault Refusal := .next (s.hostCommand x 0 .standalone State.readStatus)

/-- A code of 0, or of 30 to 127: the heartbeat is taken, and the transfer is answered BAD_VALUE (R180). -/
def execUndefinedCommandCode (x : Xfer) (_code : Nat) (s : State) : Host.Outcome State Fault Refusal :=
  .next (if s.sys.resetHeld then s else (s.accepted x).refuseCmd x .badValue)

/-- A faulted transfer: Frame Fault is set, the pending reply is kept (R178, R181). -/
def execFaultedTransfer (s : State) : Host.Outcome State Fault Refusal :=
  .next (if s.sys.resetHeld then s else s.modPort fun p => { p with frameFault := true })

end Sys2Proof.Machine
end

