-- ==== Sys2Proof/Machine/LineEvents.lean ====
section
/-! DEFINITION. The events of the Station Line itself (chapter 5). -/

namespace Sys2Proof.Machine

/-- FRAME_SEND_START: the frame of the head of the Transmit Queue begins (R86, R89). -/
def execFrameSendStart (s : State) : Host.Outcome State Fault Refusal := .next s.beginFrame

/-- CONTENTION_LOST: the message keeps its place and its attempts (R86). -/
def execContentionLost (s : State) : Host.Outcome State Fault Refusal := .next s.contentionLost.settle

/-- TRANSMIT_FAULT: a failed attempt, and the score rises by 8 (R87, R88). -/
def execTransmitFault (s : State) : Host.Outcome State Fault Refusal := .next (s.failAttempt 8).settle

/-- ATTEMPT_WITNESSED: the message leaves the queue, its owner is told, and the score falls by 1 (R88). -/
def execAttemptWitnessed (s : State) : Host.Outcome State Fault Refusal := .next s.attemptWitnessed.settle

/-- ATTEMPT_UNWITNESSED: a failed attempt; the score rises by 4 if a roster entry is PRESENT (R88). -/
def execAttemptUnwitnessed (s : State) : Host.Outcome State Fault Refusal :=
  .next (s.failAttempt (if s.anyPresent then 4 else 0)).settle

/-- DETACHED_RECOVERY: 32 good frames, or the expiry of the Quiet timer (R94). -/
def execDetachedRecovery (s : State) : Host.Outcome State Fault Refusal :=
  .next (if s.line.state = .detached then
      match s.line.quietEnd with
      | some e => ((if Config.recoveryFrames ≤ s.line.goodFrames then s else s.reach e).recover).settle
      | none => s
    else s)

/-- BAD_FRAME: a received frame with a format or check fault (R84, R91, R97); INIT takes no frame (R81). -/
def execBadFrame (s : State) : Host.Outcome State Fault Refusal :=
  .next (if s.sys.mode = .init then s else s.badFrame.settle)

/-- BROKEN_OFF_FRAME: discarded, and not counted (R84, R91, R97). -/
def execBrokenOffFrame (s : State) : Host.Outcome State Fault Refusal := .next s

/-- PRESENCE_HEARD (R98, R99). -/
def execPresenceHeard (sender : Nat) (b : PresenceBody) (s : State) : Host.Outcome State Fault Refusal :=
  .next (s.hear sender (presenceOk b) true fun t => t.hearPresence b sender)

/-- PEER_ABSENT: an absence timer expires (R99). -/
def execPeerAbsent (station : Nat) (s : State) : Host.Outcome State Fault Refusal :=
  .next (match (s.rosterAt station).absentAt with
    | none => s
    | some e => if s.isPresent station then ((s.reach e).peerGone station).settle else s)

/-- PRESENCE_TIMER_EXPIRY: a PRESENCE is asked, and the timer starts again (R101). -/
def execPresenceTimerExpiry (s : State) : Host.Outcome State Fault Refusal :=
  .next (match s.line.presenceEnd with
    | none => s
    | some e => (((s.reach e).askPresence .plain).startPresence).settle)

end Sys2Proof.Machine
end

