-- ==== Sys2Proof/Machine/PanelEvents.lean ====
section
/-! DEFINITION. The operator's events (chapter 8): the buttons (R146 to R149, R151, R152), the door (R14, R155), the end of settling
(R144), escalation by age (R145). -/

namespace Sys2Proof.Machine

/-! ## Presses -/

/-- A press begins: its edge and, for ACK, its target, the prompt under the cursor (R146, R151). A press that stood has been released in
under 30 ms, which no row reports, and is forgotten (log entry 67). -/
def State.beginPress (b : Button) (s : State) : State :=
  match b with
  | .ack => s.modPanel fun u => { u with ackPress := some { since := s.sys.clock, target := u.cursor } }
  | .next => s.modPanel fun u => { u with nextPress := some { since := s.sys.clock, target := none } }

/-- BUTTON_PRESS: the press edge of a button (R151). -/
def execButtonPress (b : Button) (s : State) : Host.Outcome State Fault Refusal :=
  .next (if s.sys.resetHeld then s else s.beginPress b)

/-- The steps of 10 ms that the press timer has counted since the press edge (R151). -/
def State.pressSteps (since : Nat) (s : State) : Nat := satAdd Config.max16 0 ((s.sys.clock - since) / 10)

/-- The press is judged long: its count has reached the Long Press threshold, or is saturated (R151). -/
def State.longPress (since : Nat) (s : State) : Bool :=
  decide (s.cfg.longPress ≤ 10 * s.pressSteps since) || decide (s.pressSteps since = Config.max16)

/-- The release of a press of ACK, `ms` after its edge at least: the press is judged, and `act` takes its target, if it still stands
(R146, R151; log entry 67). -/
def State.releaseAck (ms : Nat) (act : Bool → Prompt → State → State) (s : State) : State :=
  match s.panel.ackPress with
  | none => s
  | some p =>
    let t := (s.reach (p.since + ms)).modPanel fun u => { u with ackPress := none }
    match p.target.bind fun k => t.findPrompt k with
    | none => t
    | some q => (act (t.longPress p.since) q t).settle

/-- The release of a press of NEXT, judged, which finds a prompt displayed (R151, R152; log entry 67). -/
def State.releaseNext (ms : Nat) (act : Bool → PromptKey → State → State) (s : State) : State :=
  match s.panel.nextPress with
  | none => s
  | some p =>
    let t := (s.reach (p.since + ms)).modPanel fun u => { u with nextPress := none }
    match t.panel.cursor with
    | none => t
    | some k => act (t.longPress p.since) k t

/-! ## ACK and decline by class (R147) -/

/-- Decline is taken as ACK for these classes (R147). -/
def declineIsAck : PromptClass → Bool
  | .entryFull => true
  | .misplaced => true
  | .armAttention => true
  | .hatchConflict => true
  | .hatchClear => true
  | .doorLong => true
  | .shelfFetch => false
  | .ringIn => false
  | .cleanDrive => false
  | .retireReel => false

/-- A prompt goes to ACKED. -/
def State.toAcked (k : PromptKey) (wait : Bool) (s : State) : State :=
  (s.updPrompt k fun p => { p with state := .acked, cellWait := wait }).relamp

/-- ACK of a SHELF_FETCH: a cell and an arrival reservation, or Cell Wait with ENTRY_FULL CELL, or it stays SHOWN (R147). -/
def State.ackShelf (p : Prompt) (v : Serial) (s : State) : State :=
  if s.tableRoom = 0 then s
  else
    match s.lowestEmptyCell with
    | some c => (s.putCell c (.expecting v .shelf)).toAcked p.key false
    | none => (s.toAcked p.key true).raise { cls := .entryFull, subject := .volume v, detail := some .cell, req := none }

/-- The reel of a RING_IN is in its cell (R55). -/
def State.ringInCell (v : Serial) (s : State) : Bool :=
  match s.findEntry v with
  | some e => (match e.state with
      | .atEntry c => decide (s.cellAt c = .occupied (some v))
      | _ => false)
  | none => false

/-- ACK of a RING_IN (R55, R147). -/
def State.ackRing (p : Prompt) (v : Serial) (s : State) : State :=
  if s.ringInCell v then s.serveRingIn p
  else State.forEach p.links (fun r t => t.updReq r fun q => { q with ackHeld := true }) (s.toAcked p.key false)

/-- The cell that a reel AT_ENTRY in `c` holds, or that awaits its return, is this one: it is the reel's own and not another's (R13). -/
def State.ownsCell (v : Serial) (c : Nat) (s : State) : Bool :=
  decide (s.cellAt c = CellState.occupied (some v)) || decide (s.cellAt c = CellState.expecting v .ret)

/-- ACK of a RETIRE_REEL: the entry is deleted, its slot freed, its cell made EMPTY (R11): the cell to which the expectation of its return has
moved, if it has (R13; DESIGN CHOICE, log entry 95). -/
def State.ackRetire (p : Prompt) (v : Serial) (s : State) : State :=
  let t := match (s.findEntry v).map Entry.state with
    | some (.atEntry c) => s.retireOut v (s.fetchCell v c) (!s.ownsCell v (s.fetchCell v c))
    | _ => s
  t.leavePrompt p.key

/-- ACK of a HATCH_CONFLICT: Conflict Acked; the stoppage ends if the conflict is gone (R132, R149). -/
def State.ackConflict (p : Prompt) (s : State) : State :=
  match s.claim.records.find? fun c => decide (s.conflictKey c.res = p.key) with
  | none => s.leavePrompt p.key
  | some c =>
    let t := s.updRec c.res fun c => { c with conflictAcked := true }
    if c.dispute ≠ .conflict then t.leavePrompt p.key
    else if c.conflictGone then t.endConflict c.res
    else t

/-- ACK of a HATCH_CLEAR: the cradle is emptied, visiting entries in it are deleted (R133), and an order held back for the cradle is
tested (R69). -/
def State.ackCradle (p : Prompt) (side : Side) (s : State) : State :=
  let gone := (s.inv.entries.filter fun e => !e.isHomed && decide (e.state = .inHatch side)).map Entry.volume
  let t := s.updRec (s.sideRes side) fun c => { c with cradle := .empty }
  let t := if gone = [] then t
    else (t.updRec (s.sideRes side) fun c => { c with handoffDue := none, owed := none }).dropAsk (s.sideRes side) .claimUnit
  let t := State.forEach gone (fun v t => (t.delEntry v).push (.reelLeft v)) t
  ((t.leavePrompt p.key).push .issue).push .useEnd

/-- What an ACK does by class (R147). -/
def State.ackClass (p : Prompt) (s : State) : State :=
  match p.cls, p.subject with
  | .shelfFetch, .volume v => s.ackShelf p v
  | .ringIn, .volume v => s.ackRing p v
  | .entryFull, _ => s.toAcked p.key false
  | .cleanDrive, .drive d => ((s.updDrive d Drive.cleaned).leavePrompt p.key).push (.driveEmpty d)
  | .retireReel, .volume v => s.ackRetire p v
  | .hatchConflict, _ => s.ackConflict p
  | .hatchClear, .hatch side => s.ackCradle p side
  | .doorLong, _ => s
  | _, _ => s.leavePrompt p.key

/-- The counts of an ACK: the prompt's, and the Prompt Acks of its linked requests (R41, R146). -/
def State.countAck (p : Prompt) (s : State) : State :=
  State.forEach p.links (fun r t => t.updReq r fun q => { q with promptAcks := satAdd 3 q.promptAcks 1 })
    (s.updPrompt p.key fun p => { p with acks := satAdd Config.max8 p.acks 1 })

/-- ACK of a prompt: only one SHOWN takes it (R146). -/
def State.ackPrompt (p : Prompt) (s : State) : State :=
  if p.state = .shown then
    ((s.countAck p).reportPrompt .acked p (some (satAdd Config.max8 p.acks 1))).ackClass p
  else s

/-- What a decline does by class, behind its report (R147; log entry 35). -/
def State.declineClass (p : Prompt) (s : State) : State :=
  let t := s.reportPrompt .declined p none
  match p.cls, p.subject with
  | .shelfFetch, _ => (t.declineLinks p.key).leavePrompt p.key
  | .ringIn, .volume v => ((t.declineLinks p.key).leavePrompt p.key).askEntryIn v
  | .cleanDrive, _ => t.leavePrompt p.key
  | .retireReel, .volume v =>
    ((t.updEntry v fun e => { e with exitPending := false }).leavePrompt p.key).queueEntryIn v
  | c, _ => if declineIsAck c ∧ p.state = .shown then ((s.countAck p).reportPrompt .declined p none).ackClass p else t

/-- Decline of a prompt: only one SHOWN or ACKED takes it (R144, R146). -/
def State.declinePrompt (p : Prompt) (s : State) : State := if p.state = .settling then s else s.declineClass p

/-! ## The buttons -/

/-- What a press of ACK does to its target: a short one acknowledges it, a long one declines it (R146, R152). -/
def State.actAck (isLong : Bool) (p : Prompt) (s : State) : State := if isLong then s.declinePrompt p else s.ackPrompt p

/-- ACK_SHORT: the release of a press of ACK, 30 ms after its edge or later (R146, R151, R152). -/
def execAckShort (s : State) : Host.Outcome State Fault Refusal :=
  .next (if s.sys.resetHeld then s else s.releaseAck 30 State.actAck)

/-- ACK_LONG: the release of a press of ACK that has reached the Long Press threshold (R146, R151, R152). -/
def execAckLong (s : State) : Host.Outcome State Fault Refusal :=
  .next (if s.sys.resetHeld then s else s.releaseAck s.cfg.longPress fun _ => State.actAck true)

/-- The prompt after `k` in a list, wrapping from the last to the head (R152). -/
def afterKey (k : PromptKey) (l : List Prompt) : Option PromptKey :=
  match l.dropWhile fun p => decide (p.key ≠ k) with
  | _ :: q :: _ => some q.key
  | _ => l.head?.map Prompt.key

/-- The cursor moves to a displayable prompt. -/
def State.setCursor (k : Option PromptKey) (s : State) : State := s.modPanel fun u => { u with cursor := k }

/-- What a press of NEXT does: a short one moves the cursor on in list order, a long one to its head (R152). -/
def State.actNext (isLong : Bool) (k : PromptKey) (s : State) : State :=
  s.setCursor (if isLong then s.displayable.head?.map Prompt.key else afterKey k s.displayable)

/-- NEXT_SHORT: the release of a press of NEXT, 30 ms after its edge or later (R151, R152). -/
def execNextShort (s : State) : Host.Outcome State Fault Refusal :=
  .next (if s.sys.resetHeld then s else s.releaseNext 30 State.actNext)

/-- NEXT_LONG: the release of a press of NEXT that has reached the Long Press threshold (R151, R152). -/
def execNextLong (s : State) : Host.Outcome State Fault Refusal :=
  .next (if s.sys.resetHeld then s else s.releaseNext s.cfg.longPress fun _ => State.actNext true)

/-! ## The door -/

/-- The name of the DOOR_LONG prompt. -/
def doorLong : PromptKey := { cls := .doorLong, subject := .door }

/-- A door opening: DOOR_OPEN, the allowance stands, the DOOR report, the Door Limit timer (R14, R71, R155). A HANDOFF that stands in the
Transmit Queue stays there (log entry 54). -/
def State.openDoor (s : State) : State :=
  (((s.freezeOrder).modInv fun i => { i with bay := .doorOpen }).modPanel fun u =>
    { u with doorIsOpen := true, doorLimitEnd := some (s.sys.clock + 60000 * s.cfg.doorLimit), doorExpired := false }).report (.door true)

/-- DOOR_LONG leaves the list and the Deferred Causes at the closing (R155). -/
def State.doorLongGone (s : State) : State :=
  let t := s.modPanel fun u => { u with deferred := u.deferred.filter fun c => decide (c.cls ≠ .doorLong) }
  match t.findPrompt doorLong with
  | none => t
  | some p => if p.state = .settling then t.withdrawPrompt doorLong else t.leavePrompt doorLong

/-- A door closing: AUDIT with AUDIT_NEEDED, the DOOR report, the timer stopped (R14, R71, R155). -/
def State.closeDoor (s : State) : State :=
  let t := ((s.thawOrder).modInv fun i => { i with bay := .audit }).report .auditNeeded
  let t := (t.modPanel fun u => { u with doorIsOpen := false, doorLimitEnd := none, doorExpired := false }).report (.door false)
  t.doorLongGone.push .issue

/-- DOOR_CHANGE: a level that has held for 50 ms and differs from the last one delivered (R155). -/
def execDoorChange (isOpen : Bool) (s : State) : Host.Outcome State Fault Refusal :=
  .next (if s.sys.resetHeld ∨ s.panel.doorIsOpen = isOpen then s
    else (s.withCondition (if isOpen then State.openDoor else State.closeDoor)).settle)

/-- DOOR_LIMIT_EXPIRY: a DOOR_LONG cause, kept in INIT until START (R155). -/
def execDoorLimitExpiry (s : State) : Host.Outcome State Fault Refusal :=
  .next (match s.panel.doorLimitEnd with
    | none => s
    | some e =>
      (((s.reach e).modPanel fun u => { u with doorLimitEnd := none, doorExpired := true }).raisePlain .doorLong .door).settle)

/-! ## Settling and age -/

/-- SETTLE_END: a SETTLING prompt is SHOWN (R144). -/
def execSettleEnd (cls : PromptClass) (subject : Subject) (s : State) : Host.Outcome State Fault Refusal :=
  .next (match (s.findPrompt { cls := cls, subject := subject }).bind Prompt.settleEnd with
    | none => s
    | some e => ((s.reach e).showPrompt { cls := cls, subject := subject }).settle)

/-- PROMPT_AGE_ESCALATION: a SHOWN prompt whose age has reached the Escalate Time is escalated (R145). -/
def execPromptAgeEscalation (cls : PromptClass) (subject : Subject) (s : State) : Host.Outcome State Fault Refusal :=
  .next (match s.findPrompt { cls := cls, subject := subject } with
    | none => s
    | some p => if p.state = .shown ∧ s.pastAge p = true then (s.escalate p.key).settle else s)

end Sys2Proof.Machine
end

