-- ==== Sys2Proof/Machine/TimeEvents.lean ====
section
/-! DEFINITION. The events of the clock (chapters 1 to 4, 9 to 11). One timed in milliseconds brings the clock to its instant; one timed
in Station Time needs Station Time to have reached it; one whose timer does not run changes nothing (log entries 2, 3, 19). -/

namespace Sys2Proof.Machine

/-! ## Silence, start-up and the second tick -/

/-- Entry to STANDALONE (R138, R185). -/
def State.goAlone (s : State) : State :=
  ((s.withCondition fun s => (s.modSys fun y => { y with mode := .standalone }).modPort fun p =>
    { p with silenceEnd := none }).quietHolds).yieldAlone

/-- SILENCE_TIMER_EXPIRY: the station enters STANDALONE (R185). -/
def execSilenceTimerExpiry (s : State) : Host.Outcome State Fault Refusal :=
  .next (match s.port.silenceEnd with
    | none => s
    | some e => if s.sys.mode = .active then ((s.reach e).goAlone).settle else s)

/-- LISTEN_TIMER_EXPIRY: a PRESENCE JOINING is asked; in DUPLICATE it is Undelivered, and the station enters ACTIVE (R196). -/
def execListenTimerExpiry (s : State) : Host.Outcome State Fault Refusal :=
  .next (match s.sys.listenEnd with
    | none => s
    | some e =>
      let t := (s.reach e).modSys fun y => { y with listenEnd := none }
      if t.sys.mode ≠ .joining then t
      else if t.permits .presence then (t.askPresence .joining).settle
      else t.enterActive.settle)

/-- The Accounting Unit's and the Drive Unit's work at a tick of JOINING, ACTIVE or STANDALONE (R38, R159, R160, R164). -/
def State.countTick (s : State) : State :=
  let O := s.occupancy
  let b := bandOf s.cfg O
  (s.modAcct (Acct.countBand O b)).modDrv fun u => { u with drives := u.drives.map (Drive.tick b) }

/-- A second tick: Station Time, the bands, the sessions, the stale timer (R158, R159, R175). -/
def State.tick (s : State) : State :=
  let t := if s.sys.mode = .init then s else s.countTick
  t.modAcct fun a =>
    { a with stationTime := satAdd Config.max32 a.stationTime 1, nextSecond := a.nextSecond.map fun n => n + 1000,
             staleLeft := if a.closed = [] then a.staleLeft else a.staleLeft - 1 }

/-- SECOND_TICK (R158). -/
def execSecondTick (s : State) : Host.Outcome State Fault Refusal :=
  .next (match s.acct.nextSecond with
    | none => s
    | some n => (s.reach n).tick)

/-- The expiry of the stale timer: a STALE report, and the timer is preset (R175). -/
def State.stale (s : State) : State :=
  match s.acct.closed with
  | [] => s
  | c :: _ =>
    if s.acct.staleLeft = 0 then
      (s.report (.stale s.acct.closed.length c.finish)).modAcct fun a => { a with staleLeft := 60 * s.cfg.sessionStaleTime }
    else s

/-- STALE_TIMER_EXPIRY (R175). -/
def execStaleTimerExpiry (s : State) : Host.Outcome State Fault Refusal := .next s.stale

/-! ## Drives and reels -/

/-- Station Time has reached an optional time. -/
def State.due (t : Option Nat) (s : State) : Bool := t.any fun n => decide (n ≤ s.acct.stationTime)

/-- GRACE_EXPIRY: the drive goes to IDLE_LOADED (R32). -/
def execGraceExpiry (drive : Nat) (s : State) : Host.Outcome State Fault Refusal :=
  .next (match s.findDrive drive with
    | none => s
    | some x => if x.state = .grace ∧ s.due x.graceExpiry = true then (s.driveToIdle drive).settle else s)

/-- The end of a cleaning run (R34). -/
def State.endCleaning (d : Nat) (x : Drive) (s : State) : State :=
  (((s.updDrive d Drive.cleaned).countPass (x.loaded.getD [])).closeCleaning d false).driveToIdle d

/-- CLEANING_END (R34). -/
def execCleaningEnd (drive : Nat) (s : State) : Host.Outcome State Fault Refusal :=
  .next (match s.findDrive drive with
    | none => s
    | some x => if x.state = .cleaning ∧ s.due x.cleaningEnd = true then (s.endCleaning drive x).settle else s)

/-- RESERVATION_EXPIRY: a TIMED Reservation ends (R8). -/
def execReservationExpiry (volume : Serial) (s : State) : Host.Outcome State Fault Refusal :=
  .next (match (s.findEntry volume).bind Entry.reservation with
    | some { kind := .timed e, .. } => (s.reach e).updEntry volume fun x => { x with reservation := none }
    | _ => s)

/-! ## Requests -/

/-- A request's deadline is armed in its state (R58). -/
def Request.armed (q : Request) : Bool :=
  !q.cancelPending &&
  match q.state with
  | .waiting => true
  | .locating => true
  | .standby => true
  | .claiming => true
  | .hopping => true
  | .moving => true
  | .operator => true
  | .forwarded => true
  | .mounted => false
  | .remoteMounted => false
  | .cancelling => false

/-- A request becomes Late: its LATE report, and its prompt escalates (R58, R145). -/
def State.becomeLate (q : Request) (s : State) : State :=
  let t := s.updReq q.req fun q => { q with late := true }
  let t := if q.role = .takenIn then t else t.reqReport q .late
  match t.promptOf q.req with
  | some p => t.escalate p.key
  | none => t

/-- DEADLINE_PASSED (R57, R58). -/
def execDeadlinePassed (r : ReqNo) (s : State) : Host.Outcome State Fault Refusal :=
  .next (match s.findReq r with
    | none => s
    | some q =>
      if q.armed ∧ q.late = false ∧ s.due q.deadline = true then
        (if q.lineWait ∧ s.sys.mode = .standalone then s.failRequest r .standalone else s.becomeLate q).settle
      else s)

/-- A receiver-side hop lapses: a taken-in record leaves without an end, a converted one is a proxy again, its Hop still 1 (R8, R52; log
entry 91). -/
def State.hopLapse (q : Request) (s : State) : State :=
  let t := (((s.endReservations q.req).releaseDrivesOf q.req).dropArrival q.req).dropAsker (.request q.req)
  if q.role = .takenIn then t.delReq q.req
  else t.updReq q.req fun q =>
    { q with role := .proxy, state := .forwarded, drive := none, hopExpiry := none, phase := .none,
             forwardDue := some (t.acct.stationTime + t.cfg.forwardCheckInterval) }

/-- HOP_EXPIRY (R52). -/
def execHopExpiry (r : ReqNo) (s : State) : Host.Outcome State Fault Refusal :=
  .next (match s.findReq r with
    | none => s
    | some q => if q.state = .hopping ∧ s.due q.hopExpiry = true then (s.hopLapse q).settle else s)

/-- The forward check of a proxy: a RELEASE or an ASK, where the line permits its kind (R114). -/
def State.forward (q : Request) (s : State) : State :=
  let t := s.updReq q.req fun q => { q with forwardDue := some (s.acct.stationTime + s.cfg.forwardCheckInterval) }
  match q.server, q.releaseUnsent, q.release with
  | some p, true, some k => if t.permits .release then t.sendRelease p q.req k else t
  | some p, _, _ => if t.permits .ask then t.send (.ask { server := p, req := q.req }) else t
  | none, _, _ => t

/-- FORWARD_CHECK (R114). -/
def execForwardCheck (r : ReqNo) (s : State) : Host.Outcome State Fault Refusal :=
  .next (match s.findReq r with
    | none => s
    | some q =>
      if q.role = .proxy ∧ s.due q.forwardDue = true ∧ (s.sys.mode = .active ∨ s.sys.mode = .standalone) then (s.forward q).settle else s)

/-! ## Orders -/

/-- An order is slow: Slow is set, and an ORDER_SLOW report is queued (R71). -/
def State.slow (o : Order) (s : State) : State :=
  match s.arm.current with
  | none => s
  | some m =>
    (s.modArm fun a => { a with inFlight := a.inFlight.map fun o => { o with slow := true } }).report
      (.orderSlow o.number o.kind m.kind o.volume m.req)

/-- ORDER_SLOW: Elapsed reaches the Expected Time (R71). -/
def execOrderSlow (s : State) : Host.Outcome State Fault Refusal :=
  .next (match s.arm.inFlight with
    | none => s
    | some o =>
      match o.reaches (expectedMs s.cfg o.route) with
      | none => s
      | some e => if o.slow then s else (s.reach e).slow o)

/-- An order times out, taken as a fault TIMED_OUT (R71, R73). -/
def State.timeOut (o : Order) (s : State) : State :=
  let t := (if o.slow then s else s.slow o).answered o
  match t.arm.current with
  | none => t
  | some m => (t.orderFails o m .retryable).examineAlone

/-- ORDER_TIMEOUT: Elapsed reaches the Limit (R71). -/
def execOrderTimeout (s : State) : Host.Outcome State Fault Refusal :=
  .next (match s.arm.inFlight with
    | none => s
    | some o =>
      match o.reaches (limitMs s.cfg o.route) with
      | none => s
      | some e => ((s.reach e).timeOut o).settle)

/-- RETRY_PAUSE_END: the order is issued again under a new number, when it may be (R73). -/
def execRetryPauseEnd (s : State) : Host.Outcome State Fault Refusal :=
  .next (match s.arm.retryEnd with
    | none => s
    | some e => (((s.reach e).modArm fun a => { a with retryEnd := none }).push .issue).settle)

end Sys2Proof.Machine
end

