-- ==== Sys2Proof/Machine/Dispatch.lean ====
section
/-! DEFINITION. One arm for each command: its effect on everything but the queue of waiting commands. -/

namespace Sys2Proof.Machine

/-- The effect of a command on everything but the queue. -/
def exec (i : Instr) (s : State) : Host.Outcome State Fault Refusal :=
  match i with
  | .powerOnReset => Sys2Proof.Machine.execPowerOnReset s
  | .setStartup x field value => Sys2Proof.Machine.execSetStartup x field value s
  | .loadDrive x address cls position => Sys2Proof.Machine.execLoadDrive x address cls position s
  | .loadReel x a => Sys2Proof.Machine.execLoadReel x a s
  | .start x => Sys2Proof.Machine.execStart x s
  | .mount x a => Sys2Proof.Machine.execMount x a s
  | .dismount x r errors => Sys2Proof.Machine.execDismount x r errors s
  | .cancel x r => Sys2Proof.Machine.execCancel x r s
  | .queryRequest x r => Sys2Proof.Machine.execQueryRequest x r s
  | .takeOrder x => Sys2Proof.Machine.execTakeOrder x s
  | .orderDone x number ring => Sys2Proof.Machine.execOrderDone x number ring s
  | .orderFault x number reason => Sys2Proof.Machine.execOrderFault x number reason s
  | .labelRead x cell content => Sys2Proof.Machine.execLabelRead x cell content s
  | .slotReport x slot content => Sys2Proof.Machine.execSlotReport x slot content s
  | .endAudit x => Sys2Proof.Machine.execEndAudit x s
  | .driveOffline x address => Sys2Proof.Machine.execDriveOffline x address s
  | .driveOnline x address => Sys2Proof.Machine.execDriveOnline x address s
  | .readReel x volume slot cell => Sys2Proof.Machine.execReadReel x volume slot cell s
  | .readDrive x address => Sys2Proof.Machine.execReadDrive x address s
  | .takeSession x => Sys2Proof.Machine.execTakeSession x s
  | .readAccount x account => Sys2Proof.Machine.execReadAccount x account s
  | .clearAccount x account => Sys2Proof.Machine.execClearAccount x account s
  | .readBands x => Sys2Proof.Machine.execReadBands x s
  | .readLost x => Sys2Proof.Machine.execReadLost x s
  | .readLine x station => Sys2Proof.Machine.execReadLine x station s
  | .clearRetry x => Sys2Proof.Machine.execClearRetry x s
  | .takeReport x => Sys2Proof.Machine.execTakeReport x s
  | .readStatus x => Sys2Proof.Machine.execReadStatus x s
  | .resume x => Sys2Proof.Machine.execResume x s
  | .restart x => Sys2Proof.Machine.execRestart x s
  | .undefinedCommandCode x code => Sys2Proof.Machine.execUndefinedCommandCode x code s
  | .faultedTransfer => Sys2Proof.Machine.execFaultedTransfer s
  | .silenceTimerExpiry => Sys2Proof.Machine.execSilenceTimerExpiry s
  | .buttonPress b => Sys2Proof.Machine.execButtonPress b s
  | .ackShort => Sys2Proof.Machine.execAckShort s
  | .ackLong => Sys2Proof.Machine.execAckLong s
  | .nextShort => Sys2Proof.Machine.execNextShort s
  | .nextLong => Sys2Proof.Machine.execNextLong s
  | .doorChange isOpen => Sys2Proof.Machine.execDoorChange isOpen s
  | .doorLimitExpiry => Sys2Proof.Machine.execDoorLimitExpiry s
  | .secondTick => Sys2Proof.Machine.execSecondTick s
  | .graceExpiry drive => Sys2Proof.Machine.execGraceExpiry drive s
  | .cleaningEnd drive => Sys2Proof.Machine.execCleaningEnd drive s
  | .deadlinePassed r => Sys2Proof.Machine.execDeadlinePassed r s
  | .hopExpiry r => Sys2Proof.Machine.execHopExpiry r s
  | .forwardCheck r => Sys2Proof.Machine.execForwardCheck r s
  | .promptAgeEscalation cls subject => Sys2Proof.Machine.execPromptAgeEscalation cls subject s
  | .staleTimerExpiry => Sys2Proof.Machine.execStaleTimerExpiry s
  | .reservationExpiry volume => Sys2Proof.Machine.execReservationExpiry volume s
  | .orderSlow => Sys2Proof.Machine.execOrderSlow s
  | .orderTimeout => Sys2Proof.Machine.execOrderTimeout s
  | .retryPauseEnd => Sys2Proof.Machine.execRetryPauseEnd s
  | .settleEnd cls subject => Sys2Proof.Machine.execSettleEnd cls subject s
  | .frameSendStart => Sys2Proof.Machine.execFrameSendStart s
  | .contentionLost => Sys2Proof.Machine.execContentionLost s
  | .transmitFault => Sys2Proof.Machine.execTransmitFault s
  | .attemptWitnessed => Sys2Proof.Machine.execAttemptWitnessed s
  | .attemptUnwitnessed => Sys2Proof.Machine.execAttemptUnwitnessed s
  | .detachedRecovery => Sys2Proof.Machine.execDetachedRecovery s
  | .badFrame => Sys2Proof.Machine.execBadFrame s
  | .brokenOffFrame => Sys2Proof.Machine.execBrokenOffFrame s
  | .presenceHeard sender b => Sys2Proof.Machine.execPresenceHeard sender b s
  | .peerAbsent station => Sys2Proof.Machine.execPeerAbsent station s
  | .presenceTimerExpiry => Sys2Proof.Machine.execPresenceTimerExpiry s
  | .seekHeard sender b => Sys2Proof.Machine.execSeekHeard sender b s
  | .haveHeard sender b => Sys2Proof.Machine.execHaveHeard sender b s
  | .windowClose r => Sys2Proof.Machine.execWindowClose r s
  | .settleReseek r => Sys2Proof.Machine.execSettleReseek r s
  | .placeHeard sender b => Sys2Proof.Machine.execPlaceHeard sender b s
  | .viaHatchPlaceHeard sender b => Sys2Proof.Machine.execViaHatchPlaceHeard sender b s
  | .placedHeard sender b => Sys2Proof.Machine.execPlacedHeard sender b s
  | .refusedHeard sender b => Sys2Proof.Machine.execRefusedHeard sender b s
  | .placeWaitEnd r => Sys2Proof.Machine.execPlaceWaitEnd r s
  | .followUpWaitEnd r => Sys2Proof.Machine.execFollowUpWaitEnd r s
  | .hopPlaceWaitEnd r => Sys2Proof.Machine.execHopPlaceWaitEnd r s
  | .outcomeHeard sender b => Sys2Proof.Machine.execOutcomeHeard sender b s
  | .releaseHeard sender b => Sys2Proof.Machine.execReleaseHeard sender b s
  | .askHeard sender b => Sys2Proof.Machine.execAskHeard sender b s
  | .stateHeard sender b => Sys2Proof.Machine.execStateHeard sender b s
  | .holdHeard sender b => Sys2Proof.Machine.execHoldHeard sender b s
  | .yieldHeard sender b => Sys2Proof.Machine.execYieldHeard sender b s
  | .handoffHeard sender b => Sys2Proof.Machine.execHandoffHeard sender b s
  | .listenTimerExpiry => Sys2Proof.Machine.execListenTimerExpiry s
  | .resetRelease => Sys2Proof.Machine.execResetRelease s

end Sys2Proof.Machine
end

