-- ==== Sys2Proof/Machine/Idle.lean ====
section
/-! DEFINITION. What the station does while no command waits: one millisecond of the reference clock passes, and the timer events that
are due join the queue (log entry 1). -/

namespace Sys2Proof.Machine

/-- An event timed in milliseconds that is due. -/
def State.dueMs (o : Option Nat) (e : Instr) (s : State) : List Instr := if o.any fun t => decide (t ≤ s.sys.clock) then [e] else []

/-- An event that stands when a test holds. -/
def whenDue (b : Bool) (e : Instr) : List Instr := if b then [e] else []

/-- The events of the whole station that are due: the presence timer before those that start it anew (R101). -/
def State.dueStation (s : State) : List Instr :=
  s.dueMs s.acct.nextSecond .secondTick ++ s.dueMs s.line.presenceEnd .presenceTimerExpiry ++
  (if s.sys.mode = .active then s.dueMs s.port.silenceEnd .silenceTimerExpiry else []) ++
  s.dueMs s.sys.listenEnd .listenTimerExpiry ++
  s.dueMs s.panel.doorLimitEnd .doorLimitExpiry ++ s.dueMs s.arm.retryEnd .retryPauseEnd ++
  (if s.line.state = .detached then s.dueMs s.line.quietEnd .detachedRecovery else []) ++
  whenDue (decide (s.acct.closed ≠ []) && decide (s.acct.staleLeft = 0)) .staleTimerExpiry

/-- The events of the order in flight that are due (R71). -/
def State.dueOrder (s : State) : List Instr :=
  match s.arm.inFlight with
  | none => []
  | some o =>
    (if o.slow then [] else s.dueMs (o.reaches (expectedMs s.cfg o.route)) .orderSlow) ++
      s.dueMs (o.reaches (limitMs s.cfg o.route)) .orderTimeout

/-- The events of the peers, prompts, drives and reels that are due. -/
def State.dueRecords (s : State) : List Instr :=
  ((List.range 8).map fun p => if s.isPresent p then s.dueMs (s.rosterAt p).absentAt (.peerAbsent p) else []).flatten ++
  (s.panel.prompts.map fun p => s.dueMs p.settleEnd (.settleEnd p.cls p.subject) ++
    whenDue (decide (p.state = .shown) && !p.escalated && s.pastAge p) (.promptAgeEscalation p.cls p.subject)).flatten ++
  (s.drv.drives.map fun x => whenDue (decide (x.state = .grace) && s.due x.graceExpiry) (.graceExpiry x.address) ++
    whenDue (decide (x.state = .cleaning) && s.due x.cleaningEnd) (.cleaningEnd x.address)).flatten ++
  (s.inv.entries.map fun e => match e.reservation with
    | some { kind := .timed t, .. } => s.dueMs (some t) (.reservationExpiry e.volume)
    | _ => []).flatten

/-- The events of one request that are due. -/
def State.dueRequest (q : Request) (s : State) : List Instr :=
  whenDue (q.armed && !q.late && s.due q.deadline) (.deadlinePassed q.req) ++
  whenDue (decide (q.state = .hopping) && s.due q.hopExpiry) (.hopExpiry q.req) ++
  whenDue (decide (q.role = .proxy) && s.due q.forwardDue && (decide (s.sys.mode = .active) || decide (s.sys.mode = .standalone)))
    (.forwardCheck q.req) ++
  s.dueMs q.reseekDue (.settleReseek q.req) ++
  match q.phase with
  | .window => s.dueMs q.windowEnd (.windowClose q.req)
  | .placing => s.dueMs q.waitEnd (.placeWaitEnd q.req)
  | .followUp => if q.lineWait then [] else s.dueMs q.waitEnd (.followUpWaitEnd q.req)
  | .hopPlacing => s.dueMs q.waitEnd (.hopPlaceWaitEnd q.req)
  | .seeking => []
  | .none => []

/-- Every timer event that is due. -/
def State.dueEvents (s : State) : List Instr :=
  s.dueStation ++ s.dueOrder ++ s.dueRecords ++ (s.rm.queue.map fun q => s.dueRequest q).flatten

/-- One millisecond passes with no command waiting; while RESET is low nothing does (R192). -/
def State.idle (s : State) : State :=
  if s.sys.resetHeld then s
  else
    let t := s.modSys fun y => { y with clock := y.clock + 1 }
    t.withPending (t.pending ++ t.dueEvents)

end Sys2Proof.Machine
end

