-- ==== Sys2Proof/Machine/Frame.lean ====
section
/-! DEFINITION. The frame of the Station Line: its bits (R82), contention (R86), its time on the line (R81, R82), and who witnesses it
(R84). A line bit is true when recessive. -/

namespace Sys2Proof.Machine

/-- The low `k` bits of a number, the most significant first. -/
def bitsMsb : Nat → Nat → List Bool
  | 0, _ => []
  | k + 1, n => decide (n / 2 ^ k % 2 = 1) :: bitsMsb k n

/-- One bit into the check register: generator x^16 + x^12 + x^5 + 1 (R82). -/
def crcBit (r : BitVec 16) (b : Bool) : BitVec 16 :=
  if xor r.msb b then (r <<< 1) ^^^ 0x1021#16 else r <<< 1

/-- The Check over some bits: the register starts at all ones, and the result is not inverted (R82). -/
def checkOf (l : List Bool) : BitVec 16 := l.foldl crcBit 0xFFFF#16

/-- A dominant keeper after every 8th bit; `k` bits have passed since the last one (R82). -/
def withKeepers : Nat → List Bool → List Bool
  | _, [] => []
  | k, b :: t => if k = 7 then b :: false :: withKeepers 0 t else b :: withKeepers (k + 1) t

/-- Urgency, Sender, Kind, Length and Body (R82). -/
def headAndBody (k : MsgKind) (sender : Nat) (body : List (BitVec 8)) : List Bool :=
  bitsMsb 3 k.urgency ++ bitsMsb 3 sender ++ bitsMsb 4 k.number ++ bitsMsb 5 body.length ++ (body.map fun b => bitsMsb 8 b.toNat).flatten

/-- The bits of a frame as its sender drives them, start bit to End (R82). -/
def frameBits (k : MsgKind) (sender : Nat) (body : List (BitVec 8)) : List Bool :=
  let span := headAndBody k sender body
  [false] ++ withKeepers 0 (span ++ bitsMsb 16 (checkOf span).toNat) ++ [true] ++ List.replicate 7 true

/-- The length of a frame in bits, by the length of its body (R82). -/
def frameLength (bodyBytes : Nat) : Nat := 43 + 9 * bodyBytes

/-- The bit time of a Line Rate given in tens of bit/s, in microseconds (R81). -/
def bitTimeUs (rate : Nat) : Nat := 100000 / rate

/-- A frame and the idle that follows it, in microseconds (R82). -/
def frameTimeUs (rate bodyBytes : Nat) : Nat := (frameLength bodyBytes + 12) * bitTimeUs rate

/-- The Contention field: Urgency, then Sender; the lower wins (R86). -/
def contention (k : MsgKind) (sender : Nat) : Nat := 8 * k.urgency + sender

/-- The station drives the Witness slot of a good frame of another: not in INIT, DETACHED or DUPLICATE (R81, R84, R94, R95). -/
def State.witnesses (s : State) : Bool :=
  decide (s.sys.mode ≠ .init) && decide (s.line.state ≠ .detached) && decide (s.line.state ≠ .duplicate)

end Sys2Proof.Machine
end

