-- ==== Sys2Proof/Machine/Lasting.lean ====
section
/-! DEFINITION. What outlasts the consequences of a command (log entry 4): the parts of the state that no consequence changes, only a
command itself. -/

namespace Sys2Proof.Machine

/-- The parts of the state that no consequence changes. -/
structure Kept where
  sys : Sys
  acct : Acct
  bay : Bay
  cellCount : Nat
  lineState : LineState
  score : Nat
  errors : Nat
  errOverflow : Bool
  roster : List RosterEntry
  presenceEnd : Option Nat
  goodFrames : Nat
  quietEnd : Option Nat
  retryCounter : Nat
  stale : Nat
  lastSeq : Nat
  stray : Nat
  reply : Reply
  frameFault : Bool
  lastHeartbeat : Option Bool
  silenceEnd : Option Nat
  doorIsOpen : Bool
  doorLimitEnd : Option Nat
  doorExpired : Bool
  nextPress : Option Press
  pending : List Instr

/-- The parts of the state that no consequence changes. -/
def State.kept (s : State) : Kept where
  sys := s.sys
  acct := s.acct
  bay := s.inv.bay
  cellCount := s.inv.cells.length
  lineState := s.line.state
  score := s.line.score
  errors := s.line.errors
  errOverflow := s.line.errOverflow
  roster := s.line.roster
  presenceEnd := s.line.presenceEnd
  goodFrames := s.line.goodFrames
  quietEnd := s.line.quietEnd
  retryCounter := s.arm.retryCounter
  stale := s.arm.stale
  lastSeq := s.rm.lastSeq
  stray := s.px.stray
  reply := s.port.reply
  frameFault := s.port.frameFault
  lastHeartbeat := s.port.lastHeartbeat
  silenceEnd := s.port.silenceEnd
  doorIsOpen := s.panel.doorIsOpen
  doorLimitEnd := s.panel.doorLimitEnd
  doorExpired := s.panel.doorExpired
  nextPress := s.panel.nextPress
  pending := s.pending

end Sys2Proof.Machine
end

