-- ==== Sys2Proof/WellFormed.lean ====
section
/-! DEFINITION. Which commands are well formed: their operands are values that the port, the line, the panel and the timers can give.
An operand of a host command that its owning rule refuses BAD_VALUE is well formed. -/

namespace Sys2Proof

open Sys2Proof.Machine

/-- A transfer's Part and count (R179). -/
def Xfer.ok (x : Xfer) : Bool := decide (x.part ≤ 7) && decide (x.count ≤ 15)

/-- A number fits one data word (R180). -/
def oneWord (n : Nat) : Bool := decide (n < 32768)

/-- A number fits two data words (R180). -/
def twoWords (n : Nat) : Bool := decide (n < 1073741824)

/-- An optional number fits one data word. -/
def optWord (o : Option Nat) : Bool := o.all oneWord

/-- Six characters of 7 bits, as three data words carry them (R180). -/
def sixChars (v : Serial) : Bool := decide (v.length = 6) && v.all fun c => decide (c.toNat < 128)

/-- A request number as two data words carry it. -/
def reqWords (r : ReqNo) : Bool := oneWord r.origin && oneWord r.seq

/-- A position of the list of R20. -/
def listPosition : DrivePos → Bool
  | .loc => true
  | .boundary _ i => decide (i ≤ 1)

/-- The subject that a class takes (R141). -/
def subjectOk (c : PromptClass) (s : Subject) : Bool :=
  match c, s with
  | .shelfFetch, .volume v => serialOk v
  | .ringIn, .volume v => serialOk v
  | .entryFull, .volume v => serialOk v
  | .retireReel, .volume v => serialOk v
  | .misplaced, .volume v => serialOk v
  | .misplaced, .slot n => decide (n ≤ 511)
  | .armAttention, .volume v => serialOk v
  | .armAttention, .drive d => decide (d ≤ 7)
  | .cleanDrive, .drive d => decide (d ≤ 7)
  | .hatchConflict, .hatch _ => true
  | .hatchConflict, .drive d => decide (d ≤ 7)
  | .hatchClear, .hatch _ => true
  | .doorLong, .door => true
  | _, _ => false

/-- A sender's number (R82). -/
def senderOk (n : Nat) : Bool := decide (n ≤ 7)

/-- A volume in three words, when one is given. -/
def optChars (o : Option Serial) : Bool := o.all sixChars

/-- The content of LABEL READ fits its words. -/
def cellWords : Option CellContent → Bool
  | some (.volume v) => sixChars v
  | _ => true

/-- The content of SLOT REPORT fits its words. -/
def slotWords : Option SlotContent → Bool
  | some (.volume v) => sixChars v
  | _ => true

/-- A command is well formed. -/
def Instr.wellFormed : Instr → Bool
  | .powerOnReset => true
  | .setStartup x f v => x.ok && oneWord f && v.all twoWords
  | .loadDrive x a c p => x.ok && oneWord a && oneWord c && p.all listPosition
  | .loadReel x a => x.ok && sixChars a.volume && oneWord a.slot && oneWord a.cls && oneWord a.pool && twoWords a.passes && oneWord a.errors
  | .start x => x.ok
  | .mount x a => x.ok && twoWords a.jobTag && optChars a.volume && optWord a.pool && optWord a.classWish && oneWord a.priority &&
      oneWord a.account && optWord a.minutes
  | .dismount x r n => x.ok && reqWords r && oneWord n
  | .cancel x r => x.ok && reqWords r
  | .queryRequest x r => x.ok && reqWords r
  | .takeOrder x => x.ok
  | .orderDone x n _ => x.ok && oneWord n
  | .orderFault x n _ => x.ok && oneWord n
  | .labelRead x c k => x.ok && oneWord c && cellWords k
  | .slotReport x n k => x.ok && oneWord n && slotWords k
  | .endAudit x => x.ok
  | .driveOffline x a => x.ok && oneWord a
  | .driveOnline x a => x.ok && oneWord a
  | .readReel x v n c => x.ok && optChars v && optWord n && optWord c
  | .readDrive x a => x.ok && oneWord a
  | .takeSession x => x.ok
  | .readAccount x n => x.ok && oneWord n
  | .clearAccount x n => x.ok && oneWord n
  | .readBands x => x.ok
  | .readLost x => x.ok
  | .readLine x n => x.ok && optWord n
  | .clearRetry x => x.ok
  | .takeReport x => x.ok
  | .readStatus x => x.ok
  | .resume x => x.ok
  | .restart x => x.ok
  | .undefinedCommandCode x c => x.ok && (decide (c = 0) || (decide (30 ≤ c) && decide (c ≤ 127)))
  | .faultedTransfer => true
  | .silenceTimerExpiry => true
  | .buttonPress _ => true
  | .ackShort => true
  | .ackLong => true
  | .nextShort => true
  | .nextLong => true
  | .doorChange _ => true
  | .doorLimitExpiry => true
  | .secondTick => true
  | .graceExpiry d => decide (d ≤ 7)
  | .cleaningEnd d => decide (d ≤ 7)
  | .deadlinePassed r => reqOk r
  | .hopExpiry r => reqOk r
  | .forwardCheck r => reqOk r
  | .promptAgeEscalation c s => subjectOk c s
  | .staleTimerExpiry => true
  | .reservationExpiry v => serialOk v
  | .orderSlow => true
  | .orderTimeout => true
  | .retryPauseEnd => true
  | .settleEnd c s => subjectOk c s
  | .frameSendStart => true
  | .contentionLost => true
  | .transmitFault => true
  | .attemptWitnessed => true
  | .attemptUnwitnessed => true
  | .detachedRecovery => true
  | .badFrame => true
  | .brokenOffFrame => true
  | .presenceHeard n b => senderOk n && presenceOk b
  | .peerAbsent n => senderOk n
  | .presenceTimerExpiry => true
  | .seekHeard n b => senderOk n && seekOk b
  | .haveHeard n b => senderOk n && haveOk b
  | .windowClose r => reqOk r
  | .settleReseek r => reqOk r
  | .placeHeard n b => senderOk n && placeOk b && !b.viaHatch
  | .viaHatchPlaceHeard n b => senderOk n && placeOk b && b.viaHatch
  | .placedHeard n b => senderOk n && placedOk b
  | .refusedHeard n b => senderOk n && refusedOk b
  | .placeWaitEnd r => reqOk r
  | .followUpWaitEnd r => reqOk r
  | .hopPlaceWaitEnd r => reqOk r
  | .outcomeHeard n b => senderOk n && outcomeOk b
  | .releaseHeard n b => senderOk n && releaseOk b
  | .askHeard n b => senderOk n && askOk b
  | .stateHeard n b => senderOk n && stateOk b
  | .holdHeard n b => senderOk n && holdOk b
  | .yieldHeard n b => senderOk n && yieldOk b
  | .handoffHeard n b => senderOk n && handoffOk b
  | .listenTimerExpiry => true
  | .resetRelease => true

/-- What the transfer of a host command carries beside its fields (R179); no other command comes in a transfer that is executed. -/
def Instr.xfer : Instr → Option Xfer
  | .powerOnReset => none
  | .setStartup x _ _ => some x
  | .loadDrive x _ _ _ => some x
  | .loadReel x _ => some x
  | .start x => some x
  | .mount x _ => some x
  | .dismount x _ _ => some x
  | .cancel x _ => some x
  | .queryRequest x _ => some x
  | .takeOrder x => some x
  | .orderDone x _ _ => some x
  | .orderFault x _ _ => some x
  | .labelRead x _ _ => some x
  | .slotReport x _ _ => some x
  | .endAudit x => some x
  | .driveOffline x _ => some x
  | .driveOnline x _ => some x
  | .readReel x _ _ _ => some x
  | .readDrive x _ => some x
  | .takeSession x => some x
  | .readAccount x _ => some x
  | .clearAccount x _ => some x
  | .readBands x => some x
  | .readLost x => some x
  | .readLine x _ => some x
  | .clearRetry x => some x
  | .takeReport x => some x
  | .readStatus x => some x
  | .resume x => some x
  | .restart x => some x
  | .undefinedCommandCode x _ => some x
  | .faultedTransfer => none
  | .silenceTimerExpiry => none
  | .buttonPress _ => none
  | .ackShort => none
  | .ackLong => none
  | .nextShort => none
  | .nextLong => none
  | .doorChange _ => none
  | .doorLimitExpiry => none
  | .secondTick => none
  | .graceExpiry _ => none
  | .cleaningEnd _ => none
  | .deadlinePassed _ => none
  | .hopExpiry _ => none
  | .forwardCheck _ => none
  | .promptAgeEscalation _ _ => none
  | .staleTimerExpiry => none
  | .reservationExpiry _ => none
  | .orderSlow => none
  | .orderTimeout => none
  | .retryPauseEnd => none
  | .settleEnd _ _ => none
  | .frameSendStart => none
  | .contentionLost => none
  | .transmitFault => none
  | .attemptWitnessed => none
  | .attemptUnwitnessed => none
  | .detachedRecovery => none
  | .badFrame => none
  | .brokenOffFrame => none
  | .presenceHeard _ _ => none
  | .peerAbsent _ => none
  | .presenceTimerExpiry => none
  | .seekHeard _ _ => none
  | .haveHeard _ _ => none
  | .windowClose _ => none
  | .settleReseek _ => none
  | .placeHeard _ _ => none
  | .viaHatchPlaceHeard _ _ => none
  | .placedHeard _ _ => none
  | .refusedHeard _ _ => none
  | .placeWaitEnd _ => none
  | .followUpWaitEnd _ => none
  | .hopPlaceWaitEnd _ => none
  | .outcomeHeard _ _ => none
  | .releaseHeard _ _ => none
  | .askHeard _ _ => none
  | .stateHeard _ _ => none
  | .holdHeard _ _ => none
  | .yieldHeard _ _ => none
  | .handoffHeard _ _ => none
  | .listenTimerExpiry => none
  | .resetRelease => none

end Sys2Proof
end

