-- ==== Sys2Proof/Safety.lean ====
section
/-! DEFINITION. What holds of the station in every state it reaches, in the terms claims use: a legal Start-Up Block, tables of fixed
size, counters in their ranges, a line state that goes with mode and score, and totals that agree; and the words that several statements share. -/

namespace Sys2Proof.Machine

/-- The Start-Up Block as R193 and R194 keep it: every field in its range, the thresholds in order. -/
structure StartUp.Legal (c : StartUp) : Prop where
  station : c.stationNumber ≤ 7
  slots : 16 ≤ c.slotCount ∧ c.slotCount ≤ 512
  lineRate : c.lineRate = 3125 ∨ c.lineRate = 6250 ∨ c.lineRate = 12500
  presence : 1 ≤ c.presencePeriod ∧ c.presencePeriod ≤ 16
  seek : 50 ≤ c.seekWindow ∧ c.seekWindow ≤ 800 ∧ c.seekWindow % 50 = 0
  grace : c.gracePeriod ≤ 255
  settle : c.promptSettle ≤ 30
  escalate : 1 ≤ c.escalateTime ∧ c.escalateTime ≤ 60
  door : 1 ≤ c.doorLimit ∧ c.doorLimit ≤ 30
  thresholds : 1 ≤ c.b1 ∧ c.b1 ≤ c.b2 ∧ c.b2 ≤ c.b3 ∧ c.b3 ≤ 8
  rates : c.rate0 ≤ 65535 ∧ c.rate1 ≤ 65535 ∧ c.rate2 ≤ 65535 ∧ c.rate3 ≤ 65535
  fees : c.mountFee ≤ 65535 ∧ c.ringFee ≤ 65535 ∧ c.operatorFee ≤ 65535 ∧ c.transferFee ≤ 65535
  retire : 100 ≤ c.retireLimit ∧ c.retireLimit ≤ 65535
  clean : 50 ≤ c.cleanLimit ∧ c.cleanLimit ≤ 4000
  cleaning : 30 ≤ c.cleaningTime ∧ c.cleaningTime ≤ 300
  expected : (5 ≤ c.expSlotDrive ∧ c.expSlotDrive ≤ 120) ∧ (5 ≤ c.expSlotHatch ∧ c.expSlotHatch ≤ 120) ∧
    (5 ≤ c.expEntryAny ∧ c.expEntryAny ≤ 120) ∧ (5 ≤ c.expDriveHatch ∧ c.expDriveHatch ≤ 120)
  margin : c.slowMargin = 25 ∨ c.slowMargin = 50 ∨ c.slowMargin = 100 ∨ c.slowMargin = 200
  pause : c.retryPause = 2 ∨ c.retryPause = 5 ∨ c.retryPause = 15 ∨ c.retryPause = 60
  silence : 1 ≤ c.silenceLimit ∧ c.silenceLimit ≤ 30
  stale : 1 ≤ c.sessionStaleTime ∧ c.sessionStaleTime ≤ 60
  watermark : 1 ≤ c.sessionWatermark ∧ c.sessionWatermark ≤ 48
  press : 800 ≤ c.longPress ∧ c.longPress ≤ 2500 ∧ c.longPress % 100 = 0
  hop : 30 ≤ c.hopTimeout ∧ c.hopTimeout ≤ 600
  forward : 10 ≤ c.forwardCheckInterval ∧ c.forwardCheckInterval ≤ 120

/-- The tables of fixed size: four entry cells (R12), 64 accounts (R170), 8 roster entries (R98), four bands (R160). -/
structure State.FixedTables (s : State) : Prop where
  cells : s.inv.cells.length = 4
  accounts : s.acct.accounts.length = 64
  roster : s.line.roster.length = 8
  ticks : s.acct.bandTicks.length = 4
  entries : s.acct.bandEntries.length = 4

/-- The limited counters that a command changes stay in their ranges. -/
structure State.CountersFit (s : State) : Prop where
  /-- R73 -/
  retry : s.arm.retryCounter ≤ 16
  /-- R72 -/
  stale : s.arm.stale ≤ 65535
  /-- R42 -/
  lastSeq : s.rm.lastSeq ≤ 255
  /-- R103 -/
  stray : s.px.stray ≤ 65535
  /-- R91 -/
  score : s.line.score ≤ 127
  /-- R97 -/
  errors : s.line.errors ≤ 255
  /-- R173 -/
  sessionsLost : s.acct.sessionsLost ≤ 255
  /-- R158 -/
  stationTime : s.acct.stationTime ≤ 4294967295

/-- The tables and queues keep their bounds, and no two records of a table have one name. -/
structure State.Bounded (s : State) : Prop where
  /-- R40 -/
  requests : s.rm.queue.length ≤ 32
  /-- R40, R42 -/
  numbers : (s.rm.queue.map Request.req).Nodup
  /-- R40, R41 -/
  origins : ∀ q ∈ s.rm.queue, q.role ≠ .takenIn → q.req.origin = s.sys.startup.stationNumber
  /-- R45, R199 -/
  quiet : s.sys.mode = .init → s.rm.queue = []
  /-- R3 -/
  reels : s.inv.entries.length + s.inv.hatchArrivals.length + s.shelfArrivals ≤ 600
  /-- R1 -/
  volumes : (s.inv.entries.map Entry.volume).Nodup
  /-- R2 -/
  slots : (s.inv.entries.filterMap Entry.slot).Nodup
  /-- R20 -/
  drives : s.drv.drives.length ≤ 8
  /-- R20, R21 -/
  addresses : (s.drv.drives.map Drive.address).Nodup ∧ ∀ d ∈ s.drv.drives, d.address ≤ 7
  /-- R67 -/
  moves : s.arm.queue.length ≤ 8
  /-- R89 -/
  messages : s.line.txq.length ≤ 16
  /-- R140 -/
  prompts : s.panel.prompts.length ≤ 16
  /-- R140, R142 -/
  promptNames : (s.panel.prompts.map Prompt.key).Nodup
  /-- R173 -/
  sessions : s.acct.closed.length ≤ 48
  /-- R187 -/
  reports : s.port.reports.length ≤ 32

/-- The line state goes with the mode (R96) and with the score (R91, R92). -/
structure State.LineFits (s : State) : Prop where
  quiet : s.sys.mode = .init → s.line.state = .listen
  joining : s.sys.mode = .joining → s.line.state = .listen ∨ s.line.state = .duplicate
  listening : s.line.state = .listen → s.line.score = 0 ∧ (s.sys.mode = .init ∨ s.sys.mode = .joining)
  clear : s.line.state = .clear → s.line.score < 32
  caution : s.line.state = .caution → 24 ≤ s.line.score ∧ s.line.score < 64
  muted : s.line.state = .muted → 48 ≤ s.line.score ∧ s.line.score < 96

end Sys2Proof.Machine

namespace Sys2Proof.Certificates

open Sys2Proof.Machine

/-! ## What several statements share -/

/-- The station as an accepted transfer leaves it beside its command's effect: the Heartbeat bit taken, a change of it restarting a
running Silence timer (R184), Frame Fault cleared and the reply pending (R181). -/
def answered (x : Xfer) (code : ReplyCode) (words : List Data) (s : State) : State :=
  { s with port :=
    { s.port with
      reply := { heartbeat := x.heartbeat, code := code, words := words }
      frameFault := false
      lastHeartbeat := some x.heartbeat
      silenceEnd := if s.port.lastHeartbeat = some (!x.heartbeat)
        then s.port.silenceEnd.map fun _ => s.sys.clock + 1000 * s.sys.startup.silenceLimit
        else s.port.silenceEnd } }

/-- The pending reply of a command taken, on a state that its transfer has already been accepted in (R181). -/
def okReply (x : Xfer) (s : State) : State :=
  { s with port := { s.port with reply := { heartbeat := x.heartbeat, code := .ok, words := [] } } }

/-- The transfer will be executed: RESET is high, no consequence waits, and the words of the command are there (R180, R192). -/
abbrev Ready (x : Xfer) (least : Nat) (s : State) : Prop := s.sys.resetHeld = false ∧ s.agenda = [] ∧ least ≤ x.count

/-- The transfer asks the last part of a reply with these fields (R181). -/
abbrev AsksLast (x : Xfer) (fields : List Field) : Prop := x.part + 1 = (packParts fields).length

/-- The station takes the host's commands by their owning rules: any mode but STANDALONE (R183). -/
abbrev InService (s : State) : Prop := s.sys.mode ≠ .standalone

/-- The least number of data words of a command (R180): the words of all its fields, by the order its rule lists them. -/
def leastWords : Instr → Nat
  | .setStartup _ _ _ => 4
  | .loadDrive _ _ _ _ => 3
  | .loadReel _ _ => 11
  | .mount _ _ => 11
  | .dismount _ _ _ => 3
  | .cancel _ _ => 2
  | .queryRequest _ _ => 2
  | .orderDone _ _ _ => 2
  | .orderFault _ _ _ => 2
  | .labelRead _ _ _ => 5
  | .slotReport _ _ _ => 5
  | .driveOffline _ _ => 1
  | .driveOnline _ _ => 1
  | .readReel _ _ _ _ => 7
  | .readDrive _ _ => 1
  | .readAccount _ _ => 1
  | .clearAccount _ _ => 1
  | .readLine _ _ => 2
  | _ => 0

/-- The INIT-only commands (R183). -/
def initOnly : Instr → Bool
  | .setStartup _ _ _ => true
  | .loadDrive _ _ _ _ => true
  | .loadReel _ _ => true
  | .start _ => true
  | _ => false

/-- The commands that STANDALONE takes (R183). -/
def takenAlone : Instr → Bool
  | .readStatus _ => true
  | .takeReport _ => true
  | .takeOrder _ => true
  | .orderDone _ _ _ => true
  | .orderFault _ _ _ => true
  | .resume _ => true
  | _ => false

/-- A code that names no command (R180). -/
def unnamed : Instr → Bool
  | .undefinedCommandCode _ _ => true
  | _ => false

/-- The commands that come to the pins of a station in reset: transfers, buttons and the door. -/
def atThePins : Instr → Bool
  | .faultedTransfer => true
  | .buttonPress _ => true
  | .ackShort => true
  | .ackLong => true
  | .nextShort => true
  | .nextLong => true
  | .doorChange _ => true
  | c => c.xfer.isSome

/-- A message of a kind can be queued: the line state and the mode permit it, and the Transmit Queue has room (R89). -/
abbrev CanQueue (k : MsgKind) (s : State) : Prop := s.permits k = true ∧ s.line.txq.length < 16

/-- A message joins the Transmit Queue by its urgency (R89). -/
def queued (m : Msg) (s : State) : State :=
  { s with line := { s.line with txq := insertTx { msg := m, attempts := 0, onLine := false, withdrawn := false, tag := .plain } s.line.txq } }

/-- A request holds no Reservation, drive, arrival reservation, ask, prompt or move. -/
structure HoldsNothing (r : ReqNo) (s : State) : Prop where
  reels : ∀ e ∈ s.inv.entries, ∀ v, e.reservation = some v → v.req ≠ r
  drives : ∀ d ∈ s.drv.drives, d.serving ≠ some (.request r)
  arrivals : r ∉ s.inv.hatchArrivals
  asks : ∀ c ∈ s.claim.records, Asker.request r ∉ c.asks
  prompts : ∀ p ∈ s.panel.prompts, r ∉ p.links
  queuedMoves : ∀ m ∈ s.arm.queue, m.req ≠ some r
  currentMove : ∀ m, s.arm.current = some m → m.req ≠ some r

/-- What the presence timer may do while the rest stays: the parts of the state that no consequence changes, less that timer. -/
def keptButPresence (s : State) : Kept := { s.kept with presenceEnd := none }

/-- A frame of a PRESENT peer will be taken: the mode is ACTIVE, the line CLEAR or CAUTION, the sender another station (R93, R98). -/
structure HearsPeer (p : Nat) (s : State) : Prop where
  mode : s.sys.mode = .active
  line : s.line.state = .clear ∨ s.line.state = .caution
  other : p ≤ 7 ∧ p ≠ s.sys.startup.stationNumber
  present : (s.rosterAt p).state = .present
  idle : s.agenda = []

/-- The sender's roster entry after a good frame of a PRESENT peer: Last Heard, and the absence timer at three of its periods (R98,
R99). -/
def credited (p : Nat) (s : State) : State :=
  let period := match (s.rosterAt p).presence with
    | some b => b.period
    | none => s.sys.startup.presencePeriod
  { s with line := { s.line with roster := s.line.roster.set p { s.rosterAt p with
      lastHeard := some s.acct.stationTime, absentAt := some (s.sys.clock + 3000 * period) } } }

/-- The line state by the table of R92: from the state held and the score, outside LISTEN and DUPLICATE. -/
def lineByScore (held : LineState) (score : Nat) : LineState :=
  if held = .detached ∨ 96 ≤ score then .detached
  else if 64 ≤ score ∨ (held = .muted ∧ 48 ≤ score) then .muted
  else if 32 ≤ score ∨ held = .muted ∨ (held = .caution ∧ 24 ≤ score) then .caution
  else .clear

/-- The line state is one that follows the score (R92). -/
abbrev Scored (s : State) : Prop := s.line.state ≠ .listen ∧ s.line.state ≠ .duplicate

/-- The frame of the message at the head of the Transmit Queue is on the line, an ordinary message not withdrawn, and no other's
(R86, R89). -/
structure HeadOnLine (m : TxMsg) (rest : List TxMsg) (s : State) : Prop where
  queue : s.line.txq = m :: rest
  onLine : m.onLine = true
  others : ∀ n ∈ rest, n.onLine = false
  kept : m.withdrawn = false
  plain : m.tag = .plain

/-- An amount of money in milliunits. -/
def Account.value (a : Account) : Nat := 1000 * a.units + a.milli

/-- A SETTLING prompt without a request joins the end of the Prompt List (R142, R144). -/
def withSettling (cls : PromptClass) (sub : Subject) (detail : Option EntryFullDetail) (s : State) : State :=
  { s with panel := { s.panel with prompts := s.panel.prompts ++
    [{ cls := cls, subject := sub, detail := detail, links := [], state := .settling, raised := s.acct.stationTime,
       settleEnd := some (s.sys.clock + 1000 * s.sys.startup.promptSettle), escalated := false, acks := 0, cellWait := false }] } }

/-- A cause makes a new prompt that settles: outside INIT, with room in the list, no prompt of its name, and a Prompt Settle
(R142 to R144). -/
structure CanRaise (cls : PromptClass) (sub : Subject) (s : State) : Prop where
  mode : s.sys.mode ≠ .init
  room : s.panel.prompts.length < 16
  fresh : s.findPrompt { cls := cls, subject := sub } = none
  settles : s.sys.startup.promptSettle ≠ 0

/-- A move without a request, as it joins the Arm Order Queue (R67). -/
def ownMove (kind : MoveKind) (v : Serial) (source dest : Loc) (s : State) : Move :=
  { kind := kind, req := none, volume := v, source := source, dest := dest, purpose := none, stage := .queued,
    entered := s.acct.stationTime, priority := 8, afterFailure := false }

/-- What the end of a request leaves at once: its record gone, its Reservations, its arrival reservation, its queued moves and its drive
reservation ended (R44). -/
structure Ended (r : ReqNo) (s t : State) : Prop where
  record : t.rm.queue = s.rm.queue.filter fun q => decide (q.req ≠ r)
  reels : t.inv.entries = s.inv.entries.map fun e =>
    if (e.reservation.any fun v => decide (v.req = r)) = true then { e with reservation := none } else e
  arrival : t.inv.hatchArrivals = s.inv.hatchArrivals.erase r
  moves : t.arm.queue = s.arm.queue.filter fun m => decide (m.req ≠ some r)
  current : t.arm.current = s.arm.current
  drives : ∀ d ∈ t.drv.drives, d.serving = some (.request r) → d.state ≠ .reserved ∧ d.state ≠ .loading

/-- The press is judged long at its release, 10 ms steps being counted from its edge up to 65,535 (R151). -/
def judgedLong (since release : Nat) (s : State) : Bool :=
  let steps := min 65535 ((release - since) / 10)
  decide (s.sys.startup.longPress ≤ 10 * steps) || decide (steps = 65535)

/-- The Station Charge Total equals the sum of the accounts while it is not Saturated, and then no account is (R170, R172). -/
def TotalsAgree (s : State) : Prop :=
  s.acct.total.saturated = false →
    (∀ a ∈ s.acct.accounts, a.saturated = false ∧ a.milli ≤ 999) ∧ s.acct.total.milli ≤ 999 ∧ s.acct.total.units ≤ 4294967295 ∧
    (s.acct.accounts.map Account.value).sum = Account.value s.acct.total

/-- The clock stands at `t` or later. -/
def clockAt (t : Nat) (s : State) : State := { s with sys := { s.sys with clock := max s.sys.clock t } }

end Sys2Proof.Certificates
end

