-- ==== Sys2Proof/Certificates/Slice0/Obligations.lean ====
section
/-! DEFINITION. The statements for the provers. A statement on one command gives the state that the command leaves, in the words of
Safety.lean. -/

open Sys2Proof Sys2Proof.Machine Sys2Proof.Certificates

/-! ## The queue of commands, reset and the mode table -/

/-- A step with a command in front of the queue is that command, with the rest of the queue kept waiting. -/
def Obligations.StepRunsTheFrontCommand : Prop :=
  ∀ (c : Instr) (rest : List Instr) (s : State), step (s.withPending (c :: rest)) = exec c (s.withPending rest)

/-- No command stops the station, none touches the queue of waiting commands, and none leaves a consequence for the next one. The model's
own form: log entry 4. -/
def Obligations.EveryCommandRunsToItsEnd : Prop :=
  ∀ (c : Instr) (s : State), s.agenda = [] → ∃ t, exec c s = .next t ∧ t.pending = s.pending ∧ t.agenda = []

/-- With no command waiting a step is one millisecond of the reference clock, and the timer events due at the new time join the
queue; in reset it is nothing. The model's own choice: log entry 1. -/
def Obligations.IdleStepPassesOneMillisecond : Prop :=
  ∀ s : State, s.pending = [] →
    (s.sys.resetHeld = true → step s = .next s) ∧
    (s.sys.resetHeld = false →
      step s = .next { s with sys := { s.sys with clock := s.sys.clock + 1 },
                              pending := { s with sys := { s.sys with clock := s.sys.clock + 1 } }.dueEvents })

/-- R192: what every block holds when RESET rises. -/
def Obligations.ResetHoldsThePowerOnValues : Prop :=
  let s := State.reset
  s.sys.mode = .init ∧ s.line.state = .listen ∧ s.sys.startup = StartUp.powerOn ∧ s.acct.stationTime = 0 ∧
  s.inv.entries = [] ∧ s.drv.drives = [] ∧ s.rm.queue = [] ∧ s.arm.queue = [] ∧ s.line.txq = [] ∧ s.panel.prompts = [] ∧
  s.claim.records = [] ∧ s.port.reports = [] ∧ s.acct.closed = [] ∧
  s.acct.accounts = List.replicate 64 { units := 0, milli := 0, sessions := 0, seconds := 0, saturated := false } ∧
  s.acct.total = { units := 0, milli := 0, sessions := 0, seconds := 0, saturated := false } ∧
  s.arm.retryCounter = 0 ∧ s.arm.stale = 0 ∧ s.arm.lastOrder = 0 ∧ s.rm.lastSeq = 0 ∧ s.px.stray = 0 ∧ s.line.score = 0 ∧
  s.line.errors = 0 ∧ s.panel.suppressed = 0 ∧ s.panel.promptsLost = 0 ∧ s.port.reportsLost = 0 ∧ s.acct.sessionsLost = 0 ∧
  s.drv.remountsSaved = 0 ∧ s.drv.graceYielded = 0 ∧
  s.acct.bandTicks = [0, 0, 0, 0] ∧ s.acct.bandEntries = [0, 0, 0, 0] ∧ s.acct.driveSeconds = 0 ∧ s.acct.peak = 0

/-- R192: POWER_ON_RESET gives every block its power-on values and holds RESET low; RESET_RELEASE lets it rise and changes nothing else;
while RESET is low no transfer is taken, and no button or door acts (the buttons and the door: log entry 9). -/
def Obligations.PowerOnResetAndItsRelease : Prop :=
  (∀ s : State,
    exec .powerOnReset s = .next { State.reset with sys := { State.reset.sys with resetHeld := true }, pending := s.pending } ∧
    exec .resetRelease s = .next { s with sys := { s.sys with resetHeld := false } }) ∧
  (∀ (c : Instr) (s : State), atThePins c = true → s.sys.resetHeld = true → exec c s = .next s)

/-- R183: outside INIT each INIT-only command is answered LOCKED; in STANDALONE every other command but the six taken is answered
NOT_NOW, and so is RESUME in every other mode. None carries data words or changes any state but the port's, which an accepted transfer
changes (R181, R184). -/
def Obligations.TheModeTableRefuses : Prop :=
  (∀ (c : Instr) (x : Xfer) (s : State), c.xfer = some x → Ready x (leastWords c) s →
    (initOnly c = true → s.sys.mode ≠ .init → exec c s = .next (answered x .locked [] s)) ∧
    (initOnly c = false → takenAlone c = false → unnamed c = false → s.sys.mode = .standalone →
      exec c s = .next (answered x .notNow [] s))) ∧
  (∀ (x : Xfer) (s : State), Ready x 0 s → s.sys.mode ≠ .standalone → exec (.resume x) s = .next (answered x .notNow [] s))

/-- R180: a transfer with too few data words, and a code that names no command, are answered BAD_VALUE and change nothing but the port;
R178, R181: a faulted transfer sets Frame Fault and nothing else. How many words LABEL READ, SLOT REPORT and READ REEL need is the model's
reading of R180: log entries 6 and 27. -/
def Obligations.BadTransfersChangeNothingElse : Prop :=
  (∀ (c : Instr) (x : Xfer) (s : State), c.xfer = some x → unnamed c = false → s.sys.resetHeld = false → s.agenda = [] →
    x.count < leastWords c → exec c s = .next (answered x .badValue [] s)) ∧
  (∀ (x : Xfer) (code : Nat) (s : State), s.sys.resetHeld = false →
    exec (.undefinedCommandCode x code) s = .next (answered x .badValue [] s)) ∧
  (∀ s : State, s.sys.resetHeld = false → exec .faultedTransfer s = .next { s with port := { s.port with frameFault := true } })

/-- R181: the parts of a reply carry its fields in order, none split, as many in each part as fit in 14 words. -/
def Obligations.PartsCarryTheFieldsInOrder : Prop :=
  ∀ fields : List Field, (∀ f ∈ fields, f.length ≤ 14) →
    (packParts fields).flatten = fields.flatten ∧ (∀ p ∈ packParts fields, p.length ≤ 14) ∧
    ∃ groups : List (List Field), groups.flatten = fields ∧ groups.map List.flatten = packParts fields ∧
      groups.IsChain fun g h => ∀ f ∈ h.head?, 14 < g.flatten.length + f.length

/-- R181: a Part beyond the reply's last is answered BAD_VALUE and changes no state, and one before the last is answered and changes no
state: shown on TAKE REPORT and TAKE SESSION, which remove what they give. The words of a reply: log entry 6. -/
def Obligations.OnlyTheLastPartTakesEffect : Prop :=
  (∀ (x : Xfer) (s : State) (r : Report) (rest : List Report), Ready x 0 s → s.port.reports = r :: rest →
    (x.part + 1 < (packParts (wReport r)).length → exec (.takeReport x) s = .next (answered x .ok (partOf (wReport r) x.part) s)) ∧
    ((packParts (wReport r)).length ≤ x.part → exec (.takeReport x) s = .next (answered x .badValue [] s))) ∧
  (∀ (x : Xfer) (s : State) (c : ClosedSession) (rest : List ClosedSession), Ready x 0 s → InService s → s.acct.closed = c :: rest →
    (x.part + 1 < (packParts (w1 1 :: wSession c)).length →
      exec (.takeSession x) s = .next (answered x .ok (partOf (w1 1 :: wSession c) x.part) s)) ∧
    ((packParts (w1 1 :: wSession c)).length ≤ x.part → exec (.takeSession x) s = .next (answered x .badValue [] s)))

/-! ## Start-up -/

/-- R193, R194: SET STARTUP stores the legal value, or leaves the field without one, and answers with what the field now holds; a threshold
write answers with all three. An empty Closed Session Queue's timer takes a new Session Stale Time (R175, log entry 37). The words of a
reply: log entry 6. -/
def Obligations.SetStartupStoresOrReads : Prop :=
  ∀ (x : Xfer) (field : Nat) (s : State), Ready x 4 s → s.sys.mode = .init → x.part = 0 →
    (1 ≤ field → field ≤ 38 →
      exec (.setStartup x field none) s = .next (answered x .ok (partOf [w1 field, w2 (s.sys.startup.get field)] 0) s)) ∧
    (∀ v, 1 ≤ field → field ≤ 38 → v ≤ 65535 →
      let c := s.sys.startup.put field v
      let reply := if 12 ≤ field ∧ field ≤ 14 then [w1 field, w2 c.b1, w2 c.b2, w2 c.b3] else [w1 field, w2 (c.get field)]
      exec (.setStartup x field (some v)) s = .next
        { answered x .ok (partOf reply 0) s with
          sys := { s.sys with startup := c }
          acct := { s.acct with staleLeft := if s.acct.closed = [] then 60 * c.sessionStaleTime else s.acct.staleLeft } }) ∧
    (∀ v, field < 1 ∨ 38 < field ∨ 65535 < v → exec (.setStartup x field (some v)) s = .next (answered x .badValue [] s))

/-- R194: the value a field then holds. A plain range clamps, a stepped range is first rounded down, a chosen value is the listed one
nearest to the value given and of two as near the lower, a flag is on for any value but 0; a threshold is clamped to 1..8, then B2 is
raised to B1 and B3 to B2, and none is lowered. No value of a word's range is refused: the block takes what the value is made. -/
def Obligations.ValuesAreMadeLegal : Prop :=
  (∀ (c : StartUp) (v : Nat),
    (∀ k lo hi, (k, lo, hi) ∈ [(1, 0, 7), (2, 16, 512), (6, 1, 16), (8, 0, 255), (9, 0, 30), (10, 1, 60), (11, 1, 30),
        (15, 0, 65535), (16, 0, 65535), (17, 0, 65535), (18, 0, 65535), (19, 0, 65535), (20, 0, 65535), (21, 0, 65535), (22, 0, 65535),
        (23, 100, 65535), (24, 50, 4000), (25, 30, 300), (26, 5, 120), (27, 5, 120), (28, 5, 120), (29, 5, 120), (33, 1, 30), (34, 1, 60),
        (35, 1, 48), (37, 30, 600), (38, 10, 120)] →
      (c.put k v).get k = if v < lo then lo else if hi < v then hi else v) ∧
    (∀ k step lo hi, (k, step, lo, hi) ∈ [(7, 50, 50, 800), (36, 100, 800, 2500)] →
      (c.put k v).get k = if v - v % step < lo then lo else if hi < v - v % step then hi else v - v % step) ∧
    (∀ k l, (k, l) ∈ [(5, [3125, 6250, 12500]), (30, [25, 50, 100, 200]), (31, [2, 5, 15, 60])] →
      (c.put k v).get k ∈ l ∧ ∀ w ∈ l, apart v ((c.put k v).get k) ≤ apart v w ∧
        (apart v ((c.put k v).get k) = apart v w → (c.put k v).get k ≤ w)) ∧
    (∀ k ∈ [3, 4, 32], (c.put k v).get k = if v = 0 then 0 else 1) ∧
    (let n := if v < 1 then 1 else if 8 < v then 8 else v
     (let d := c.put 12 v
      d.b1 = n ∧ d.b2 = max n c.b2 ∧ d.b3 = max d.b2 c.b3) ∧
     (let d := c.put 13 v
      d.b1 = c.b1 ∧ d.b2 = max c.b1 n ∧ d.b3 = max d.b2 c.b3) ∧
     (let d := c.put 14 v
      d.b1 = c.b1 ∧ d.b2 = max c.b1 c.b2 ∧ d.b3 = max d.b2 n))) ∧
  (∀ (x : Xfer) (field v : Nat) (s : State), Ready x 4 s → s.sys.mode = .init → x.part = 0 → 1 ≤ field → field ≤ 38 → v ≤ 65535 →
    ∃ t, exec (.setStartup x field (some v)) s = .next t ∧ t.sys.startup = s.sys.startup.put field v ∧ t.port.reply.code = .ok)

/-- SET STARTUP writes no field but the one named, and the thresholds for a threshold (R193, R194). -/
def Obligations.SetStartupWritesOneField : Prop :=
  ∀ (c : StartUp) (field v other : Nat), field ≠ other → ¬(12 ≤ field ∧ field ≤ 14 ∧ 12 ≤ other ∧ other ≤ 14) →
    (c.put field v).get other = c.get other

/-- R21: LOAD DRIVE makes the record, in its place by address, or is refused BAD_VALUE, and outside INIT LOCKED, and changes nothing. -/
def Obligations.LoadDriveMakesTheRecord : Prop :=
  ∀ (x : Xfer) (address cls : Nat) (p : DrivePos) (s : State), Ready x 3 s → x.part = 0 →
    (s.sys.mode ≠ .init → ∀ q, exec (.loadDrive x address cls q) s = .next (answered x .locked [] s)) ∧
    (let bad := 7 < address ∨ (∃ y ∈ s.drv.drives, y.address = address) ∨ cls < 1 ∨ 4 < cls ∨
        (∃ side i, p = .boundary side i ∧ (1 < i ∨ ∃ y ∈ s.drv.drives, y.position = p))
     let y : Drive :=
       { address := address, cls := cls, position := p, state := .empty, loaded := none, serving := none, graceExpiry := none,
         cleaningEnd := none, cleaningReel := none, cleanDue := false, mounts := 0, mountedSeconds := 0, passesSince := 0,
         cleanings := 0, session := none, cleaningStart := none, parked := false }
     (s.sys.mode = .init → bad → exec (.loadDrive x address cls (some p)) s = .next (answered x .badValue [] s)) ∧
     (s.sys.mode = .init → ¬bad → exec (.loadDrive x address cls (some p)) s = .next (answered x .ok []
       { s with drv := { s.drv with drives := insertDrive y s.drv.drives } }))) ∧
    (s.sys.mode = .init → exec (.loadDrive x address cls none) s = .next (answered x .badValue [] s))

/-- R17: LOAD REEL adds a homed entry, HOME in its slot, with the loaded values; a table without room is FULL; outside INIT it is
LOCKED. -/
def Obligations.LoadReelAddsTheEntry : Prop :=
  ∀ (x : Xfer) (a : LoadReelArgs) (s : State), Ready x 11 s → x.part = 0 →
    (s.sys.mode ≠ .init → exec (.loadReel x a) s = .next (answered x .locked [] s)) ∧
    (s.sys.mode = .init → a.ring = none ∨ a.retired = none → exec (.loadReel x a) s = .next (answered x .badValue [] s)) ∧
    (∀ ring retired, s.sys.mode = .init → a.ring = some ring → a.retired = some retired →
      let bad := serialOk a.volume = false ∨ (∃ e ∈ s.inv.entries, e.volume = a.volume) ∨ 511 < a.slot ∨
        (∃ e ∈ s.inv.entries, e.slot = some a.slot) ∨ a.cls < 1 ∨ 4 < a.cls ∨ 15 < a.pool ∨ 65535 < a.passes ∨ 255 < a.errors
      (bad → exec (.loadReel x a) s = .next (answered x .badValue [] s)) ∧
      (¬bad → s.tableRoom = 0 → exec (.loadReel x a) s = .next (answered x .full [] s)) ∧
      (¬bad → 0 < s.tableRoom → exec (.loadReel x a) s = .next (answered x .ok []
        { s with inv := { s.inv with entries := s.inv.entries ++
          [{ volume := a.volume, home := .here, slot := some a.slot, cls := a.cls, ring := ring,
             pool := if a.pool = 0 then none else some a.pool, passes := a.passes, errors := a.errors, retired := retired,
             unrecorded := false, exitPending := false, state := .home, reservation := none }] } })))

/-- R195: START is refused NOT_NOW for an entry in a slot past the Slot Count, or a left hatch or drive at station 0, or a right one at
station 7; otherwise the station goes to JOINING, its Claim View records are made, its Listen timer starts, the Last Band is absent, and
Station Time goes on or begins (R139, R158, R160, R196). -/
def Obligations.StartJoins : Prop :=
  ∀ (x : Xfer) (s : State), Ready x 0 s → s.sys.mode = .init → x.part = 0 →
    let refused :=
      (∃ e ∈ s.inv.entries, ∃ n, e.slot = some n ∧ s.sys.startup.slotCount ≤ n) ∨
      (s.sys.startup.stationNumber = 0 ∧
        (s.sys.startup.leftHatch = true ∨ ∃ d ∈ s.drv.drives, ∃ i, d.position = .boundary .left i)) ∨
      (s.sys.startup.stationNumber = 7 ∧
        (s.sys.startup.rightHatch = true ∨ ∃ d ∈ s.drv.drives, ∃ i, d.position = .boundary .right i))
    (refused → exec (.start x) s = .next (answered x .notNow [] s)) ∧
    (¬refused → (s.panel.doorIsOpen = false ∨ s.panel.doorExpired = false) →
      exec (.start x) s = .next (answered x .ok []
        { s with sys := { s.sys with mode := .joining, listenEnd := some (s.sys.clock + 2 * (1000 * s.sys.startup.presencePeriod)) },
                 claim := { s.claim with records := s.makeRecords },
                 acct := { s.acct with nextSecond := some (s.acct.nextSecond.getD (s.sys.clock + 1000)), lastBand := none,
                                       lastTick := none } }))

/-! ## Requests of the host -/

/-- R45: MOUNT is answered OK with the new number (R42), and of the parts of the state that no consequence changes it changes only Last
Sequence and the port. In JOINING the request is entered WAITING and reported ACCEPTED (R64), and that is all. In INIT it is NOT_NOW; with
both or neither of volume and pool, or a field out of its range, BAD_VALUE; with 32 records in the queue, FULL; and a refusal changes
nothing, whatever Part is asked (log entry 7). What follows inside the command is worked off in turn: log entry 4. The words of a reply:
log entry 6. -/
def Obligations.MountEntersTheRequest : Prop :=
  (∀ (x : Xfer) (a : MountArgs) (s : State), Ready x 11 s → InService s →
    let bad := a.volume.isSome = a.pool.isSome ∨ (∃ v, a.volume = some v ∧ serialOk v = false) ∨ (∃ p, a.pool = some p ∧ (p < 1 ∨ 14 < p)) ∨
      a.access = none ∨ 65535 < a.jobTag ∨ (∃ c, a.classWish = some c ∧ (c < 1 ∨ 4 < c)) ∨ 7 < a.priority ∨ 63 < a.account ∨
      ∃ m, a.minutes = some m ∧ (m < 1 ∨ 255 < m)
    (s.sys.mode = .init → exec (.mount x a) s = .next (answered x .notNow [] s)) ∧
    (s.sys.mode ≠ .init → bad → exec (.mount x a) s = .next (answered x .badValue [] s)) ∧
    (s.sys.mode ≠ .init → ¬bad → 32 ≤ s.rm.queue.length → exec (.mount x a) s = .next (answered x .full [] s))) ∧
  ∀ (x : Xfer) (a : MountArgs) (want : Want) (access : Access) (s : State), Ready x 11 s → InService s → s.sys.mode ≠ .init → x.part = 0 →
    mountWant a = some want → a.access = some access → mountInRange a = true → s.rm.queue.length < 32 →
    let q := s.newRequest a want access
    (∃ t, exec (.mount x a) s = .next t ∧
      t.kept = { (answered x .ok (partOf [wReq { origin := s.sys.startup.stationNumber, seq := s.newSeq }] 0) s).kept with
        lastSeq := s.newSeq }) ∧
    (s.sys.mode = .joining → exec (.mount x a) s = .next (answered x .ok (partOf [wReq q.req] 0)
      ((({ s with rm := { s.rm with lastSeq := s.newSeq } } : State).addReq q).report (.request q.req a.jobTag .accepted))))

/-- R42: the number given is the first after Last Sequence that no record of this origin carries; 1 follows 255. An accepted MOUNT gives
Last Sequence its value; it is 0 after power-on reset, and RESTART keeps it. -/
def Obligations.NewNumberIsTheFirstFree : Prop :=
  (∀ n, nextSeq n = if n < 255 then n + 1 else 1) ∧
  (∀ s : State, s.rm.queue.length ≤ 32 →
    let after := fun k => nextSeq^[k + 1] s.rm.lastSeq
    let used := fun n => s.rm.queue.any fun q => decide (q.req = { origin := s.sys.startup.stationNumber, seq := n })
    ∃ k, k ≤ 32 ∧ s.newSeq = after k ∧ used (after k) = false ∧ ∀ j, j < k → used (after j) = true) ∧
  (∀ (x : Xfer) (a : MountArgs) (want : Want) (access : Access) (s : State), Ready x 11 s → InService s → s.sys.mode ≠ .init →
    x.part = 0 → mountWant a = some want → a.access = some access → mountInRange a = true → s.rm.queue.length < 32 →
    ∃ t, exec (.mount x a) s = .next t ∧ t.rm.lastSeq = s.newSeq) ∧
  State.reset.rm.lastSeq = 0 ∧ ∀ s : State, s.completeRestart.rm.lastSeq = s.rm.lastSeq

/-- R59, R166 to R169, R173: DISMOUNT of a MOUNTED request, named by a number in its range (R180), closes the session of its drive with the
error count given; the accounts change by that close alone, and of the parts that no consequence changes the port besides. What follows
inside the command is worked off in turn: log entry 4. -/
def Obligations.DismountClosesAndChargesTheSession : Prop :=
  ∀ (x : Xfer) (r : ReqNo) (n : Nat) (q : Request) (d : Nat) (y : Drive) (z : Session) (s : State),
    Ready x 3 s → InService s → x.part = 0 → n ≤ 255 → reqOk r = true → s.findReq r = some q → q.role ≠ .takenIn → q.state = .mounted →
    q.drive = some d →
    s.findDrive d = some y → y.session = some z → z.req = r →
    let closed := closedOf s.sys.startup z q.promptAcks n s.acct.stationTime .host
    ∃ t, exec (.dismount x r n) s = .next t ∧
      t.kept = { (answered x .ok [] s).kept with
        acct := ((s.addCharge z.account closed.charge (z.t0 + z.t1 + z.t2 + z.t3)).offerClosed closed).acct }

/-- R44, R60, R61: what CANCEL does by the state of the request, and what a further one leaves. WAITING, STANDBY, LOCATING, CLAIMING, OPERATOR, a
converted HOPPING record, and MOVING before its GET is issued: the request ends CANCELLED with its report, its claims and its queued moves
with it, and one whose PLACE awaits its answer has RELEASE(cancel) sent to that station. MOVING with the reel in the gripper and a slot
here: Cancel Pending, and the PUT goes to the slot; in the rest of MOVING, and in sender-side HOPPING: Cancel Pending. MOUNTED: the session
closes with error count 0 and is charged. FORWARDED, and REMOTE_MOUNTED with no Release: Release is CANCEL, RELEASE(cancel) is sent,
CANCELLING; REMOTE_MOUNTED with Release DISMOUNT: NOT_NOW. CANCELLING, or with Cancel Pending: no change. R59: DISMOUNT of a REMOTE_MOUNTED
proxy sets its Release and sends RELEASE(dismount) to the server; the request stays as it is. A cancel in a Retry Pause leaves the pause:
log entry 59. What follows inside the command is worked off in turn: log entry 4. -/
def Obligations.CancelAndReleaseByState : Prop :=
  ∀ (x : Xfer) (r : ReqNo) (q : Request) (s : State), Ready x 2 s → InService s → x.part = 0 → reqOk r = true → s.findReq r = some q →
    let taken := answered x .ok [] s
    let pending : Request → Request := fun z => { z with cancelPending := true }
    let ends := q.role ≠ .takenIn ∧ r.origin = s.sys.startup.stationNumber ∧ (s.drv.drives.map Drive.address).Nodup
    (q.cancelPending = false → q.role = .own → r.origin = s.sys.startup.stationNumber → q.state = .waiting → HoldsNothing r s →
      exec (.cancel x r) s = .next (answered x .ok []
        (({ s with rm := { s.rm with queue := s.rm.queue.filter fun p => decide (p.req ≠ r) } } : State).report
          (.request r q.jobTag .cancelled)))) ∧
    (q.cancelPending = false → ends →
      q.state = .waiting ∨ q.state = .standby ∨ q.state = .claiming ∨ q.state = .operator ∨ (q.state = .locating ∧ q.phase ≠ .placing) ∨
        (q.state = .hopping ∧ q.hopExpiry.isSome = true) ∨ (q.state = .moving ∧ ∀ m, s.arm.current = some m → m.req ≠ some r) →
      ∃ u : State, exec (.cancel x r) s = .next u.settle ∧ Ended r s u ∧
        u.port = (taken.report (.request r q.jobTag .cancelled)).port) ∧
    (∀ p, q.cancelPending = false → ends → q.state = .locating → q.phase = .placing → q.placeTarget = some p → CanQueue .release s →
      ∃ u : State, exec (.cancel x r) s = .next u.settle ∧ Ended r s u ∧ u.port = (taken.report (.request r q.jobTag .cancelled)).port ∧
        (HoldsNothing r s → u.line = (queued (.release { server := p, req := r, kind := .cancel }) s).line)) ∧
    (∀ m, q.cancelPending = false → q.role ≠ .takenIn → q.state = .moving → s.arm.current = some m → m.req = some r →
      (m.stage ≠ .putNext ∨ (∀ n, m.source ≠ .slot n ∧ m.source ≠ .entry n) → exec (.cancel x r) s = .next (taken.updReq r pending)) ∧
      (∀ n, m.stage = .putNext → (∃ k, m.source = .slot k ∨ m.source = .entry k) → (s.findEntry m.volume).bind Entry.slot = some n →
        (s.drv.drives.map Drive.address).Nodup →
        ∃ u : State, exec (.cancel x r) s = .next u.settle ∧ u.arm.current = some { m with dest := .slot n, purpose := none } ∧
          u.rm = (s.updReq r fun z => { pending z with drive := none }).rm ∧ u.port = taken.port ∧
          ∀ d ∈ u.drv.drives, d.serving = some (.request r) → d.state ≠ .reserved ∧ d.state ≠ .loading)) ∧
    (q.cancelPending = false → q.role ≠ .takenIn → q.state = .hopping → q.hopExpiry = none →
      exec (.cancel x r) s = .next (taken.updReq r pending)) ∧
    (∀ d y z, q.cancelPending = false → q.role ≠ .takenIn → q.state = .mounted → q.drive = some d → s.findDrive d = some y →
      y.session = some z → z.req = r →
      let closed := closedOf s.sys.startup z q.promptAcks 0 s.acct.stationTime .host
      ∃ t, exec (.cancel x r) s = .next t ∧ t.kept = { taken.kept with
        acct := ((s.addCharge z.account closed.charge (z.t0 + z.t1 + z.t2 + z.t3)).offerClosed closed).acct }) ∧
    (∀ server, q.cancelPending = false → q.role = .proxy → q.state = .forwarded ∨ (q.state = .remoteMounted ∧ q.release = none) →
      q.server = some server → CanQueue .release s →
      exec (.cancel x r) s = .next (answered x .ok []
        (queued (.release { server := server, req := r, kind := .cancel })
          (s.updReq r fun q => { q with release := some .cancel, state := .cancelling })))) ∧
    (∀ n, q.role = .proxy → q.state = .remoteMounted → q.release = some (.dismount n) →
      exec (.cancel x r) s = .next (answered x .notNow [] s)) ∧
    (q.role ≠ .takenIn → q.state = .cancelling ∨ (q.cancelPending = true ∧ (q.state = .moving ∨ q.state = .hopping)) →
      exec (.cancel x r) s = .next taken) ∧
    (∀ n server, 3 ≤ x.count → n ≤ 255 → q.cancelPending = false → q.role = .proxy → q.state = .remoteMounted → q.release = none →
      q.server = some server → CanQueue .release s → exec (.dismount x r n) s = .next (answered x .ok []
        (queued (.release { server := server, req := r, kind := .dismount n }) (s.updReq r fun q => { q with release := some (.dismount n) }))))

/-- R59, R60, R62: DISMOUNT and CANCEL of a request that is not there, or is TAKEN_IN, and QUERY REQUEST of one that is not there, are
refused UNKNOWN_REQUEST; DISMOUNT of one neither MOUNTED nor REMOTE_MOUNTED is NOT_NOW. R180: a number whose origin is above 7, or whose
sequence is outside 1..255, is BAD_VALUE. Each is so whatever Part is asked: log entry 7. -/
def Obligations.RequestsTheHostMayNotName : Prop :=
  ∀ (x : Xfer) (r : ReqNo) (n : Nat) (s : State), Ready x 3 s → InService s → n ≤ 255 →
    (7 < r.origin ∨ r.seq < 1 ∨ 255 < r.seq → ∀ c ∈ [Instr.dismount x r n, .cancel x r, .queryRequest x r],
      exec c s = .next (answered x .badValue [] s)) ∧
    (reqOk r = true → s.findReq r = none →
      exec (.dismount x r n) s = .next (answered x .unknownRequest [] s) ∧ exec (.cancel x r) s = .next (answered x .unknownRequest [] s) ∧
      exec (.queryRequest x r) s = .next (answered x .unknownRequest [] s)) ∧
    (∀ q, reqOk r = true → s.findReq r = some q → q.role = .takenIn →
      exec (.dismount x r n) s = .next (answered x .unknownRequest [] s) ∧
      exec (.cancel x r) s = .next (answered x .unknownRequest [] s)) ∧
    (∀ q, reqOk r = true → s.findReq r = some q → q.role ≠ .takenIn → q.state ≠ .mounted → q.state ≠ .remoteMounted →
      exec (.dismount x r n) s = .next (answered x .notNow [] s))

/-! ## Orders of the arm -/

/-- R70, R71: TAKE ORDER answers with the order in flight, and the first one sets Taken and starts the allowance, which waits for an open
door. The words of a reply, and how many they are: log entries 6 and 8. -/
def Obligations.TakeOrderHandsOutTheOrder : Prop :=
  ∀ (x : Xfer) (o : Order) (s : State), Ready x 0 s → s.sys.mode ≠ .init → x.part = 0 → s.arm.inFlight = some o →
    let fields := [w1 o.number, wOrderKind o.kind, wLoc o.loc, wSerial o.volume, w1 (expectedMs s.sys.startup o.route / 1000)]
    let taken : Order := { o with taken := true, runFrom := if s.inv.bay = .doorOpen then none else some s.sys.clock }
    (o.taken = false → exec (.takeOrder x) s = .next
      { answered x .ok (partOf fields 0) s with arm := { s.arm with inFlight := some taken } }) ∧
    (o.taken = true → exec (.takeOrder x) s = .next (answered x .ok (partOf fields 0) s))

/-- R72: ORDER DONE on a GET of a reel in a slot, whose destination stands and whose request, if the move has one, has no cancel pending
and no ring to be checked: the entry is IN_GRIPPER with the sensed ring, the order is no longer in flight, the move's stage is PUT_NEXT,
and the dispatcher tests for its next order. What follows inside the command is worked off in turn: log entry 4. -/
def Obligations.OrderDoneOnAGet : Prop :=
  ∀ (x : Xfer) (o : Order) (m : Move) (ring : Bool) (n : Nat) (s : State), Ready x 2 s → s.sys.mode = .active → x.part = 0 →
    1 ≤ o.number → o.number ≤ 255 → s.arm.inFlight = some o → o.kind = .get → o.loc = .slot n → s.arm.current = some m → m.source = .slot n →
    s.moveCancelled m = false → s.destStands m = true →
    (m.kind ≠ .mount ∧ m.kind ≠ .entryIn) ∨ ring = true ∨ (∀ r q, m.req = some r → s.findReq r = some q → q.access = .read) →
    exec (.orderDone x o.number (some ring)) s = .next (State.settle (answered x .ok []
      { (s.updEntry m.volume fun e => { e with state := .inGripper, ring := ring, unrecorded := false }) with
        arm := { s.arm with inFlight := none, current := some { m with stage := .putNext } }
        agenda := [.issue] }))

/-- R72: ORDER DONE on a PUT to a slot, of a move without a request: the reel is HOME, the move ends, and cleaning, planning and the
dispatcher follow (R35, R47, R69). R5, R9, R25, R38, R53, R163, R166: ORDER DONE on a PUT to a drive, of a move whose request has no cancel
pending and whose drive is in no dispute: the drive is MOUNTED for the request with the reel loaded, its mounts and passes counted and
Clean Due set at the Clean Limit, a session is open, the reel is ON_DRIVE with one pass more and no Reservation of the request, the request
is MOUNTED, and its MOUNTED report is queued, or the OUTCOME MOUNTED of a TAKEN_IN one sent. What follows inside the command is worked off
in turn: log entry 4. -/
def Obligations.OrderDoneOnAPutToASlot : Prop :=
  (∀ (x : Xfer) (o : Order) (m : Move) (ring : Option Bool) (d : Nat) (r : ReqNo) (q : Request) (y : Drive) (s : State), Ready x 2 s →
    s.sys.mode = .active → x.part = 0 → 1 ≤ o.number → o.number ≤ 255 → s.arm.inFlight = some o → o.kind = .put → o.loc = .drive d →
    s.arm.current = some m → m.dest = .drive d → m.kind ≠ .clean → m.req = some r → s.findReq r = some q → q.cancelPending = false →
    s.findDrive d = some y → (∀ c ∈ s.claim.records, c.concede = false ∧ c.dispute ≠ .conflict ∧ Asker.move m.volume ∉ c.asks) →
    let passes := min 65535 (y.passesSince + 1)
    let session : Session :=
      { req := r, account := q.account, volume := m.volume, drive := s.driveId y, start := s.acct.stationTime, t0 := 0, t1 := 0, t2 := 0,
        t3 := 0, write := decide (q.access = .write), hopped := decide (q.hop = 1), remount := false, timeSaturated := false }
    ∃ u : State, exec (.orderDone x o.number ring) s = .next u.settle ∧
      u.findDrive d = some { y with
        state := .mounted, loaded := some m.volume, serving := some (.request r), graceExpiry := none, mounts := min 4294967295 (y.mounts + 1),
        passesSince := passes, cleanDue := y.cleanDue || decide (s.sys.startup.cleanLimit ≤ passes), session := some session } ∧
      u.inv.entries = s.inv.entries.map (fun e =>
        let e := if e.volume = m.volume then { e with state := .onDrive d, passes := min 65535 (e.passes + 1) } else e
        if (e.reservation.any fun v => decide (v.req = r)) = true then { e with reservation := none } else e) ∧
      u.rm = (s.updReq r fun z => { z with
        state := .mounted, drive := some d, reel := some m.volume, phase := .none, roomWait := none, promptPending := none,
        lineWait := false }).rm ∧
      u.arm = { s.arm with inFlight := none, current := none } ∧ u.acct = s.acct ∧
      (q.role ≠ .takenIn → r.origin = s.sys.startup.stationNumber →
        u.port = ((answered x .ok [] s).report (.request r q.jobTag (.mounted (s.driveId y) (some m.volume)))).port ∧ u.line = s.line) ∧
      (q.role = .takenIn → CanQueue .outcome s →
        u.line = (queued (.outcome { req := r, event := .mounted (s.driveId y) }) s).line)) ∧
  ∀ (x : Xfer) (o : Order) (m : Move) (ring : Option Bool) (n : Nat) (s : State), Ready x 2 s → s.sys.mode = .active → x.part = 0 →
    1 ≤ o.number → o.number ≤ 255 → s.arm.inFlight = some o → o.kind = .put → o.loc = .slot n → s.arm.current = some m → m.dest = .slot n →
    m.req = none → (∀ c ∈ s.claim.records, Asker.move m.volume ∉ c.asks) →
    exec (.orderDone x o.number ring) s = .next (State.settle (answered x .ok []
      { (s.updEntry m.volume fun e => { e with state := .home }) with
        arm := { s.arm with inFlight := none, current := none }
        agenda := [.useEnd, .issue, .reelHome m.volume, .plan] }))

/-- R73: a retryable ORDER FAULT with a retry left ends the order in flight, starts the Retry Pause and raises the Arm Retry Counter; a
rise to 16 queues RETRY_FULL. -/
def Obligations.RetryableFaultStartsThePause : Prop :=
  ∀ (x : Xfer) (o : Order) (m : Move) (reason : FaultReason) (n : Nat) (s : State), Ready x 2 s → s.sys.mode = .active → x.part = 0 →
    1 ≤ o.number → o.number ≤ 255 → s.arm.inFlight = some o → o.loc = .slot n → s.arm.current = some m → s.moveCancelled m = false →
    reason = .blocked ∨ reason = .gripper → s.arm.retryCounter < 16 →
    exec (.orderFault x o.number (some reason)) s = .next (answered x .ok []
      (let t : State := { s with arm := { s.arm with
        inFlight := none, retryEnd := some (s.sys.clock + 1000 * s.sys.startup.retryPause), retryCounter := s.arm.retryCounter + 1 } }
       if s.arm.retryCounter = 15 then t.report (.retryFull o.number m.kind m.volume) else t))

/-- R72: an answer to an order that is not in flight is STALE_ORDER and raises Stale Answers, which saturates; a number outside 1..255
is BAD_VALUE, and an answer of the wrong kind leaves the order in flight. Each is so whatever Part is asked: log entry 7. -/
def Obligations.AnswersThatAreRefused : Prop :=
  ∀ (x : Xfer) (number : Nat) (ring : Option Bool) (reason : FaultReason) (s : State), Ready x 2 s → s.sys.mode ≠ .init →
    (1 ≤ number → number ≤ 255 → (∀ o, s.arm.inFlight = some o → o.number ≠ number) →
      let t := { answered x .staleOrder [] s with arm := { s.arm with stale := min 65535 (s.arm.stale + 1) } }
      exec (.orderDone x number ring) s = .next t ∧ exec (.orderFault x number (some reason)) s = .next t) ∧
    (number < 1 ∨ 255 < number →
      exec (.orderDone x number ring) s = .next (answered x .badValue [] s) ∧
      exec (.orderFault x number (some reason)) s = .next (answered x .badValue [] s)) ∧
    (∀ o, s.arm.inFlight = some o → o.number = number → 1 ≤ number → number ≤ 255 →
      (o.kind = .get → exec (.orderDone x number none) s = .next (answered x .badValue [] s) ∧
        exec (.orderFault x number (some .occupiedDest)) s = .next (answered x .badValue [] s)) ∧
      (o.kind = .put → exec (.orderFault x number (some .emptySource)) s = .next (answered x .badValue [] s)))

/-- R71: an order whose Elapsed reaches the Expected Time is slow, once, and reported; at the Limit it times out, which with a retry left
starts the Retry Pause (R73); at the end of the pause the move whose GET is to be made again has its order issued under a new number (R70).
An event brings the clock to its instant: log entry 2. -/
def Obligations.OrderTimers : Prop :=
  (∀ (o : Order) (m : Move) (since : Nat) (s : State), s.agenda = [] → s.arm.inFlight = some o → s.arm.current = some m →
    o.runFrom = some since →
    (o.slow = false →
      exec .orderSlow s = .next (({ clockAt (since + (expectedMs s.sys.startup o.route - o.counted)) s with
        arm := { s.arm with inFlight := some { o with slow := true } } } : State).report
          (.orderSlow o.number o.kind m.kind o.volume m.req))) ∧
    (o.slow = true → exec .orderSlow s = .next s) ∧
    (∀ n, o.slow = true → o.loc = .slot n → s.moveCancelled m = false → s.arm.retryCounter < 15 → s.sys.mode = .active →
      let t := clockAt (since + (limitMs s.sys.startup o.route - o.counted)) s
      exec .orderTimeout s = .next { t with arm := { s.arm with
        inFlight := none, retryEnd := some (t.sys.clock + 1000 * s.sys.startup.retryPause), retryCounter := s.arm.retryCounter + 1 } })) ∧
  (∀ (e n : Nat) (m : Move) (s : State), s.agenda = [] → s.arm.retryEnd = some e → s.arm.inFlight = none → s.arm.current = some m →
    m.stage = .get → m.source = .slot n → s.sys.mode = .active → s.inv.bay = .normal → (∃ k, m.dest = .slot k ∨ m.dest = .entry k) →
    let number := if s.arm.lastOrder < 255 then s.arm.lastOrder + 1 else 1
    exec .retryPauseEnd s = .next { clockAt e s with
      arm := { s.arm with retryEnd := none, lastOrder := number, current := some { m with stage := .get },
                          inFlight := some { number := number, kind := .get, loc := .slot n, volume := m.volume,
                                             route := routeOf m.source m.dest, taken := false, counted := 0, runFrom := none,
                                             slow := false } } })

/-! ## Cells, slots, reels and drives -/

/-- R13: LABEL READ by the cell's state and the content reported. EMPTY: nothing, an unlabelled reel, a stranger entered in the lowest
free slot with its ENTRY_IN, one without a slot or room (ENTRY_FULL), a MISSING reel come back, one known elsewhere (MISPLACED). OCCUPIED:
found empty (an unlabelled reel, one AT_ENTRY there, a retired one on its way out), its own volume again, or another content in its place
(its reel MISSING, with all that this leads to, and then another known volume MISPLACED). EXPECTING: nothing, the reel of a shelf fetch entered for its request (R56), a reel come
back for its RETURN (R75, R76) or its ring (R55, R148), a retired reel, or another content, by which the expectation moves to the lowest
EMPTY cell or, with none, a SHELF_FETCH is SHOWN again; its arrival reservation still stands when a volume in its place is handled (R3). That
the ENTRY_IN of a reel come back is queued at once, whether or not a MISPLACED
or ARM_ATTENTION prompt stands, is the model's choice: log entry 73; so is that none without a request is queued for
one for which a request waits with its RING_IN not raised, or with its ENTRY_IN without room, which is then asked: log entry 96. A cell above 3 or a serial that is none is BAD_VALUE. Two rows of R13
stand for EXPECTING V with V reported, and the one for its purpose is followed: log entry 48. What follows inside the command is worked off
in turn: log entry 4. -/
def Obligations.LabelReadByCell : Prop :=
  ∀ (x : Xfer) (c : Nat) (s : State), Ready x 5 s → InService s → s.sys.mode ≠ .init → x.part = 0 → c ≤ 3 →
    (s.cellAt c = .empty ∨ (∃ w p, s.cellAt c = .expecting w p) →
      exec (.labelRead x c (some .empty)) s = .next (answered x .ok [] s)) ∧
    (s.cellAt c = .occupied none → exec (.labelRead x c (some .empty)) s = .next (State.settle (answered x .ok []
      { s with inv := { s.inv with cells := s.inv.cells.set c .empty }, agenda := [.cellEmpty] }))) ∧
    (∀ w e, s.cellAt c = .occupied (some w) → s.findEntry w = some e → e.state = .atEntry c →
      (e.retired = false ∨ s.promptStands .retireReel (.volume w) = false →
        exec (.labelRead x c (some .empty)) s = .next (answered x .ok []
          { s with inv := { s.inv with cells := s.inv.cells.set c (.expecting w .ret) } }) ∧
        ((∀ m ∈ s.arm.queue, m.kind = .entryIn → m.purpose = none) →
          ∃ u : State, exec (.labelRead x c (some .noLabel)) s = .next u.settle ∧ u.inv.cells = s.inv.cells.set c (.occupied none) ∧
            u.inv.entries = s.inv.entries.map (fun y => if y.volume = w then { y with state := .missing, reservation := none } else y) ∧
            u.arm.queue = s.arm.queue.filter fun m => !(decide (m.volume = w) && decide (m.kind = .entryIn) && decide (m.source = .entry c)))) ∧
      (e.retired = true → s.promptStands .retireReel (.volume w) = true →
        ∃ u : State, exec (.labelRead x c (some .empty)) s = .next u.settle ∧ u.inv.cells = s.inv.cells.set c .empty ∧
          u.inv.entries = s.inv.entries.filter (fun y => decide (y.volume ≠ w)) ∧
          u.panel.prompts = s.panel.prompts.filter fun p => decide (p.key ≠ { cls := .retireReel, subject := .volume w })) ∧
      (e.retired = true → s.promptStands .retireReel (.volume w) = true →
        ∃ u : State, exec (.labelRead x c (some .noLabel)) s = .next u.settle ∧ u.inv.cells = s.inv.cells.set c (.occupied none) ∧
          u.inv.entries = s.inv.entries.filter (fun y => decide (y.volume ≠ w)) ∧
          u.panel.prompts = s.panel.prompts.filter fun p => decide (p.key ≠ { cls := .retireReel, subject := .volume w }))) ∧
    (∀ w, s.cellAt c = .occupied (some w) → s.findEntry w = none →
      (∀ p, s.findPrompt { cls := .entryFull, subject := .volume w } = some p → ∀ r ∈ p.links, ∀ m ∈ s.arm.queue, m.req ≠ some r) →
      ∃ u : State, exec (.labelRead x c (some .empty)) s = .next u.settle ∧ u.inv.cells = s.inv.cells.set c .empty ∧
        ∀ p ∈ u.panel.prompts, p.key ≠ { cls := .entryFull, subject := .volume w } ∧ p.key ≠ { cls := .misplaced, subject := .volume w }) ∧
    (∀ v, serialOk v = true → s.cellAt c = .empty →
      let there : State := { s with inv := { s.inv with cells := s.inv.cells.set c (.occupied (some v)) } }
      (s.findEntry v = none → s.lowestFreeSlot = none ∨ s.tableRoom = 0 → CanRaise .entryFull (.volume v) s →
        exec (.labelRead x c (some (.volume v))) s = .next (answered x .ok [] (withSettling .entryFull (.volume v) (some (.noSlot c)) there))) ∧
      (∀ e n, s.findEntry v = some e → e.state = .missing → e.slot = some n → s.hasEntryIn v c = false → s.arm.queue.length < 8 →
        ∃ u : State, exec (.labelRead x c (some (.volume v))) s = .next u.settle ∧ u.inv.cells = there.inv.cells ∧
          u.inv.entries = s.inv.entries.map (fun y => if y.volume = v then { y with state := .atEntry c } else y) ∧
          u.arm.queue = insertMove (ownMove .entryIn v (.entry c) (.slot n) s) s.arm.queue) ∧
      (∀ e, s.findEntry v = some e → e.state ≠ .missing → CanRaise .misplaced (.volume v) s →
        exec (.labelRead x c (some (.volume v))) s = .next (answered x .ok [] (withSettling .misplaced (.volume v) none there)))) ∧
    (∀ v p q n, serialOk v = true → s.cellAt c = .expecting v .shelf → s.findEntry v = none → s.lowestFreeSlot = some n →
      s.findPrompt { cls := .shelfFetch, subject := .volume v } = some p → p.links = [q.req] → s.findReq q.req = some q →
      s.hasEntryIn v c = false → s.arm.queue.length < 8 →
      ∃ u : State, exec (.labelRead x c (some (.volume v))) s = .next u.settle ∧ u.inv.cells = s.inv.cells.set c (.occupied (some v)) ∧
        u.inv.entries = s.inv.entries ++
          [{ volume := v, home := .here, slot := some n, cls := 1, ring := false, pool := none, passes := 0, errors := 0,
             retired := false, unrecorded := true, exitPending := false, state := .atEntry c,
             reservation := some { req := q.req, kind := .held } }] ∧
        u.arm.queue = insertMove (ownMove .entryIn v (.entry c) (.slot n) s) s.arm.queue ∧
        u.rm = (s.updReq q.req fun z => { z with
          reel := some v, reelClass := some 1, settleReseek := false, reseekDue := none, located := true, state := .standby, phase := .none,
          windowEnd := none, answers := [] }).rm ∧
        u.panel.prompts = s.panel.prompts.filter fun y => decide (y.key ≠ { cls := .shelfFetch, subject := .volume v })) ∧
    (∀ v e n p, serialOk v = true → s.cellAt c = .expecting v p → p = .ret ∨ p = .ring → s.findEntry v = some e → e.state = .atEntry c →
      e.slot = some n → s.findPrompt { cls := .ringIn, subject := .volume v } = none → s.promptDue .retireReel (.volume v) = false →
      s.cellWaited v = false → s.hasEntryIn v c = false → s.arm.queue.length < 8 →
      ∃ u : State, exec (.labelRead x c (some (.volume v))) s = .next u.settle ∧ u.inv.cells = s.inv.cells.set c (.occupied (some v)) ∧
        u.arm.queue = insertMove (ownMove .entryIn v (.entry c) (.slot n) s) s.arm.queue) ∧
    (∀ v e p q n, serialOk v = true → s.cellAt c = .expecting v p → p = .ret ∨ p = .ring → s.findEntry v = some e → e.state = .atEntry c →
      e.slot = some n → s.findPrompt { cls := .ringIn, subject := .volume v } = none → s.promptDue .retireReel (.volume v) = false →
      s.rm.queue.filter (fun z => decide (z.reel = some v) && decide (z.roomWait = some .entryIn)) = [q] → s.findReq q.req = some q →
      s.arm.queue.length < 8 →
      ∃ u : State, exec (.labelRead x c (some (.volume v))) s = .next u.settle ∧ u.inv.cells = s.inv.cells.set c (.occupied (some v)) ∧
        u.arm.queue = insertMove { ownMove .entryIn v (.entry c) (.slot n) s with req := some q.req, priority := q.priority } s.arm.queue) ∧
    (∀ v p, serialOk v = true → s.cellAt c = .expecting v p → p = .ret ∨ p = .ring → s.cellWaited v = true →
      s.findPrompt { cls := .ringIn, subject := .volume v } = none → (∀ q ∈ s.rm.queue, q.reel = some v → q.roomWait ≠ some .entryIn) →
      ∃ t, exec (.labelRead x c (some (.volume v))) s = .next t ∧ t.inv.cells = s.inv.cells.set c (.occupied (some v)) ∧
        t.arm = s.arm ∧ t.rm = s.rm ∧ t.panel = s.panel) ∧
    (∀ v e p q n, serialOk v = true → s.cellAt c = .expecting v .ring → s.findEntry v = some e → e.state = .atEntry c → e.slot = some n →
      s.findPrompt { cls := .ringIn, subject := .volume v } = some p → p.state = .acked → p.links = [q.req] → s.findReq q.req = some q →
      q.reel = some v → s.arm.queue.length < 8 →
      ∃ u : State, exec (.labelRead x c (some (.volume v))) s = .next u.settle ∧ u.inv.cells = s.inv.cells.set c (.occupied (some v)) ∧
        u.panel.prompts = s.panel.prompts.filter (fun y => decide (y.key ≠ { cls := .ringIn, subject := .volume v })) ∧
        u.arm.queue = insertMove { ownMove .entryIn v (.entry c) (.slot n) s with req := some q.req, priority := q.priority } s.arm.queue) ∧
    (∀ w p, s.cellAt c = .expecting w p →
      (∀ d, s.lowestEmptyCell = some d → (∀ o, s.arm.inFlight = some o → o.loc ≠ .entry c) →
        exec (.labelRead x c (some .noLabel)) s = .next (answered x .ok []
          { s with
            inv := { s.inv with cells := (s.inv.cells.set c (.occupied none)).set d (.expecting w p) }
            arm := { s.arm with queue := s.arm.queue.map (Move.moveCell w c d), current := s.arm.current.map (Move.moveCell w c d) } })) ∧
      (∀ k, p = .shelf → s.lowestEmptyCell = none → s.findPrompt { cls := .shelfFetch, subject := .volume w } = some k →
        s.acct.stationTime - k.raised < 60 * s.sys.startup.escalateTime →
        ∃ t, exec (.labelRead x c (some .noLabel)) s = .next t ∧ t.inv.cells = s.inv.cells.set c (.occupied none) ∧
          t.panel.prompts = s.panel.prompts.map fun y =>
            if y.key = { cls := .shelfFetch, subject := .volume w } then { y with state := .shown } else y)) ∧
    (s.cellAt c = .empty ∨ s.cellAt c = .occupied none →
      exec (.labelRead x c (some .noLabel)) s = .next (answered x .ok []
        { s with inv := { s.inv with cells := s.inv.cells.set c (.occupied none) } })) ∧
    (∀ v, serialOk v = true → s.cellAt c = .expecting v .retire →
      exec (.labelRead x c (some (.volume v))) s = .next (answered x .ok []
        { s with inv := { s.inv with cells := s.inv.cells.set c (.occupied (some v)) } })) ∧
    (∀ v n, serialOk v = true → s.cellAt c = .empty → s.findEntry v = none → s.lowestFreeSlot = some n → 1 ≤ s.tableRoom →
      exec (.labelRead x c (some (.volume v))) s = .next (State.settle (answered x .ok [] (State.queueEntryIn v
        { s with inv := { s.inv with
          cells := s.inv.cells.set c (.occupied (some v))
          entries := s.inv.entries ++
            [{ volume := v, home := .here, slot := some n, cls := 1, ring := false, pool := none, passes := 0, errors := 0,
               retired := false, unrecorded := true, exitPending := false, state := .atEntry c, reservation := none }] } })))) ∧
    (∀ v, s.cellAt c = .occupied (some v) → serialOk v = true → v ∉ s.inv.entryInFailed →
      (∀ p, s.findPrompt { cls := .entryFull, subject := .volume v } = some p → p.state ≠ .acked) →
      exec (.labelRead x c (some (.volume v))) s = .next (answered x .ok [] s)) ∧
    (∀ v w e, s.cellAt c = .occupied (some w) → v ≠ w → serialOk v = true → s.findEntry w = some e → e.state = .atEntry c →
      e.retired = false ∨ s.promptStands .retireReel (.volume w) = false → (∀ m ∈ s.arm.queue, m.kind = .entryIn → m.purpose = none) →
      ∃ u : State, u.inv.cells = s.inv.cells.set c (.occupied none) ∧
        u.inv.entries = s.inv.entries.map (fun z => if z.volume = w then { z with state := .missing, reservation := none } else z) ∧
        u.arm.queue = s.arm.queue.filter (fun m => !(decide (m.volume = w) && decide (m.kind = .entryIn) && decide (m.source = .entry c))) ∧
        u.panel = s.panel ∧
        (let z := u.settle
         ∀ y, z.findEntry v = some y → y.state ≠ .missing → CanRaise .misplaced (.volume v) z →
          exec (.labelRead x c (some (.volume v))) s = .next (okReply x (withSettling .misplaced (.volume v) none
            { z with inv := { z.inv with cells := z.inv.cells.set c (.occupied (some v)) } })))) ∧
    (∀ v w k, serialOk v = true → v ≠ w → s.cellAt c = .expecting w .shelf → s.lowestEmptyCell = none → s.findEntry v = none →
      s.tableRoom = 0 → CanRaise .entryFull (.volume v) s → s.findPrompt { cls := .shelfFetch, subject := .volume w } = some k →
      s.acct.stationTime - k.raised < 60 * s.sys.startup.escalateTime →
      let shown := s.panel.prompts.map fun y => if y.key = { cls := .shelfFetch, subject := .volume w } then { y with state := .shown } else y
      ∃ t, exec (.labelRead x c (some (.volume v))) s = .next t ∧ t.inv.cells = s.inv.cells.set c (.occupied (some v)) ∧
        t.inv.entries = s.inv.entries ∧
        t.panel.prompts = (withSettling .entryFull (.volume v) (some (.noSlot c))
          { s with panel := { s.panel with prompts := shown } }).panel.prompts) ∧
    (∀ k content, 3 < k → exec (.labelRead x k content) s = .next (answered x .badValue [] s)) ∧
    (∀ v, serialOk v = false → exec (.labelRead x c (some (.volume v))) s = .next (answered x .badValue [] s))

/-- R15: SLOT REPORT in AUDIT: what agrees with the table changes nothing, an unknown volume in a free slot is added HOME and Unrecorded, a
HOME reel not found is MISSING, and then another reel in its slot MISPLACED. R16: END AUDIT takes the bay to NORMAL, and of the parts that no consequence changes nothing else but the
port and, where the Condition changes, the presence timer (R101). Outside AUDIT both are NOT_NOW. What follows inside the command is worked
off in turn: log entry 4. -/
def Obligations.TheAuditAndItsEnd : Prop :=
  (∀ (x : Xfer) (s : State), Ready x 0 s → InService s → s.sys.mode ≠ .init → x.part = 0 →
    (s.inv.bay ≠ .audit → exec (.endAudit x) s = .next (answered x .notNow [] s)) ∧
    (s.inv.bay = .audit → ∃ t, exec (.endAudit x) s = .next t ∧
      keptButPresence t = { keptButPresence (answered x .ok [] s) with bay := .normal })) ∧
  ∀ (x : Xfer) (n : Nat) (content : Option SlotContent) (s : State), Ready x 5 s → InService s → s.sys.mode ≠ .init → x.part = 0 →
    (s.inv.bay ≠ .audit → exec (.slotReport x n content) s = .next (answered x .notNow [] s)) ∧
    (s.inv.bay = .audit → n < s.sys.startup.slotCount →
      (s.slotEntry n = none → exec (.slotReport x n (some .empty)) s = .next (answered x .ok [] s)) ∧
      (∀ v, serialOk v = true → s.slotEntry n = none → s.findEntry v = none → 1 ≤ s.tableRoom →
        exec (.slotReport x n (some (.volume v))) s = .next (State.settle (answered x .ok []
          { s with
            inv := { s.inv with entries := s.inv.entries ++
              [{ volume := v, home := .here, slot := some n, cls := 1, ring := false, pool := none, passes := 0, errors := 0,
                 retired := false, unrecorded := true, exitPending := false, state := .home, reservation := none }] }
            agenda := [.plan] }))) ∧
      (∀ e, s.slotEntry n = some e → e.state = .home →
        (serialOk e.volume = true → exec (.slotReport x n (some (.volume e.volume))) s = .next (answered x .ok [] s)) ∧
        (let lost := s.inv.entries.map fun y => if y.volume = e.volume then { y with state := .missing, reservation := none } else y
         (s.rm.queue = [] → exec (.slotReport x n (some .empty)) s = .next (answered x .ok []
           { s with inv := { s.inv with entries := lost } })) ∧
         (∀ v, serialOk v = true → v ≠ e.volume → s.rm.queue = [] → CanRaise .misplaced (.volume v) s →
           exec (.slotReport x n (some (.volume v))) s = .next (answered x .ok [] (withSettling .misplaced (.volume v) none
             { s with inv := { s.inv with entries := lost } }))) ∧
         (∀ v, serialOk v = true → v ≠ e.volume → ∃ u : State, u.inv = { s.inv with entries := lost } ∧ u.rm = s.rm ∧ u.panel = s.panel ∧
           (CanRaise .misplaced (.volume v) u.settle →
             exec (.slotReport x n (some (.volume v))) s = .next (okReply x (withSettling .misplaced (.volume v) none u.settle)))))))

/-- R36, R37: DRIVE OFFLINE and DRIVE ONLINE are NOT_NOW while the order in flight names the drive. DRIVE OFFLINE by the drive's state:
EMPTY and GRACE go OFFLINE, keeping a reel loaded, and a boundary drive held and EMPTY is yielded, whatever other ask stands (R22, R129; log entry 76); RESERVED and LOADING too, the
request back in STANDBY without its move, a MOUNT still queued too (log entry 103), but for a TAKE_IN, queued or waiting for room, which stays (R53, log entry 16), or the CLEAN move
removed, and a reel in the gripper on its way to its slot (R77), its move still serving the request (R67), with no wait for a Retry
Pause of the PUT (log entry 105); MOUNTED closes its session DRIVE_LOST with error count 0 and fails its request
DRIVE_LOST; IDLE_LOADED loses its queued moves; CLEANING closes a cleaning record DRIVE_LOST; OFFLINE does not change. DRIVE ONLINE of an
OFFLINE drive goes to EMPTY without a reel, and to IDLE_LOADED with one, whose STOW is queued; of any other drive it is NOT_NOW. A STOW
begun stays the current move: log entry 58. What follows inside the command is worked off in turn: log entry 4. -/
def Obligations.DrivesGoOfflineAndOnline : Prop :=
  ∀ (x : Xfer) (d : Nat) (y : Drive) (s : State), Ready x 1 s → InService s → s.sys.mode ≠ .init → x.part = 0 → d ≤ 7 →
    s.findDrive d = some y →
    ((∃ o, s.arm.inFlight = some o ∧ o.loc = .drive d) →
      exec (.driveOffline x d) s = .next (answered x .notNow [] s) ∧ exec (.driveOnline x d) s = .next (answered x .notNow [] s)) ∧
    ((∀ o, s.arm.inFlight = some o → o.loc ≠ .drive d) →
      (y.state = .empty ∨ y.state = .grace → (∀ c ∈ s.claim.records, Asker.driveUnit d ∉ c.asks) →
        s.promptStands .cleanDrive (.drive d) = false → y.position = .loc ∨ (y.state = .grace ∧ y.loaded ≠ none) →
        exec (.driveOffline x d) s = .next (State.settle (answered x .ok []
          { s with
            drv := { s.drv with drives := s.drv.drives.map fun z => if z.address = d then
              { z with state := .offline, loaded := if y.state = .empty then none else y.loaded, serving := none, graceExpiry := none,
                       cleaningEnd := none, cleaningReel := none, cleaningStart := none } else z }
            agenda := [.useEnd] }))) ∧
      (∀ res c, y.state = .empty → s.posRes y.position = some res → s.findRec res = some c → c.holder = .self → c.own = .held →
        (∀ z ∈ s.claim.records, Asker.driveUnit d ∉ z.asks) → CanQueue .yield s →
        ∃ u : State, exec (.driveOffline x d) s = .next u.settle ∧
          u.drv.drives = s.drv.drives.map (fun z => if z.address = d then
            { z with state := .offline, loaded := none, serving := none, graceExpiry := none, cleaningEnd := none, cleaningReel := none,
                     cleaningStart := none } else z) ∧
          u.claim.records = s.claim.records.map (fun z => if z.res = res then { z with own := .yielding } else z) ∧
          u.line = (queued (.yield { resource := res, cradle := none }) s).line) ∧
      (y.state = .offline → y.loaded = none →
        exec (.driveOnline x d) s = .next (State.settle (answered x .ok []
          { s with
            drv := { s.drv with drives := s.drv.drives.map fun z => if z.address = d then
              { z with state := .empty, loaded := none, serving := none, cleaningReel := none } else z }
            agenda := [.driveEmpty d, .plan, .issue] }))) ∧
      (∀ v e n, y.state = .offline → y.loaded = some v → y.position = .loc → s.findEntry v = some e → e.home = .here → e.slot = some n →
        e.retired = false → s.hasMove v = false → s.arm.queue.length < 8 →
        exec (.driveOnline x d) s = .next (State.settle (answered x .ok []
          { s with
            drv := { s.drv with drives := s.drv.drives.map fun z => if z.address = d then
              { z with state := .idleLoaded, serving := none, graceExpiry := none, cleaningEnd := none, cleaningStart := none,
                       parked := false } else z }
            arm := { s.arm with queue := insertMove (ownMove .stow v (.drive d) (.slot n) s) s.arm.queue }
            agenda := [.issue] }))) ∧
      (y.state = .offline → s.promptStands .cleanDrive (.drive d) = false → exec (.driveOffline x d) s = .next (answered x .ok [] s)) ∧
      (let off : Option Serial → List Drive := fun l => s.drv.drives.map fun z => if z.address = d then
         { z with state := .offline, loaded := l, serving := none, graceExpiry := none, cleaningEnd := none, cleaningReel := none,
                  cleaningStart := none } else z
       (∀ r q, y.state = .reserved ∨ y.state = .loading → y.serving = some (.request r) → s.findReq r = some q → q.hopExpiry = none →
         q.cancelPending = false →
         (∀ m, s.arm.current = some m → m.dest = .drive d → m.stage = .putNext ∨ m.stage = .put →
           m.req = some r ∧ ∃ e, s.findEntry m.volume = some e ∧ e.home = .here) →
         let t := s.updReq r fun z => { z with
           drive := none, roomWait := if q.roomWait = some .takeIn then some .takeIn else none, state := .standby, phase := .none,
           windowEnd := none, answers := [] }
         ∃ u : State, exec (.driveOffline x d) s = .next u.settle ∧ u.drv = { s.drv with drives := off none } ∧ u.rm = t.rm ∧
           u.arm.queue = s.arm.queue.filter (fun m => decide (m.req ≠ some r) || decide (m.kind = .takeIn)) ∧
           ((∀ m, s.arm.current = some m → m.dest ≠ .drive d) → u.arm.current = s.arm.current) ∧
           ∀ m e n, s.arm.current = some m → m.dest = .drive d → m.stage = .putNext ∨ m.stage = .put → s.findEntry m.volume = some e →
             e.slot = some n → (m.stage = .put → u.arm.retryEnd = none) ∧
               u.arm.current = some { m with dest := .slot n, purpose := none, stage := .putNext }) ∧
       (y.state = .reserved → y.serving = some .cleaning → (∀ m, s.arm.current = some m → m.dest ≠ .drive d) →
         ∃ u : State, exec (.driveOffline x d) s = .next u.settle ∧ u.drv = { s.drv with drives := off none } ∧ u.rm = s.rm ∧
           u.arm.queue = s.arm.queue.filter (fun m => !(decide (m.kind = .clean) && decide (m.dest = .drive d)))) ∧
       (y.state = .idleLoaded →
         ∃ u : State, exec (.driveOffline x d) s = .next u.settle ∧ u.drv = { s.drv with drives := off y.loaded } ∧ u.rm = s.rm ∧
           u.arm.queue = s.arm.queue.filter (fun m => decide (m.source ≠ .drive d)) ∧ u.arm.current = s.arm.current) ∧
       (∀ r q z, y.state = .mounted → y.loaded ≠ none → y.serving = some (.request r) → y.session = some z → z.req = r → s.findReq r = some q →
         q.role ≠ .takenIn → r.origin = s.sys.startup.stationNumber → (∀ w ∈ s.drv.drives, w.serving = some (.request r) → w.address = d) →
         let closed := { closedOf s.sys.startup z q.promptAcks 0 s.acct.stationTime .host with driveLost := true }
         let t := ((answered x .ok [] s).addCharge z.account closed.charge (z.t0 + z.t1 + z.t2 + z.t3)).offerClosed closed
         ∃ u : State, exec (.driveOffline x d) s = .next u.settle ∧ u.acct = t.acct ∧
           u.port = (t.report (.request r q.jobTag (.failed .driveLost))).port ∧
           u.rm.queue = s.rm.queue.filter (fun p => decide (p.req ≠ r)) ∧
           u.drv = { s.drv with drives := (off y.loaded).map fun w => if w.address = d then { w with session := none } else w }) ∧
       (∀ v from_, y.state = .cleaning → y.loaded = some v → y.cleaningStart = some from_ →
         let closed : ClosedSession :=
           { req := none, origin := s.sys.startup.stationNumber, account := 0, volume := v, drive := s.driveId y, start := from_,
             finish := s.acct.stationTime, t0 := 0, t1 := 0, t2 := 0, t3 := 0, charge := 0, errors := 0, promptAcks := 0, write := false,
             hopped := false, remount := false, cleaning := true, restartClosed := false, driveLost := true, timeSaturated := false,
             chargeSaturated := false }
         ∃ u : State, exec (.driveOffline x d) s = .next u.settle ∧ u.drv = { s.drv with drives := off (some v) } ∧ u.rm = s.rm ∧
           u.acct = ((s.addCharge 0 0 0).offerClosed closed).acct)) ∧
      (y.state ≠ .offline → exec (.driveOnline x d) s = .next (answered x .notNow [] s)))

/-- R18, R38, R62: READ REEL by volume, slot or cell, READ DRIVE, and QUERY REQUEST by a number in its range (R180) answer from the tables
and change nothing else. The words of a reply: log entry 6. -/
def Obligations.RecordsAreRead : Prop :=
  ∀ (x : Xfer) (s : State), s.sys.resetHeld = false → s.agenda = [] → InService s →
    (∀ v, 7 ≤ x.count → serialOk v = true →
      let fields := match s.findEntry v with
        | some e => w1 1 :: wEntry e
        | none => [w1 0]
      x.part < (packParts fields).length → exec (.readReel x (some v) none none) s = .next (answered x .ok (partOf fields x.part) s)) ∧
    (∀ n, 7 ≤ x.count → n < s.sys.startup.slotCount → n ≤ 511 →
      let fields := (match s.slotEntry n with
        | some e => w1 1 :: wEntry e
        | none => [w1 0]) ++ [w1 s.freeSlots, w1 s.tableRoom]
      x.part < (packParts fields).length → exec (.readReel x none (some n) none) s = .next (answered x .ok (partOf fields x.part) s)) ∧
    (∀ c, 7 ≤ x.count → c ≤ 3 → x.part < (packParts (wCell (s.cellAt c))).length →
      exec (.readReel x none none (some c)) s = .next (answered x .ok (partOf (wCell (s.cellAt c)) x.part) s)) ∧
    (∀ d, 1 ≤ x.count → d ≤ 7 →
      let fields := (match s.findDrive d with
        | some y => w1 1 :: wDrive y
        | none => [w1 0]) ++ [w3 s.drv.remountsSaved, w3 s.drv.graceYielded]
      x.part < (packParts fields).length → exec (.readDrive x d) s = .next (answered x .ok (partOf fields x.part) s)) ∧
    (∀ r q, 2 ≤ x.count → reqOk r = true → s.findReq r = some q →
      let fields := wRequest q ++ [w1 (s.rm.queue.findIdx (fun p => decide (p.req = r)) + 1)]
      x.part < (packParts fields).length → exec (.queryRequest x r) s = .next (answered x .ok (partOf fields x.part) s))

/-! ## Accounts -/

/-- R174 to R176: the last part of TAKE SESSION takes the oldest record, rearms the watermark below it and presets the stale timer of an
emptied queue; READ LOST zeroes what it gives; the stale timer's expiry reports the oldest record's close and presets the timer. The words
of a reply: log entry 6. -/
def Obligations.ClosedSessionsAreTaken : Prop :=
  (∀ (x : Xfer) (s : State) (c : ClosedSession) (rest : List ClosedSession), Ready x 0 s → InService s → s.acct.closed = c :: rest →
    AsksLast x (w1 1 :: wSession c) →
    exec (.takeSession x) s = .next { answered x .ok (partOf (w1 1 :: wSession c) x.part) s with
      acct := { s.acct with
        closed := rest
        armed := s.acct.armed || decide (rest.length < s.sys.startup.sessionWatermark)
        staleLeft := if rest = [] then 60 * s.sys.startup.sessionStaleTime else s.acct.staleLeft } }) ∧
  (∀ (x : Xfer) (s : State), Ready x 0 s → InService s → x.part = 0 →
    (s.acct.closed = [] → exec (.takeSession x) s = .next (answered x .ok (partOf [w1 0] 0) s)) ∧
    exec (.readLost x) s = .next { answered x .ok (partOf [w1 s.acct.sessionsLost, wFlag s.acct.lostOverflow] 0) s with
      acct := { s.acct with sessionsLost := 0, lostOverflow := false } }) ∧
  (∀ (s : State) (c : ClosedSession) (rest : List ClosedSession), s.acct.closed = c :: rest → s.acct.staleLeft = 0 →
    exec .staleTimerExpiry s = .next { s.report (.stale (rest.length + 1) c.finish) with
      acct := { s.acct with staleLeft := 60 * s.sys.startup.sessionStaleTime } })

/-- R161, R171, R172: READ ACCOUNT and READ BANDS answer and change nothing; CLEAR ACCOUNT answers the same as READ ACCOUNT, zeroes the
account and takes its total from the Station Charge Total, unless that is Saturated; an account above 63 is BAD_VALUE; in STANDALONE all are
NOT_NOW. The words of a reply: log entry 6. -/
def Obligations.AccountsAreReadAndCleared : Prop :=
  ∀ (x : Xfer) (n : Nat) (s : State), Ready x 0 s →
    let a := s.acct.accounts.getD n .zero
    let fields := wAccount a ++ wAccount s.acct.total
    let bands := s.acct.bandTicks.map w3 ++ s.acct.bandEntries.map w3 ++ [w3 s.acct.driveSeconds, w1 s.acct.peak,
      (match s.acct.lastTick with
       | some t => w1 1 ++ w1 t.1 ++ w1 t.2
       | none => w1 0 ++ w2 0),
      w1 s.sys.startup.b1, w1 s.sys.startup.b2, w1 s.sys.startup.b3, w3 s.acct.stationTime]
    (s.sys.mode = .standalone → exec (.readBands x) s = .next (answered x .notNow [] s) ∧
      (1 ≤ x.count → exec (.readAccount x n) s = .next (answered x .notNow [] s) ∧
        exec (.clearAccount x n) s = .next (answered x .notNow [] s))) ∧
    (1 ≤ x.count → InService s → n ≤ 63 → x.part < (packParts fields).length →
      exec (.readAccount x n) s = .next (answered x .ok (partOf fields x.part) s)) ∧
    (InService s → x.part < (packParts bands).length → exec (.readBands x) s = .next (answered x .ok (partOf bands x.part) s)) ∧
    (1 ≤ x.count → InService s → n ≤ 63 → AsksLast x fields → exec (.clearAccount x n) s = .next
      { answered x .ok (partOf fields x.part) s with acct := { s.acct with
        accounts := s.acct.accounts.set n { units := 0, milli := 0, sessions := 0, seconds := 0, saturated := false }
        total := if s.acct.total.saturated = true then s.acct.total
          else if a.milli ≤ s.acct.total.milli then
            { s.acct.total with milli := s.acct.total.milli - a.milli, units := s.acct.total.units - a.units }
          else { s.acct.total with milli := 1000 + s.acct.total.milli - a.milli, units := s.acct.total.units - (a.units + 1) } } }) ∧
    (1 ≤ x.count → InService s → 63 < n → exec (.readAccount x n) s = .next (answered x .badValue [] s) ∧
      exec (.clearAccount x n) s = .next (answered x .badValue [] s))

/-- R169: an addition to an account not Saturated adds the charge to its value exactly, or, past the greatest value, leaves
4,294,967,295.999 with Saturated set; a Saturated one keeps its total. A close adds to the account and to the Station Charge Total, which
is Saturated as soon as an account is. -/
def Obligations.ChargesAddExactly : Prop :=
  ∀ (C secs : Nat),
    (∀ a : Account, a.milli ≤ 999 →
      let b := a.addSession C secs
      b.milli ≤ 999 ∧ b.sessions = min 4294967295 (a.sessions + 1) ∧ b.seconds = min 4294967295 (a.seconds + secs) ∧
      (a.saturated = false → Account.value a + C < 4294967296000 → Account.value b = Account.value a + C ∧ b.saturated = false) ∧
      (a.saturated = false → 4294967296000 ≤ Account.value a + C → Account.value b = 4294967295999 ∧ b.saturated = true) ∧
      (a.saturated = true → Account.value b = Account.value a ∧ b.saturated = true)) ∧
    (∀ (n : Nat) (s : State), n < s.acct.accounts.length →
      s.addCharge n C secs = { s with acct := { s.acct with
        accounts := s.acct.accounts.set n ((s.acct.accounts.getD n .zero).addSession C secs)
        total := s.acct.total.addSession C secs } } ∧
      (TotalsAgree s → ∀ a ∈ (s.addCharge n C secs).acct.accounts, a.saturated = true →
        (s.addCharge n C secs).acct.total.saturated = true))

/-- R167, R168: the charge of a session: S over 60 rounded to the nearest, a half up, and the fees its flags call for, limited. -/
def Obligations.ChargeOfASession : Prop :=
  ∀ (c : StartUp) (z : Session) (acks : Nat),
    let S := z.t0 * c.rate0 + z.t1 * c.rate1 + z.t2 * c.rate2 + z.t3 * c.rate3
    let F := (if z.remount then 0 else c.mountFee) + (if z.write then c.ringFee else 0) + c.operatorFee * acks +
      (if z.hopped then c.transferFee else 0)
    ∃ T, 60 * T ≤ S + 30 ∧ S < 60 * T + 30 ∧
      (T + F ≤ 4294967295 → charge c z acks = T + F ∧ chargeSaturated c z acks = false) ∧
      (4294967295 < T + F → charge c z acks = 4294967295 ∧ chargeSaturated c z acks = true)

/-- R158 to R160, R164, R38: a second tick outside INIT finds the band of the occupancy, counts it in the band counters, in the open
sessions and in the mounted seconds; in every mode Station Time rises and the stale timer runs while the queue holds a record. A boundary
drive counts while its record is SELF with HELD, and not with YIELDING: log entry 53. An event brings the clock to its instant: log
entry 2. -/
def Obligations.SecondTickCounts : Prop :=
  ∀ (n : Nat) (s : State), s.acct.nextSecond = some n →
    let time : Acct → Acct := fun a => { a with
      stationTime := min 4294967295 (a.stationTime + 1), nextSecond := some (n + 1000),
      staleLeft := if a.closed = [] then a.staleLeft else a.staleLeft - 1 }
    let O := (s.drv.drives.filter fun y => (decide (y.state = .mounted) || decide (y.state = .grace)) && s.driveHeld y).length
    let c := s.sys.startup
    let b := if O < c.b1 then 0 else if O < c.b2 then 1 else if O < c.b3 then 2 else 3
    let up : List Nat → List Nat := fun l => l.set b (min 4294967295 (l.getD b 0 + 1))
    (s.sys.mode = .init → exec .secondTick s = .next { clockAt n s with acct := time s.acct }) ∧
    (s.sys.mode ≠ .init → exec .secondTick s = .next { clockAt n s with
      acct := time { s.acct with
        bandTicks := up s.acct.bandTicks
        bandEntries := if s.acct.lastBand = some b then s.acct.bandEntries else up s.acct.bandEntries
        driveSeconds := min 4294967295 (s.acct.driveSeconds + O)
        peak := max s.acct.peak O, lastBand := some b, lastTick := some (O, b) }
      drv := { s.drv with drives := s.drv.drives.map fun y => { y with
        mountedSeconds := if y.state = .mounted then min 4294967295 (y.mountedSeconds + 1) else y.mountedSeconds
        session := y.session.map (Session.tick b) } } }) ∧
    (∀ z : Session, z.t0 ≤ 16777215 → z.t1 ≤ 16777215 → z.t2 ≤ 16777215 → z.t3 ≤ 16777215 →
      Session.tick 0 z = { z with t0 := min 16777215 (z.t0 + 1), timeSaturated := z.timeSaturated || decide (z.t0 = 16777215) } ∧
      Session.tick 1 z = { z with t1 := min 16777215 (z.t1 + 1), timeSaturated := z.timeSaturated || decide (z.t1 = 16777215) } ∧
      Session.tick 2 z = { z with t2 := min 16777215 (z.t2 + 1), timeSaturated := z.timeSaturated || decide (z.t2 = 16777215) } ∧
      Session.tick 3 z = { z with t3 := min 16777215 (z.t3 + 1), timeSaturated := z.timeSaturated || decide (z.t3 = 16777215) })

/-! ## The port's own commands, and the modes -/

/-- R74, R97, R188, R189: CLEAR RETRY gives the Arm Retry Counter and Stale Answers, and zeroes the counter; READ LINE without a station
clears the error counter it gives, and with one changes nothing; the last part of TAKE REPORT removes the oldest report; READ STATUS zeroes
the count of reports lost. The words of a reply: log entry 6. -/
def Obligations.LineReportsAndStatusAreRead : Prop :=
  ∀ (x : Xfer) (s : State), Ready x 0 s →
    (2 ≤ x.count → InService s →
      let fields := [wLine s.line.state, w1 s.line.score, w1 s.line.errors, wFlag s.line.errOverflow] ++
        (List.range 8).map fun p => wRoster (s.rosterAt p).state
      AsksLast x fields → exec (.readLine x none) s = .next { answered x .ok (partOf fields x.part) s with
        line := { s.line with errors := 0, errOverflow := false } }) ∧
    (2 ≤ x.count → InService s → ∀ p,
      (p ≤ 7 → x.part < (packParts (wRosterEntry (s.rosterAt p) s.sys.clock)).length →
        exec (.readLine x (some p)) s = .next (answered x .ok (partOf (wRosterEntry (s.rosterAt p) s.sys.clock) x.part) s)) ∧
      (7 < p → exec (.readLine x (some p)) s = .next (answered x .badValue [] s))) ∧
    (∀ r rest, s.port.reports = r :: rest → AsksLast x (wReport r) →
      exec (.takeReport x) s = .next (answered x .ok (partOf (wReport r) x.part) { s with port := { s.port with reports := rest } })) ∧
    (s.port.reports = [] → x.part = 0 → exec (.takeReport x) s = .next (answered x .ok [] s)) ∧
    (let fields := (answered x .ok [] s).statusFields
     AsksLast x fields → exec (.readStatus x) s = .next (answered x .ok (partOf fields x.part)
       { s with port := { s.port with reportsLost := 0 } })) ∧
    (InService s → x.part = 0 → exec (.clearRetry x) s = .next
      { answered x .ok (partOf [w1 s.arm.retryCounter, w2 s.arm.stale] 0) s with arm := { s.arm with retryCounter := 0 } })

/-- R178, R179: every word of the station has odd parity, and the words of a transfer are as many as its clock pulses call for. R181: they
are the status word, the words of the pending reply in order, and then words of the parity bit alone. R179: the data bits of a word are its
bits 15..1; the status word gives the echo, the fault flag, the reply code, what waits, STANDALONE, the line state and the reply length.
R182, R192: ATTN is asserted while a report waits or an order not taken, and RESET is high. -/
def Obligations.WordsHaveOddParity : Prop :=
  ∀ s : State,
    (∀ n, (s.shiftOut n).length = n ∧ ∀ w ∈ s.shiftOut n, oddParity w = true) ∧
    (∀ n, (s.shiftOut (n + 1))[0]? = some s.statusWord) ∧
    (∀ n k, k < n → (∀ d, s.port.reply.words[k]? = some d → ∃ w : Word, (s.shiftOut (n + 1))[k + 1]? = some w ∧
        ∀ b, b < 15 → w.getLsbD (b + 1) = d.getLsbD b) ∧
      (s.port.reply.words.length ≤ k → (s.shiftOut (n + 1))[k + 1]? = some 1#16)) ∧
    (let w := s.statusWord
     w.getLsbD 15 = s.port.reply.heartbeat ∧ w.getLsbD 14 = s.port.frameFault ∧
     (w >>> 11 &&& 7#16).toNat = (match s.port.reply.code with
       | .ok => 0
       | .full => 1
       | .locked => 2
       | .notNow => 3
       | .badValue => 4
       | .unknownRequest => 5
       | .staleOrder => 6) ∧
     w.getLsbD 10 = decide (s.port.reports ≠ []) ∧
     (w.getLsbD 9 = true ↔ ∃ o, s.arm.inFlight = some o ∧ o.taken = false) ∧
     w.getLsbD 8 = decide (s.sys.mode = .standalone) ∧
     (w >>> 6 &&& 3#16).toNat = (match s.line.state with
       | .clear => 0
       | .caution => 1
       | .muted => 2
       | .listen => 3
       | .detached => 3
       | .duplicate => 3) ∧
     (s.port.reply.words.length ≤ 15 → (w >>> 2 &&& 15#16).toNat = s.port.reply.words.length) ∧ w.getLsbD 1 = false) ∧
    (s.attn = true ↔ s.sys.resetHeld = false ∧ (s.port.reports ≠ [] ∨ ∃ o, s.arm.inFlight = some o ∧ o.taken = false))

/-- R186: RESUME in STANDALONE enters ACTIVE, takes the Heartbeat bit and starts the Silence timer at its full length; in another mode it
is NOT_NOW. -/
def Obligations.ResumeEntersActive : Prop :=
  ∀ (x : Xfer) (s : State), Ready x 0 s → x.part = 0 →
    (s.sys.mode ≠ .standalone → exec (.resume x) s = .next (answered x .notNow [] s)) ∧
    (s.sys.mode = .standalone → ∃ t, exec (.resume x) s = .next t ∧
      keptButPresence t = { keptButPresence (answered x .ok [] s) with
        sys := { s.sys with mode := .active }, silenceEnd := some (s.sys.clock + 1000 * s.sys.startup.silenceLimit) })

/-- R198, R199: RESTART where the line carries no PRESENCE takes effect at once: INIT, with the queues, moves, prompts, claims and reports
gone and the line in LISTEN, while the Start-Up Block, the clock and the door stay, and the accounts but for what the sessions still open
add: each is closed RESTART_CLOSED with error count 0, in order of drive address, which is the model's choice: log entry 81. The LINE report of
the change to LISTEN (R92) is lost where 32 stand, and leaves with them otherwise (R191). Elsewhere the LEAVING PRESENCE goes ahead of every
message (R102), and the timers of JOINING, PRESENCE and Silence stop. -/
def Obligations.RestartLeavesOrEnds : Prop :=
  ∀ (x : Xfer) (s : State), Ready x 0 s → x.part = 0 → s.sys.mode = .joining ∨ s.sys.mode = .active → s.sys.restartPending = false →
    (s.line.state = .detached ∨ s.line.state = .duplicate → (∀ d ∈ s.drv.drives, d.session = none) →
      ∃ t, exec (.restart x) s = .next t ∧
        t.sys = { s.sys with mode := .init, listenEnd := none } ∧ t.acct = s.acct ∧ t.rm = { s.rm with queue := [] } ∧
        t.px = { s.px with moved := [] } ∧
        t.arm = { s.arm with queue := [], current := none, inFlight := none, retryEnd := none } ∧
        t.line.state = .listen ∧ t.line.score = 0 ∧ t.line.txq = [] ∧ t.claim = { records := [], takeInWaits := [] } ∧
        t.panel.prompts = [] ∧ t.panel.deferred = [] ∧ t.panel.doorIsOpen = s.panel.doorIsOpen ∧ t.port.reports = [] ∧
        t.port.reportsLost = (if s.port.reports.length < 32 then s.port.reportsLost else satAdd 255 s.port.reportsLost 1) ∧
        t.inv.bay = s.inv.bay ∧ t.pending = s.pending) ∧
    (s.line.state = .detached ∨ s.line.state = .duplicate → (s.drv.drives.map Drive.address).Nodup →
      let close : State → Drive → State := fun t d => match d.session with
        | none => t
        | some z =>
          let acks := ((s.findReq z.req).map Request.promptAcks).getD 0
          let closed := { closedOf s.sys.startup z acks 0 s.acct.stationTime .host with restartClosed := true }
          (t.addCharge z.account closed.charge (z.t0 + z.t1 + z.t2 + z.t3)).offerClosed closed
      ∃ t, exec (.restart x) s = .next t ∧ t.sys = { s.sys with mode := .init, listenEnd := none } ∧ t.rm.queue = [] ∧
        t.acct = (s.drv.drives.foldl close s).acct ∧ ∀ d ∈ t.drv.drives, d.session = none) ∧
    (s.line.state ≠ .detached → s.line.state ≠ .duplicate → (∀ m ∈ s.line.txq, isPresence m.msg = false) → s.line.txq.length < 16 →
      let leaving : TxMsg :=
        { msg := .presence (s.presenceBody .leaving), attempts := 0, onLine := false, withdrawn := false, tag := .leaving }
      exec (.restart x) s = .next (answered x .ok []
        { s with
          sys := { s.sys with listenEnd := none, restartPending := true }
          line := { s.line with presenceEnd := none, txq := leaving :: s.line.txq }
          port := { s.port with silenceEnd := none } }))

/-! ## The clock -/

/-- R185: the Silence timer's expiry enters STANDALONE and stops the timer. R196: the Listen timer's expiry queues a PRESENCE JOINING, or,
where no PRESENCE may be sent, as in DUPLICATE, enters ACTIVE, with the Silence and presence timers started (R184, R197). An event brings
the clock to its instant: log entry 2. What follows inside the command is worked off in turn: log entry 4. -/
def Obligations.SilenceAndListenExpiry : Prop :=
  ∀ (e : Nat) (s : State), s.agenda = [] →
    (s.sys.mode = .active → s.port.silenceEnd = some e → ∃ t, exec .silenceTimerExpiry s = .next t ∧
      keptButPresence t = { keptButPresence (clockAt e s) with
        sys := { (clockAt e s).sys with mode := .standalone }, silenceEnd := none }) ∧
    (s.sys.mode = .joining → s.sys.listenEnd = some e →
      let t := clockAt e s
      (CanQueue .presence s → (∀ m ∈ s.line.txq, isPresence m.msg = false) → (∀ c ∈ s.claim.records, c.own ≠ .yielding) →
        let u : State := { t with sys := { t.sys with listenEnd := none } }
        let m : TxMsg :=
          { msg := .presence (u.presenceBody .joining), attempts := 0, onLine := false, withdrawn := false, tag := .joining }
        exec .listenTimerExpiry s = .next (State.settle
          { u with line := { s.line with txq := insertTx m s.line.txq }, agenda := [.handoffTest] })) ∧
      (s.line.state = .duplicate → ∃ v, exec .listenTimerExpiry s = .next v ∧
        v.kept = { t.kept with
          sys := { t.sys with mode := .active, listenEnd := none }
          presenceEnd := some (t.sys.clock + 1000 * s.sys.startup.presencePeriod)
          silenceEnd := some (t.sys.clock + 1000 * s.sys.startup.silenceLimit) }))

/-- R8, R32, R34, R166: at its Grace Expiry a local drive with a reel of this bay goes to IDLE_LOADED and its STOW is queued; at the end of
a cleaning a cleaning record closes, with charge 0, in account 0; a TIMED Reservation ends at its expiry. An event brings the clock to its
instant: log entry 2. An event timed in Station Time stands once Station Time has reached it: log entry 3. What follows inside the command
is worked off in turn: log entry 4. -/
def Obligations.DriveAndReservationTimers : Prop :=
  (∀ (d t n : Nat) (v : Serial) (y : Drive) (e : Entry) (s : State), s.agenda = [] → s.findDrive d = some y → y.state = .grace →
    y.graceExpiry = some t → t ≤ s.acct.stationTime → y.position = .loc → y.loaded = some v → s.findEntry v = some e → e.home = .here →
    e.slot = some n → e.retired = false → s.hasMove v = false → s.arm.queue.length < 8 →
    let m : Move := { kind := .stow, req := none, volume := v, source := .drive d, dest := .slot n, purpose := none, stage := .queued,
                      entered := s.acct.stationTime, priority := 8, afterFailure := false }
    exec (.graceExpiry d) s = .next (State.settle
      { s with
        drv := { s.drv with drives := s.drv.drives.map fun z => if z.address = d then
          { z with state := .idleLoaded, serving := none, graceExpiry := none, cleaningEnd := none, cleaningStart := none,
                   parked := false } else z }
        arm := { s.arm with queue := insertMove m s.arm.queue }
        agenda := [.issue] })) ∧
  (∀ (d t from_ : Nat) (v : Serial) (y : Drive) (s : State), s.agenda = [] → s.findDrive d = some y → y.state = .cleaning →
    y.cleaningEnd = some t → t ≤ s.acct.stationTime → y.loaded = some v → y.cleaningStart = some from_ → y.position = .loc →
    let closed : ClosedSession :=
      { req := none, origin := s.sys.startup.stationNumber, account := 0, volume := v, drive := .own s.sys.startup.stationNumber d,
        start := from_, finish := s.acct.stationTime, t0 := 0, t1 := 0, t2 := 0, t3 := 0, charge := 0, errors := 0, promptAcks := 0,
        write := false, hopped := false, remount := false, cleaning := true, restartClosed := false, driveLost := false,
        timeSaturated := false, chargeSaturated := false }
    ∃ u, exec (.cleaningEnd d) s = .next u ∧ u.kept = { s.kept with acct := ((s.addCharge 0 0 0).offerClosed closed).acct }) ∧
  (∀ (v : Serial) (t : Nat) (r : ReqNo) (e : Entry) (s : State), s.findEntry v = some e →
    e.reservation = some { req := r, kind := .timed t } →
    exec (.reservationExpiry v) s = .next { clockAt t s with inv := { s.inv with
      entries := s.inv.entries.map fun z => if z.volume = v then { z with reservation := none } else z } })

/-- R52, R58, R114: at its Deadline an armed request becomes Late, once, with its report; at its Hop Expiry a taken-in record leaves with
its arrival reservation and its drive; the forward check of a proxy asks its server and is set anew. An event timed in Station Time stands
once Station Time has reached it: log entry 3. What follows inside the command is worked off in turn: log entry 4. -/
def Obligations.RequestTimers : Prop :=
  ∀ (r : ReqNo) (q : Request) (s : State), s.agenda = [] → s.findReq r = some q →
    (∀ t, q.armed = true → q.late = false → q.deadline = some t → t ≤ s.acct.stationTime → q.role = .own →
      r.origin = s.sys.startup.stationNumber → (q.lineWait = false ∨ s.sys.mode ≠ .standalone) → (∀ p ∈ s.panel.prompts, r ∉ p.links) →
      exec (.deadlinePassed r) s = .next ((s.updReq r fun z => { z with late := true }).report (.request r q.jobTag .late))) ∧
    (∀ t d y, q.role = .takenIn → q.state = .hopping → q.hopExpiry = some t → t ≤ s.acct.stationTime →
      (s.drv.drives.filter fun z => decide (z.serving = some (.request r))) = [y] → y.address = d → s.findDrive d = some y →
      y.state = .reserved → (∀ e ∈ s.inv.entries, ∀ v, e.reservation = some v → v.req ≠ r) →
      (∀ c ∈ s.claim.records, Asker.request r ∉ c.asks) →
      exec (.hopExpiry r) s = .next (State.settle
        { s with
          inv := { s.inv with hatchArrivals := s.inv.hatchArrivals.erase r }
          drv := { s.drv with drives := s.drv.drives.map fun z => if z.address = d then
            { z with state := .empty, loaded := none, serving := none, cleaningReel := none } else z }
          rm := { s.rm with queue := s.rm.queue.filter fun z => decide (z.req ≠ r) }
          agenda := [.driveEmpty d, .plan] })) ∧
    (∀ t p, q.role = .proxy → q.forwardDue = some t → t ≤ s.acct.stationTime → s.sys.mode = .active ∨ s.sys.mode = .standalone →
      q.server = some p → q.releaseUnsent = false → CanQueue .ask s →
      exec (.forwardCheck r) s = .next (queued (.ask { server := p, req := r })
        (s.updReq r fun z => { z with forwardDue := some (s.acct.stationTime + s.sys.startup.forwardCheckInterval) })))

/-! ## The operator -/

/-- R14, R155: a door that opens makes the bay DOOR_OPEN, queues a DOOR report and starts the Door Limit timer; one that closes makes it
AUDIT, queues AUDIT_NEEDED and DOOR and stops the timer (the reports are stated where no YIELD is asked again at a changed Condition, R101,
R129); a level delivered already changes nothing. At the timer's expiry a DOOR_LONG prompt is raised, but in INIT only the expiry is kept.
An event brings the clock to its instant: log entry 2. -/
def Obligations.DoorEvents : Prop :=
  ∀ s : State, s.agenda = [] → s.sys.resetHeld = false →
    (exec (.doorChange s.panel.doorIsOpen) s = .next s) ∧
    (s.panel.doorIsOpen = false → ∃ u : State, exec (.doorChange true) s = .next u.settle ∧
      keptButPresence u.settle = { keptButPresence s with
        bay := .doorOpen, doorIsOpen := true, doorLimitEnd := some (s.sys.clock + 60000 * s.sys.startup.doorLimit), doorExpired := false } ∧
      ((∀ c ∈ s.claim.records, c.own ≠ .yielding) → u.port = (s.report (.door true)).port)) ∧
    (s.panel.doorIsOpen = true → ∃ u : State, exec (.doorChange false) s = .next u.settle ∧
      keptButPresence u.settle = { keptButPresence s with bay := .audit, doorIsOpen := false, doorLimitEnd := none, doorExpired := false } ∧
      ((∀ c ∈ s.claim.records, c.own ≠ .yielding) → u.port = ((s.report .auditNeeded).report (.door false)).port)) ∧
    (∀ e, s.panel.doorLimitEnd = some e →
      let t := clockAt e s
      (s.sys.mode = .init → exec .doorLimitExpiry s = .next
        { t with panel := { s.panel with doorLimitEnd := none, doorExpired := true } }) ∧
      (s.sys.mode ≠ .init → s.panel.prompts.length < 16 → s.findPrompt { cls := .doorLong, subject := .door } = none →
        s.sys.startup.promptSettle ≠ 0 → exec .doorLimitExpiry s = .next
          { t with panel := { s.panel with doorLimitEnd := none, doorExpired := true, prompts := s.panel.prompts ++
            [{ cls := .doorLong, subject := .door, detail := none, links := [], state := .settling, raised := s.acct.stationTime,
               settleEnd := some (t.sys.clock + 1000 * s.sys.startup.promptSettle), escalated := false, acks := 0,
               cellWait := false }] } }))

/-- R144, R145, R153, R154: a SETTLING prompt whose settling ends is SHOWN, with its RAISED report, the cursor if it is more urgent, and the
lamp its class calls for; a SHOWN one whose age reaches the Escalate Time is escalated, with its report, and the lamp is fast. An event
brings the clock to its instant: log entry 2. -/
def Obligations.PromptTimers : Prop :=
  ∀ (k : PromptKey) (p : Prompt) (s : State), s.agenda = [] → s.findPrompt k = some p →
    (∀ e, p.state = .settling → p.settleEnd = some e → ∃ t, exec (.settleEnd k.cls k.subject) s = .next t ∧
      t.sys = (clockAt e s).sys ∧
      t.panel.prompts = s.panel.prompts.map (fun z => if z.key = k then { z with state := .shown, settleEnd := none } else z) ∧
      t.panel.cursor = (match s.panel.cursor with
        | none => some k
        | some c => if promptUrgency c.cls < promptUrgency k.cls then some k else some c) ∧
      t.panel.lamp = lampFor t.panel.prompts ∧ t.port = (s.report (.prompt .raised k.cls k.subject p.links none)).port ∧
      t.rm = s.rm ∧ t.inv = s.inv ∧ t.arm = s.arm) ∧
    (p.state = .shown → p.escalated = false → 60 * s.sys.startup.escalateTime ≤ s.acct.stationTime - p.raised →
      ∃ t, exec (.promptAgeEscalation k.cls k.subject) s = .next t ∧
        t.panel.prompts = s.panel.prompts.map (fun z => if z.key = k then { z with escalated := true } else z) ∧
        t.panel.lamp = .fast ∧ t.panel.cursor = s.panel.cursor ∧
        t.port = (s.report (.prompt .escalated k.cls k.subject p.links none)).port ∧ t.rm = s.rm ∧ t.inv = s.inv ∧ t.arm = s.arm)

/-- R146 to R148, R151, R152: a press takes its edge and, for ACK, the prompt under the cursor. Its release, 30 ms after the edge or
later, judges it by the 10 ms steps counted to that time, and one that comes as long has reached the threshold. ACK: no press, nothing; a
target that has gone, the press alone ends; any target, the parts that no consequence changes stay; a SHOWN ENTRY_FULL without links is
ACKED and counted, by a short press with one ACKED report and by a long one with one DECLINED report; a long press takes a SHOWN or ACKED
CLEAN_DRIVE off the list, after its DECLINED report; a prompt that is SETTLING again, not yet displayed (R144), is neither acknowledged
nor declined. NEXT: with a prompt displayed, the cursor moves on, or by a long press to the head. A press that is
judged long though its event is a short one: log entry 67. An event brings the clock to its instant: log entry 2. What follows inside the
command is worked off in turn: log entry 4. -/
def Obligations.ButtonsActOnTheirTarget : Prop :=
  ∀ s : State, s.agenda = [] → s.sys.resetHeld = false →
    exec (.buttonPress .ack) s = .next
      { s with panel := { s.panel with ackPress := some { since := s.sys.clock, target := s.panel.cursor } } } ∧
    exec (.buttonPress .next) s = .next
      { s with panel := { s.panel with nextPress := some { since := s.sys.clock, target := none } } } ∧
    (s.panel.ackPress = none → exec .ackShort s = .next s ∧ exec .ackLong s = .next s) ∧
    (s.panel.nextPress = none → exec .nextShort s = .next s ∧ exec .nextLong s = .next s) ∧
    (∀ (since : Nat) (target : Option PromptKey) (long : Bool), s.panel.ackPress = some { since := since, target := target } →
      let c := if long then .ackLong else .ackShort
      let ms := if long then s.sys.startup.longPress else 30
      let u := { clockAt (since + ms) s with panel := { s.panel with ackPress := none } }
      let isLong := long || judgedLong since u.sys.clock s
      ((∀ k, target = some k → s.findPrompt k = none) → exec c s = .next u) ∧
      (∀ k p, target = some k → s.findPrompt k = some p →
        (∃ t, exec c s = .next t ∧ t.kept = u.kept ∧ t.panel.ackPress = none) ∧
        (p.cls = .entryFull → p.state = .shown → p.links = [] → ∃ t, exec c s = .next t ∧ t.sys = u.sys ∧ t.panel.ackPress = none ∧
          t.panel.prompts = s.panel.prompts.map (fun z => if z.key = k then
            { z with acks := min 255 (z.acks + 1), state := .acked, cellWait := false } else z) ∧
          t.panel.lamp = lampFor t.panel.prompts ∧ t.rm = s.rm ∧ t.inv = s.inv ∧ t.arm = s.arm ∧ t.claim = s.claim ∧
          t.port = (s.report (if isLong then .prompt .declined k.cls k.subject [] none
            else .prompt .acked k.cls k.subject [] (some (min 255 (p.acks + 1))))).port) ∧
        (p.state = .settling → exec c s = .next u) ∧
        (isLong = true → p.cls = .cleanDrive → p.state ≠ .settling → ∃ v : State, exec c s = .next v.settle ∧ v.agenda = [.promptGone p] ∧
          v.panel.prompts = s.panel.prompts.filter (fun z => decide (z.key ≠ k)) ∧ v.panel.ackPress = none ∧
          v.port = (s.report (.prompt .declined k.cls k.subject p.links none)).port ∧ v.drv = s.drv ∧ v.rm = s.rm ∧ v.inv = s.inv))) ∧
    (∀ (since : Nat) (target : Option PromptKey) (long : Bool), s.panel.nextPress = some { since := since, target := target } →
      let c := if long then .nextLong else .nextShort
      let ms := if long then s.sys.startup.longPress else 30
      let u := { clockAt (since + ms) s with panel := { s.panel with nextPress := none } }
      let isLong := long || judgedLong since u.sys.clock s
      (s.panel.cursor = none → exec c s = .next u) ∧
      (∀ k, s.panel.cursor = some k → exec c s = .next { u with panel := { s.panel with
        nextPress := none, cursor := if isLong then s.displayable.head?.map Prompt.key else afterKey k s.displayable } }))

/-! ## The line -/

/-- R82: a frame is 43 + 9 × Length bits long, keepers and all. -/
def Obligations.FrameLengths : Prop :=
  ∀ (k : MsgKind) (sender : Nat) (body : List (BitVec 8)), (frameBits k sender body).length = 43 + 9 * body.length

/-- R86, R88, R89: the head of the Transmit Queue takes the line, a HANDOFF asked before the door opened too, which is the model's choice:
log entry 54; it keeps its place and its attempts when contention is lost, and keeps
its place with one attempt more when an attempt fails before the 4th; a transmit fault raises the score by 8, an attempt unwitnessed with
no peer PRESENT leaves it. A witnessed message leaves the queue, and its owner acts: a SEEK opens its request's window, a PLACE starts its
wait (R106, R110); a HOLD of a resource shown NONE makes it SELF with HELD (R127); a YIELD that a YIELDING record waits for makes it NONE
(R129), and one that gives way in a dispute leaves it (R131); a HANDOFF makes the record PEER (R134), takes the reel's departure (R6), and
makes a hop's request a PROXY in FORWARDED, or takes it out of the queue of a station that is not its origin (R51, R121). What follows
inside the command is worked off in turn: log entry 4. A flag of the model's own, cleared by a hold obtained: log entry 84. -/
def Obligations.AttemptsAtTheHead : Prop :=
  ∀ (m : TxMsg) (rest : List TxMsg) (s : State), s.agenda = [] →
    (s.line.txq = m :: rest → (∀ n ∈ s.line.txq, n.onLine = false) → s.sys.mode ≠ .init → s.permits m.msg.kind = true →
      isPresence m.msg = false →
      exec .frameSendStart s = .next { s with line := { s.line with txq := { m with onLine := true } :: rest } }) ∧
    (HeadOnLine m rest s →
      exec .contentionLost s = .next { s with line := { s.line with txq := { m with onLine := false } :: rest } }) ∧
    (HeadOnLine m rest s → m.attempts < 3 → Scored s →
      (lineByScore s.line.state (min 127 (s.line.score + 8)) = s.line.state →
        exec .transmitFault s = .next { s with line := { s.line with
          txq := { m with onLine := false, attempts := m.attempts + 1 } :: rest, score := min 127 (s.line.score + 8) } }) ∧
      ((∀ e ∈ s.line.roster, e.state ≠ .present) → s.line.score ≤ 127 → lineByScore s.line.state s.line.score = s.line.state →
        exec .attemptUnwitnessed s = .next { s with line := { s.line with
          txq := { m with onLine := false, attempts := m.attempts + 1 } :: rest } })) ∧
    (HeadOnLine m rest s → Scored s → lineByScore s.line.state (s.line.score - 1) = s.line.state →
      let w : State := { s with line := { s.line with txq := rest, score := s.line.score - 1 } }
      let sets : Resource → (ClaimRec → ClaimRec) → List ClaimRec := fun res f => s.claim.records.map fun z => if z.res = res then f z else z
      (∀ b q, m.msg = .seek b → s.findReq b.req = some q → q.phase = .seeking →
        exec .attemptWitnessed s = .next (w.updReq b.req
          fun z => { z with phase := .window, answers := [], windowEnd := some (s.sys.clock + s.sys.startup.seekWindow) })) ∧
      (∀ b q, m.msg = .place b → s.findReq b.req = some q → (∀ z ∈ s.rm.queue, z.req = b.req → z = q) →
        q.phase = .placing ∨ q.phase = .hopPlacing → q.placeTarget = some b.target →
        exec .attemptWitnessed s = .next (w.updReq b.req
          fun z => { z with waitEnd := some (s.sys.clock + 1000 * s.sys.startup.presencePeriod) })) ∧
      (∀ b c, m.msg = .hold b → s.findRec b.resource = some c →
        (b.dispute = true ∨ c.holder ≠ .none → exec .attemptWitnessed s = .next w) ∧
        (b.dispute = false → c.holder = .none → exec .attemptWitnessed s = .next (State.settle { w with
          claim := { s.claim with records := sets b.resource fun z =>
            { z with holder := .self, own := .held, dropped := false, alone := false } }
          agenda := [.obtained b.resource, .useEnd] }))) ∧
      (∀ b c, m.msg = .yield b → s.findRec b.resource = some c → c.dispute ≠ .conflict →
        (c.own ≠ .yielding → exec .attemptWitnessed s = .next w) ∧
        (c.own = .yielding → (∀ z ∈ s.claim.records, z.res = b.resource → z = c) →
          exec .attemptWitnessed s = .next (State.settle { w with
            claim := { s.claim with records := sets b.resource fun z =>
              { z with holder := .none, own := .none, dropped := false, dispute := .none } }
            agenda := [.claimTest] }))) ∧
      (∀ b c e, m.msg = .handoff b → s.findRec (.hatch b.boundary) = some c →
        (∀ z ∈ s.claim.records, z.res = .hatch b.boundary → z = c) → s.findEntry b.volume = some e →
        (∀ z ∈ s.inv.entries, z.volume = b.volume → z = e) →
        let passed : List Asker → List ClaimRec := fun l => sets (.hatch b.boundary) fun z =>
          { z with holder := .peer, own := .none, handoffDue := none, owed := none, dropped := false, asks := l.foldl List.erase z.asks }
        let left := match e.home with
          | .here => s.inv.entries.map fun y => if y.volume = b.volume then { y with state := .away c.neighbour, reservation := none } else y
          | .station _ => s.inv.entries.filter fun y => decide (y.volume ≠ b.volume)
        (b.req = none → ∃ u : State, exec .attemptWitnessed s = .next u.settle ∧
          u.claim.records = passed [.move b.volume, .claimUnit] ∧ u.inv.entries = left ∧ u.line = w.line ∧ u.rm = s.rm ∧ u.port = s.port) ∧
        (∀ r q, b.req = some r → s.findReq r = some q → (∀ z ∈ s.rm.queue, z.req = r → z = q) → q.state = .hopping →
          q.hopExpiry = none → q.cancelPending = false →
          ∃ u : State, exec .attemptWitnessed s = .next u.settle ∧
            u.claim.records = passed [.move b.volume, .claimUnit, .request r] ∧
            (r.origin = s.sys.startup.stationNumber → u.inv.entries = left ∧ u.line = w.line ∧
              u.rm = (s.updReq r fun z => { z with
                role := .proxy, state := .forwarded, hop := 1, server := some c.neighbour, phase := .none, placeTarget := none,
                waitEnd := none, followUp := none, placeWait := false, lineWait := false, unanswered := false, drive := none,
                hopTo := none, roomWait := none, forwardDue := some (s.acct.stationTime + s.sys.startup.forwardCheckInterval) }).rm ∧
              u.port = (s.report (.request r q.jobTag (.forwarded c.neighbour))).port) ∧
            (r.origin ≠ s.sys.startup.stationNumber → u.rm.queue = s.rm.queue.filter (fun z => decide (z.req ≠ r)) ∧
              (r, c.neighbour) ∈ u.px.moved ∧
              (CanQueue .outcome w → u.line = (queued (.outcome { req := r, event := .moved c.neighbour }) w).line)))))

/-- R88, R91, R92: what each event does to the Line Fault Score, and the line state that follows it with hysteresis; in LISTEN and
DUPLICATE neither changes. R97: a bad frame raises the Line Error Count, which stands at 255 and then sets its Overflow flag. -/
def Obligations.LineStateFollowsTheScore : Prop :=
  ∀ (m : TxMsg) (rest : List TxMsg) (s : State), s.agenda = [] → s.sys.mode = .active → s.sys.restartPending = false →
    let becomes : Instr → Nat → Prop := fun c n => ∃ t, exec c s = .next t ∧ t.line.score = n ∧ t.line.state = lineByScore s.line.state n
    (∃ t, exec .badFrame s = .next t ∧ t.line.errors = min 255 (s.line.errors + 1) ∧
      t.line.errOverflow = (s.line.errOverflow || decide (s.line.errors = 255))) ∧
    (Scored s → s.line.score ≤ 127 →
      becomes .badFrame (min 127 (s.line.score + 1)) ∧
      (HeadOnLine m rest s →
        becomes .transmitFault (min 127 (s.line.score + 8)) ∧ becomes .attemptWitnessed (s.line.score - 1) ∧
        becomes .attemptUnwitnessed (if ∃ e ∈ s.line.roster, e.state = .present then min 127 (s.line.score + 4) else s.line.score))) ∧
    (¬Scored s → ∀ c ∈ [Instr.badFrame, .transmitFault, .attemptWitnessed, .attemptUnwitnessed],
      (c = .badFrame ∨ HeadOnLine m rest s) →
      ∃ t, exec c s = .next t ∧ t.line.score = s.line.score ∧ t.line.state = s.line.state)

/-- R84, R94, R95: a broken-off frame changes nothing; 32 good frames, or the Quiet timer, recover a DETACHED line to CLEAR with score 0; a
good frame with this station's own number makes it DUPLICATE. An event brings the clock to its instant: log entry 2. -/
def Obligations.FramesThatChangeTheLine : Prop :=
  ∀ s : State, s.agenda = [] →
    exec .brokenOffFrame s = .next s ∧
    (∀ e, s.line.state = .detached → s.line.quietEnd = some e → ∃ t, exec .detachedRecovery s = .next t ∧
      (let u := if 32 ≤ s.line.goodFrames then s else clockAt e s
       t.kept = { u.kept with lineState := .clear, score := 0, goodFrames := 0, quietEnd := none,
                              presenceEnd := some (u.sys.clock + 1000 * s.sys.startup.presencePeriod) })) ∧
    (∀ b, presenceOk b = true → s.sys.startup.stationNumber ≤ 7 → s.sys.mode = .active → s.sys.restartPending = false →
      (∀ m ∈ s.line.txq, m.onLine = false) →
      ∃ t, exec (.presenceHeard s.sys.startup.stationNumber b) s = .next t ∧ t.line.state = .duplicate ∧ t.line.score = s.line.score)

/-- R98, R99, R101: a PRESENCE of a PRESENT peer takes its fields and credits it, and LEAVING makes it ABSENT; so does the expiry of its
absence timer; at the presence timer's expiry a PRESENCE is queued and the timer starts again. An event brings the clock to its instant: log
entry 2. What follows inside the command is worked off in turn: log entry 4. -/
def Obligations.PeersComeAndGo : Prop :=
  ∀ (p : Nat) (s : State),
    (∀ b, HearsPeer p s → presenceOk b = true → ∃ t, exec (.presenceHeard p b) s = .next t ∧
      t.kept = { s.kept with roster := s.line.roster.set p (if b.condition = .leaving
        then { state := .absent, presence := some b, lastHeard := some s.acct.stationTime, absentAt := none }
        else { state := .present, presence := some b, lastHeard := some s.acct.stationTime,
               absentAt := some (s.sys.clock + 3000 * b.period) }) }) ∧
    (∀ e, s.agenda = [] → (s.rosterAt p).state = .present → (s.rosterAt p).absentAt = some e → ∃ t, exec (.peerAbsent p) s = .next t ∧
      t.kept = { (clockAt e s).kept with roster := s.line.roster.set p { s.rosterAt p with state := .absent, absentAt := none } }) ∧
    (∀ e, s.agenda = [] → s.line.presenceEnd = some e → CanQueue .presence s → (∀ m ∈ s.line.txq, isPresence m.msg = false) →
      (∀ c ∈ s.claim.records, c.own ≠ .yielding) →
      let t := clockAt e s
      let m : TxMsg := { msg := .presence (t.presenceBody .plain), attempts := 0, onLine := false, withdrawn := false, tag := .plain }
      exec .presenceTimerExpiry s = .next (State.settle
        { t with line := { s.line with txq := insertTx m s.line.txq,
                                       presenceEnd := some (t.sys.clock + 1000 * s.sys.startup.presencePeriod) },
                 agenda := [.handoffTest] }))

/-! ## The exchange with peers -/

/-- R7, R104, R111, R112, R117: what a PRESENT peer's questions are answered: a SEEK for a reel HOME and unreserved takes a TIMED claim and
is answered HAVE HOME, an ASK of an unknown request STATE UNKNOWN, a PLACE that finds no room or no reel REFUSED, one taken in before PLACED
again, and one whose reel is here is PLACED and joins the Mount Queue. What follows inside the command is worked off in turn: log
entry 4. -/
def Obligations.QuestionsOfPeersAreAnswered : Prop :=
  ∀ (p : Nat) (s : State), HearsPeer p s → s.line.txq.length < 16 →
    let me := s.sys.startup.stationNumber
    let u := credited p s
    (∀ b v e, seekOk b = true → b.want = .volume v → s.findEntry v = some e → (∀ z ∈ s.inv.entries, z.volume = v → z = e) →
      e.home = .here → e.state = .home → e.reservation = none →
      let period := match (s.rosterAt p).presence with
        | some n => n.period
        | none => s.sys.startup.presencePeriod
      let until_ := s.sys.clock + 2 * s.sys.startup.seekWindow + 1000 * period
      exec (.seekHeard p b) s = .next (queued
        (.have_ { req := b.req, volume := v, status := .home, cls := e.cls, ring := e.ring, retired := e.retired,
                  freeDrive := s.freeDriveFor (max (b.classWish.getD 0) e.cls) })
        { u with inv := { s.inv with entries := s.inv.entries.map fun z => if z.volume = v then
            { z with reservation := some { req := b.req, kind := .timed until_ } } else z } })) ∧
    (∀ b, askOk b = true → b.server = me → s.findReq b.req = none → (∀ m ∈ s.px.moved, m.1 ≠ b.req) →
      exec (.askHeard p b) s = .next (queued (.state { req := b.req, answer := .unknown }) u)) ∧
    (∀ b, placeOk b = true → b.target = me → b.viaHatch = false →
      (∀ q, s.findReq b.req = some q → q.role = .takenIn →
        exec (.placeHeard p b) s = .next (queued (.placed { target := p, req := b.req }) u)) ∧
      (s.findReq b.req = none → b.req.origin ≠ me →
        (32 ≤ s.rm.queue.length →
          exec (.placeHeard p b) s = .next (queued (.refused { target := p, req := b.req, reason := .noRoom }) u)) ∧
        (s.rm.queue.length < 32 → s.findEntry b.reel = none →
          exec (.placeHeard p b) s = .next (queued (.refused { target := p, req := b.req, reason := .notHere }) u)) ∧
        (∀ e, s.rm.queue.length < 32 → s.findEntry b.reel = some e → e.state = .home → e.retired = false → e.reservation = none →
          let taken := queued (.placed { target := p, req := b.req })
            { u with
              inv := { s.inv with entries := s.inv.entries.map fun z => if z.volume = b.reel then
                { z with reservation := some { req := b.req, kind := .held } } else z }
              rm := { s.rm with queue := insertReq (s.takenIn b .waiting none none) s.rm.queue } }
          exec (.placeHeard p b) s = .next (State.settle
            (if s.inv.bay = .audit then taken.push .plan else (taken.lookup b.req).push .plan)))))

/-- R120: a via-hatch PLACE from the neighbour of a configured hatch, with the bay NORMAL, room and a drive, is PLACED: the record joins
the Mount Queue in HOPPING with Hop 1 and its Hop Expiry, an arrival reservation and its drive RESERVED; with the bay not NORMAL it is refused
DOOR. -/
def Obligations.HopsAreTakenIn : Prop :=
  ∀ (p : Nat) (b : PlaceBody) (s : State), HearsPeer p s → s.line.txq.length < 16 → placeOk b = true →
    b.target = s.sys.startup.stationNumber → b.viaHatch = true → s.findReq b.req = none → b.req.origin ≠ s.sys.startup.stationNumber →
    (s.inv.bay ≠ .normal → exec (.viaHatchPlaceHeard p b) s = .next
      (queued (.refused { target := p, req := b.req, reason := .door }) (credited p s))) ∧
    (∀ side y, s.inv.bay = .normal → s.sideOf p = some side → s.hasHatch side = true → s.rm.queue.length < 32 → 1 ≤ s.tableRoom →
      s.chooseLocal (max (b.classWish.getD 0) b.reelClass) = some y →
      let taken := { s.takenIn b .hopping (some y.address) (some (s.acct.stationTime + s.sys.startup.hopTimeout)) with hop := 1 }
      exec (.viaHatchPlaceHeard p b) s = .next (queued (.placed { target := p, req := b.req })
        { credited p s with
          inv := { s.inv with hatchArrivals := s.inv.hatchArrivals ++ [b.req] }
          drv := { s.drv with drives := s.drv.drives.map fun z => if z.address = y.address then
            { z with state := .reserved, serving := some (.request b.req) } else z }
          rm := { s.rm with queue := insertReq taken s.rm.queue } }))

/-- R103, R107, R112, R113, R116 to R118: what a PRESENT peer's answers do to this station's requests: a HAVE joins the Answer List of
an open window, a PLACED makes the request its proxy, a REFUSED NO_ROOM counts an attempt, an OUTCOME MOUNTED makes the proxy
REMOTE_MOUNTED, a STATE PENDING changes nothing, a RELEASE(cancel) of the origin ends a waiting request; each is Stray where the request
is not known. The wait of a follow-up runs in milliseconds, as an exchange's timers do: log entry 10. -/
def Obligations.AnswersOfPeersAreTaken : Prop :=
  ∀ (p : Nat) (r : ReqNo) (s : State), HearsPeer p s →
    let me := s.sys.startup.stationNumber
    let u := credited p s
    let stray : State := { u with px := { s.px with stray := min 65535 (s.px.stray + 1) } }
    (s.findReq r = none →
      (∀ b, haveOk b = true → b.req = r → r.origin = me → exec (.haveHeard p b) s = .next stray) ∧
      (∀ b, placedOk b = true → b.req = r → b.target = me → r.origin ≠ me → exec (.placedHeard p b) s = .next stray) ∧
      (∀ b, refusedOk b = true → b.req = r → b.target = me → exec (.refusedHeard p b) s = .next stray) ∧
      (∀ b, outcomeOk b = true → b.req = r → r.origin = me → exec (.outcomeHeard p b) s = .next stray) ∧
      (∀ b, stateOk b = true → b.req = r → r.origin = me → exec (.stateHeard p b) s = .next stray) ∧
      (∀ b, releaseOk b = true → b.req = r → b.server = me → exec (.releaseHeard p b) s = .next stray)) ∧
    (∀ q, s.findReq r = some q →
      (∀ b, haveOk b = true → b.req = r → r.origin = me → q.phase = .window → (∀ a ∈ q.answers, a.station ≠ p) →
        exec (.haveHeard p b) s = .next (u.updReq r fun z => { z with answers := z.answers ++ [{ station := p, body := b }] })) ∧
      (∀ b, placedOk b = true → b.req = r → b.target = me → r.origin = me → q.role = .own → q.phase = .placing → q.placeTarget = some p →
        exec (.placedHeard p b) s = .next ((u.updReq r fun z =>
          { z with role := .proxy, state := .forwarded, server := some p, phase := .none, placeTarget := none, waitEnd := none,
                   followUp := none, placeWait := false, lineWait := false, unanswered := false, drive := none, hopTo := none,
                   roomWait := none, forwardDue := some (s.acct.stationTime + s.sys.startup.forwardCheckInterval) }).report
            (.request r q.jobTag (.forwarded p)))) ∧
      (∀ b, refusedOk b = true → b.req = r → b.target = me → b.reason = .noRoom → q.phase = .placing → q.placeTarget = some p →
        q.placeAttempts < 7 → exec (.refusedHeard p b) s = .next (u.updReq r fun z =>
          { z with placeAttempts := z.placeAttempts + 1, state := .locating, phase := .followUp, followUp := some .placeAgain,
                   waitEnd := some (s.sys.clock + 1000 * s.sys.startup.presencePeriod), unanswered := false, placeWait := false })) ∧
      (∀ b d, outcomeOk b = true → b.req = r → b.event = .mounted d → r.origin = me → q.role = .proxy → q.server = some p →
        q.state = .forwarded → exec (.outcomeHeard p b) s = .next
          ((u.updReq r fun z => { z with state := .remoteMounted }).report (.request r q.jobTag (.mounted d q.reel)))) ∧
      (∀ b, stateOk b = true → b.req = r → b.answer = .pending → r.origin = me → q.role = .proxy → q.server = some p →
        q.release = none → exec (.stateHeard p b) s = .next u) ∧
      (∀ b, releaseOk b = true → b.req = r → b.server = me → b.kind = .cancel → p = r.origin → q.role = .takenIn →
        q.state = .waiting → q.cancelPending = false → HoldsNothing r s → s.line.txq.length < 16 →
        exec (.releaseHeard p b) s = .next (queued (.outcome { req := r, event := .cancelled })
          { u with rm := { s.rm with queue := s.rm.queue.filter fun z => decide (z.req ≠ r) } })))

/-- R50, R108, R109, R112, R113: the ends of a request's waits: a window for a pool that closes without an answer fails it NO_SCRATCH, a
settle re-seek and a follow-up SEEK_AGAIN ask a SEEK, a PLACE without an answer counts an attempt, a via-hatch one skips the side. An event
brings the clock to its instant: log entry 2. What follows inside the command is worked off in turn: log entry 4. The wait of a follow-up
runs in milliseconds: log entry 10; the planning pass after a via-hatch wait: log entry 50. -/
def Obligations.WaitsOfAnExchangeEnd : Prop :=
  ∀ (r : ReqNo) (q : Request) (e : Nat) (s : State), s.agenda = [] → s.findReq r = some q →
    let t := clockAt e s
    let seeks : (Request → Request) → State := fun f => queued (.seek { req := r, want := q.want, access := q.access, classWish := q.classWish })
      (t.updReq r fun z => { f z with phase := .seeking, lineWait := false, placeTarget := none, waitEnd := none, followUp := none,
                                      placeWait := false, unanswered := false, windowEnd := none, answers := [] })
    (∀ k, q.windowEnd = some e → q.phase = .window → q.settleReseek = false → q.answers = [] → q.want = .pool k →
      s.scratchPick k = none → q.role = .own → r.origin = s.sys.startup.stationNumber → q.state = .locating → HoldsNothing r s →
      exec (.windowClose r) s = .next (({ t with rm := { s.rm with queue := s.rm.queue.filter fun z => decide (z.req ≠ r) } } : State).report
        (.request r q.jobTag (.failed .noScratch)))) ∧
    (∀ p, q.reseekDue = some e → s.promptOf r = some p → p.state = .settling → s.sys.mode = .active → CanQueue .seek s →
      exec (.settleReseek r) s = .next (seeks fun z => { z with reseekDue := none, settleReseek := true })) ∧
    (∀ p, q.phase = .placing → q.waitEnd = some e → q.placeTarget = some p → (s.rosterAt p).state = .present → q.placeAttempts < 7 →
      exec (.placeWaitEnd r) s = .next (t.updReq r fun z =>
        { z with placeAttempts := z.placeAttempts + 1, state := .locating, phase := .followUp, followUp := some .placeAgain,
                 waitEnd := some (t.sys.clock + 1000 * s.sys.startup.presencePeriod), unanswered := true, placeWait := false })) ∧
    (q.phase = .followUp → q.waitEnd = some e → q.lineWait = false → q.followUp = some .seekAgain → s.sys.mode = .active →
      CanQueue .seek s → exec (.followUpWaitEnd r) s = .next (seeks fun z => z)) ∧
    (∀ p side, q.phase = .hopPlacing → q.waitEnd = some e → q.placeTarget = some p → s.sideOf p = some side →
      let skipped := t.updReq r fun z =>
        { z with phase := .none, placeTarget := none, waitEnd := none,
                 skipLeft := z.skipLeft || decide (side = .left), skipRight := z.skipRight || decide (side = .right) }
      exec (.hopPlaceWaitEnd r) s = .next (State.settle { skipped with agenda := [.plan] }))

/-- R127, R130, R134, R135: a neighbour's HOLD of a resource shown NONE makes it PEER; its YIELD of one shown PEER makes it NONE, with the
cradle it names; its HANDOFF of one of its own reels, unknown here, makes this station the holder, with a visiting entry in the hatch that
is owed back. That a conflict over it is gone then, and its prompt with it where it was acknowledged, is the model's choice: log entry 101.
A flag of the model's own, cleared by a HANDOFF: log entry 84. What follows inside the command is worked off in turn: log entry 4. -/
def Obligations.ClaimFramesOfTheNeighbour : Prop :=
  ∀ (p : Nat) (res : Resource) (c : ClaimRec) (s : State), HearsPeer p s → s.findRec res = some c → c.neighbour = p →
    (∀ z ∈ s.claim.records, z.res = res → z = c) →
    let u := credited p s
    let sets : (ClaimRec → ClaimRec) → List ClaimRec := fun f => s.claim.records.map fun z => if z.res = res then f z else z
    (∀ b, holdOk b = true → b.resource = res → c.holder = .none → c.own = .none →
      exec (.holdHeard p b) s = .next { u with claim := { s.claim with
        records := sets fun z => { z with holder := .peer, own := .none, dropped := false } } }) ∧
    (∀ b n, yieldOk b = true → b.resource = res → res = .hatch n → c.holder = .peer → c.dispute = .none → c.conflictGone = false →
      exec (.yieldHeard p b) s = .next (State.settle { u with
        claim := { s.claim with records := sets fun z =>
          { z with holder := .none, own := .none, dropped := false, dispute := .none,
                   cradle := match b.cradle with
                     | some v => .volume v
                     | none => .empty } }
        agenda := [.plan, .claimTest] })) ∧
    (∀ b side, handoffOk b = true → res = .hatch b.boundary → s.resSide res = some side → b.req = none → b.home = p →
      s.findEntry b.volume = none → 1 ≤ s.tableRoom →
      (∀ m ∈ s.line.txq, isHold res false m.msg = false ∧ isHold res true m.msg = false ∧ isYield res m.msg = false) →
      let entries := s.inv.entries ++
        [{ volume := b.volume, home := .station p, slot := none, cls := b.cls, ring := b.ring,
           pool := if b.pool = 0 then none else some b.pool, passes := b.passes, errors := b.errors, retired := b.retired,
           unrecorded := false, exitPending := false, state := .inHatch side, reservation := none }]
      let records := sets fun z =>
        { z with holder := .self, own := .held, dropped := false, dispute := .none, conflictAcked := false, conflictGone := false,
                 concede := false, alone := false, cradle := .volume b.volume, handoffDue := some .noRequest, owed := some b.volume }
      ((c.dispute = .conflict → c.conflictAcked = false) →
        exec (.handoffHeard p b) s = .next (State.settle { u with
          inv := { s.inv with entries := entries }
          claim := { s.claim with records := records }
          agenda := [.handoffOn res, .obtained res, .useEnd] })) ∧
      (c.dispute = .conflict → c.conflictAcked = true → ∃ t : State, exec (.handoffHeard p b) s = .next t.settle ∧
        t.inv = { s.inv with entries := entries } ∧ t.claim = { s.claim with records := records } ∧ t.line = u.line))

/-! ## Invariants -/

/-- The invariants below hold after reset. -/
def Obligations.InvariantsHoldAtReset : Prop :=
  StartUp.Legal State.reset.sys.startup ∧ State.reset.FixedTables ∧ State.reset.CountersFit ∧ State.reset.LineFits ∧
  State.reset.Bounded ∧ TotalsAgree State.reset ∧ State.reset.agenda = []

/-- R193, R194: whatever command or tick is taken, a legal Start-Up Block stays legal. -/
def Obligations.EveryStepKeepsALegalStartUp : Prop :=
  ∀ s t : State, StartUp.Legal s.sys.startup → step s = .next t → StartUp.Legal t.sys.startup

/-- R12, R98, R160, R170: whatever command or tick is taken, the tables of fixed size keep their sizes. R1 to R3, R20, R40, R67, R89, R140,
R173, R187: the tables and queues that grow keep their bounds, and no two records of one table have the same number, volume, slot, address
or class and subject. -/
def Obligations.EveryStepKeepsTheTables : Prop :=
  (∀ s t : State, s.FixedTables → step s = .next t → t.FixedTables) ∧
  ∀ s t : State, s.Bounded → step s = .next t → t.Bounded

/-- R42, R72, R73, R91, R92, R96, R97, R103, R158, R173: whatever command or tick is taken, the counters stay in their ranges, and the
line state goes with the mode and, by its hysteresis, with the score. -/
def Obligations.EveryStepKeepsTheLineAndItsCounters : Prop :=
  ∀ s t : State, s.CountersFit → s.LineFits → step s = .next t → t.CountersFit ∧ t.LineFits

/-- R169, R170, R172: whatever command or tick is taken, the Station Charge Total, while it is not Saturated, equals the sum of the
accounts. -/
def Obligations.EveryStepKeepsTheTotalsInAgreement : Prop :=
  ∀ s t : State, TotalsAgree s → step s = .next t → TotalsAgree t
end

