-- ==== Sys2Proof/Laws/State.lean ====
section
/-! SUPPORT. What changing one unit of the state leaves in every field: true by rfl, and used as simp rules. -/

namespace Sys2Proof.Machine

variable (s : State)

@[simp] theorem State.modSys_sys (f : Sys → Sys) : (s.modSys f).sys = f s.sys := rfl
@[simp] theorem State.modSys_inv (f : Sys → Sys) : (s.modSys f).inv = s.inv := rfl
@[simp] theorem State.modSys_drv (f : Sys → Sys) : (s.modSys f).drv = s.drv := rfl
@[simp] theorem State.modSys_rm (f : Sys → Sys) : (s.modSys f).rm = s.rm := rfl
@[simp] theorem State.modSys_px (f : Sys → Sys) : (s.modSys f).px = s.px := rfl
@[simp] theorem State.modSys_arm (f : Sys → Sys) : (s.modSys f).arm = s.arm := rfl
@[simp] theorem State.modSys_line (f : Sys → Sys) : (s.modSys f).line = s.line := rfl
@[simp] theorem State.modSys_claim (f : Sys → Sys) : (s.modSys f).claim = s.claim := rfl
@[simp] theorem State.modSys_panel (f : Sys → Sys) : (s.modSys f).panel = s.panel := rfl
@[simp] theorem State.modSys_acct (f : Sys → Sys) : (s.modSys f).acct = s.acct := rfl
@[simp] theorem State.modSys_port (f : Sys → Sys) : (s.modSys f).port = s.port := rfl
@[simp] theorem State.modSys_agenda (f : Sys → Sys) : (s.modSys f).agenda = s.agenda := rfl
@[simp] theorem State.modSys_pending (f : Sys → Sys) : (s.modSys f).pending = s.pending := rfl

@[simp] theorem State.modInv_sys (f : Inv → Inv) : (s.modInv f).sys = s.sys := rfl
@[simp] theorem State.modInv_inv (f : Inv → Inv) : (s.modInv f).inv = f s.inv := rfl
@[simp] theorem State.modInv_drv (f : Inv → Inv) : (s.modInv f).drv = s.drv := rfl
@[simp] theorem State.modInv_rm (f : Inv → Inv) : (s.modInv f).rm = s.rm := rfl
@[simp] theorem State.modInv_px (f : Inv → Inv) : (s.modInv f).px = s.px := rfl
@[simp] theorem State.modInv_arm (f : Inv → Inv) : (s.modInv f).arm = s.arm := rfl
@[simp] theorem State.modInv_line (f : Inv → Inv) : (s.modInv f).line = s.line := rfl
@[simp] theorem State.modInv_claim (f : Inv → Inv) : (s.modInv f).claim = s.claim := rfl
@[simp] theorem State.modInv_panel (f : Inv → Inv) : (s.modInv f).panel = s.panel := rfl
@[simp] theorem State.modInv_acct (f : Inv → Inv) : (s.modInv f).acct = s.acct := rfl
@[simp] theorem State.modInv_port (f : Inv → Inv) : (s.modInv f).port = s.port := rfl
@[simp] theorem State.modInv_agenda (f : Inv → Inv) : (s.modInv f).agenda = s.agenda := rfl
@[simp] theorem State.modInv_pending (f : Inv → Inv) : (s.modInv f).pending = s.pending := rfl

@[simp] theorem State.modDrv_sys (f : Drv → Drv) : (s.modDrv f).sys = s.sys := rfl
@[simp] theorem State.modDrv_inv (f : Drv → Drv) : (s.modDrv f).inv = s.inv := rfl
@[simp] theorem State.modDrv_drv (f : Drv → Drv) : (s.modDrv f).drv = f s.drv := rfl
@[simp] theorem State.modDrv_rm (f : Drv → Drv) : (s.modDrv f).rm = s.rm := rfl
@[simp] theorem State.modDrv_px (f : Drv → Drv) : (s.modDrv f).px = s.px := rfl
@[simp] theorem State.modDrv_arm (f : Drv → Drv) : (s.modDrv f).arm = s.arm := rfl
@[simp] theorem State.modDrv_line (f : Drv → Drv) : (s.modDrv f).line = s.line := rfl
@[simp] theorem State.modDrv_claim (f : Drv → Drv) : (s.modDrv f).claim = s.claim := rfl
@[simp] theorem State.modDrv_panel (f : Drv → Drv) : (s.modDrv f).panel = s.panel := rfl
@[simp] theorem State.modDrv_acct (f : Drv → Drv) : (s.modDrv f).acct = s.acct := rfl
@[simp] theorem State.modDrv_port (f : Drv → Drv) : (s.modDrv f).port = s.port := rfl
@[simp] theorem State.modDrv_agenda (f : Drv → Drv) : (s.modDrv f).agenda = s.agenda := rfl
@[simp] theorem State.modDrv_pending (f : Drv → Drv) : (s.modDrv f).pending = s.pending := rfl

@[simp] theorem State.modRm_sys (f : Rm → Rm) : (s.modRm f).sys = s.sys := rfl
@[simp] theorem State.modRm_inv (f : Rm → Rm) : (s.modRm f).inv = s.inv := rfl
@[simp] theorem State.modRm_drv (f : Rm → Rm) : (s.modRm f).drv = s.drv := rfl
@[simp] theorem State.modRm_rm (f : Rm → Rm) : (s.modRm f).rm = f s.rm := rfl
@[simp] theorem State.modRm_px (f : Rm → Rm) : (s.modRm f).px = s.px := rfl
@[simp] theorem State.modRm_arm (f : Rm → Rm) : (s.modRm f).arm = s.arm := rfl
@[simp] theorem State.modRm_line (f : Rm → Rm) : (s.modRm f).line = s.line := rfl
@[simp] theorem State.modRm_claim (f : Rm → Rm) : (s.modRm f).claim = s.claim := rfl
@[simp] theorem State.modRm_panel (f : Rm → Rm) : (s.modRm f).panel = s.panel := rfl
@[simp] theorem State.modRm_acct (f : Rm → Rm) : (s.modRm f).acct = s.acct := rfl
@[simp] theorem State.modRm_port (f : Rm → Rm) : (s.modRm f).port = s.port := rfl
@[simp] theorem State.modRm_agenda (f : Rm → Rm) : (s.modRm f).agenda = s.agenda := rfl
@[simp] theorem State.modRm_pending (f : Rm → Rm) : (s.modRm f).pending = s.pending := rfl

@[simp] theorem State.modPx_sys (f : Px → Px) : (s.modPx f).sys = s.sys := rfl
@[simp] theorem State.modPx_inv (f : Px → Px) : (s.modPx f).inv = s.inv := rfl
@[simp] theorem State.modPx_drv (f : Px → Px) : (s.modPx f).drv = s.drv := rfl
@[simp] theorem State.modPx_rm (f : Px → Px) : (s.modPx f).rm = s.rm := rfl
@[simp] theorem State.modPx_px (f : Px → Px) : (s.modPx f).px = f s.px := rfl
@[simp] theorem State.modPx_arm (f : Px → Px) : (s.modPx f).arm = s.arm := rfl
@[simp] theorem State.modPx_line (f : Px → Px) : (s.modPx f).line = s.line := rfl
@[simp] theorem State.modPx_claim (f : Px → Px) : (s.modPx f).claim = s.claim := rfl
@[simp] theorem State.modPx_panel (f : Px → Px) : (s.modPx f).panel = s.panel := rfl
@[simp] theorem State.modPx_acct (f : Px → Px) : (s.modPx f).acct = s.acct := rfl
@[simp] theorem State.modPx_port (f : Px → Px) : (s.modPx f).port = s.port := rfl
@[simp] theorem State.modPx_agenda (f : Px → Px) : (s.modPx f).agenda = s.agenda := rfl
@[simp] theorem State.modPx_pending (f : Px → Px) : (s.modPx f).pending = s.pending := rfl

@[simp] theorem State.modArm_sys (f : Arm → Arm) : (s.modArm f).sys = s.sys := rfl
@[simp] theorem State.modArm_inv (f : Arm → Arm) : (s.modArm f).inv = s.inv := rfl
@[simp] theorem State.modArm_drv (f : Arm → Arm) : (s.modArm f).drv = s.drv := rfl
@[simp] theorem State.modArm_rm (f : Arm → Arm) : (s.modArm f).rm = s.rm := rfl
@[simp] theorem State.modArm_px (f : Arm → Arm) : (s.modArm f).px = s.px := rfl
@[simp] theorem State.modArm_arm (f : Arm → Arm) : (s.modArm f).arm = f s.arm := rfl
@[simp] theorem State.modArm_line (f : Arm → Arm) : (s.modArm f).line = s.line := rfl
@[simp] theorem State.modArm_claim (f : Arm → Arm) : (s.modArm f).claim = s.claim := rfl
@[simp] theorem State.modArm_panel (f : Arm → Arm) : (s.modArm f).panel = s.panel := rfl
@[simp] theorem State.modArm_acct (f : Arm → Arm) : (s.modArm f).acct = s.acct := rfl
@[simp] theorem State.modArm_port (f : Arm → Arm) : (s.modArm f).port = s.port := rfl
@[simp] theorem State.modArm_agenda (f : Arm → Arm) : (s.modArm f).agenda = s.agenda := rfl
@[simp] theorem State.modArm_pending (f : Arm → Arm) : (s.modArm f).pending = s.pending := rfl

@[simp] theorem State.modLine_sys (f : Line → Line) : (s.modLine f).sys = s.sys := rfl
@[simp] theorem State.modLine_inv (f : Line → Line) : (s.modLine f).inv = s.inv := rfl
@[simp] theorem State.modLine_drv (f : Line → Line) : (s.modLine f).drv = s.drv := rfl
@[simp] theorem State.modLine_rm (f : Line → Line) : (s.modLine f).rm = s.rm := rfl
@[simp] theorem State.modLine_px (f : Line → Line) : (s.modLine f).px = s.px := rfl
@[simp] theorem State.modLine_arm (f : Line → Line) : (s.modLine f).arm = s.arm := rfl
@[simp] theorem State.modLine_line (f : Line → Line) : (s.modLine f).line = f s.line := rfl
@[simp] theorem State.modLine_claim (f : Line → Line) : (s.modLine f).claim = s.claim := rfl
@[simp] theorem State.modLine_panel (f : Line → Line) : (s.modLine f).panel = s.panel := rfl
@[simp] theorem State.modLine_acct (f : Line → Line) : (s.modLine f).acct = s.acct := rfl
@[simp] theorem State.modLine_port (f : Line → Line) : (s.modLine f).port = s.port := rfl
@[simp] theorem State.modLine_agenda (f : Line → Line) : (s.modLine f).agenda = s.agenda := rfl
@[simp] theorem State.modLine_pending (f : Line → Line) : (s.modLine f).pending = s.pending := rfl

@[simp] theorem State.modClaim_sys (f : Claim → Claim) : (s.modClaim f).sys = s.sys := rfl
@[simp] theorem State.modClaim_inv (f : Claim → Claim) : (s.modClaim f).inv = s.inv := rfl
@[simp] theorem State.modClaim_drv (f : Claim → Claim) : (s.modClaim f).drv = s.drv := rfl
@[simp] theorem State.modClaim_rm (f : Claim → Claim) : (s.modClaim f).rm = s.rm := rfl
@[simp] theorem State.modClaim_px (f : Claim → Claim) : (s.modClaim f).px = s.px := rfl
@[simp] theorem State.modClaim_arm (f : Claim → Claim) : (s.modClaim f).arm = s.arm := rfl
@[simp] theorem State.modClaim_line (f : Claim → Claim) : (s.modClaim f).line = s.line := rfl
@[simp] theorem State.modClaim_claim (f : Claim → Claim) : (s.modClaim f).claim = f s.claim := rfl
@[simp] theorem State.modClaim_panel (f : Claim → Claim) : (s.modClaim f).panel = s.panel := rfl
@[simp] theorem State.modClaim_acct (f : Claim → Claim) : (s.modClaim f).acct = s.acct := rfl
@[simp] theorem State.modClaim_port (f : Claim → Claim) : (s.modClaim f).port = s.port := rfl
@[simp] theorem State.modClaim_agenda (f : Claim → Claim) : (s.modClaim f).agenda = s.agenda := rfl
@[simp] theorem State.modClaim_pending (f : Claim → Claim) : (s.modClaim f).pending = s.pending := rfl

@[simp] theorem State.modPanel_sys (f : Panel → Panel) : (s.modPanel f).sys = s.sys := rfl
@[simp] theorem State.modPanel_inv (f : Panel → Panel) : (s.modPanel f).inv = s.inv := rfl
@[simp] theorem State.modPanel_drv (f : Panel → Panel) : (s.modPanel f).drv = s.drv := rfl
@[simp] theorem State.modPanel_rm (f : Panel → Panel) : (s.modPanel f).rm = s.rm := rfl
@[simp] theorem State.modPanel_px (f : Panel → Panel) : (s.modPanel f).px = s.px := rfl
@[simp] theorem State.modPanel_arm (f : Panel → Panel) : (s.modPanel f).arm = s.arm := rfl
@[simp] theorem State.modPanel_line (f : Panel → Panel) : (s.modPanel f).line = s.line := rfl
@[simp] theorem State.modPanel_claim (f : Panel → Panel) : (s.modPanel f).claim = s.claim := rfl
@[simp] theorem State.modPanel_panel (f : Panel → Panel) : (s.modPanel f).panel = f s.panel := rfl
@[simp] theorem State.modPanel_acct (f : Panel → Panel) : (s.modPanel f).acct = s.acct := rfl
@[simp] theorem State.modPanel_port (f : Panel → Panel) : (s.modPanel f).port = s.port := rfl
@[simp] theorem State.modPanel_agenda (f : Panel → Panel) : (s.modPanel f).agenda = s.agenda := rfl
@[simp] theorem State.modPanel_pending (f : Panel → Panel) : (s.modPanel f).pending = s.pending := rfl

@[simp] theorem State.modAcct_sys (f : Acct → Acct) : (s.modAcct f).sys = s.sys := rfl
@[simp] theorem State.modAcct_inv (f : Acct → Acct) : (s.modAcct f).inv = s.inv := rfl
@[simp] theorem State.modAcct_drv (f : Acct → Acct) : (s.modAcct f).drv = s.drv := rfl
@[simp] theorem State.modAcct_rm (f : Acct → Acct) : (s.modAcct f).rm = s.rm := rfl
@[simp] theorem State.modAcct_px (f : Acct → Acct) : (s.modAcct f).px = s.px := rfl
@[simp] theorem State.modAcct_arm (f : Acct → Acct) : (s.modAcct f).arm = s.arm := rfl
@[simp] theorem State.modAcct_line (f : Acct → Acct) : (s.modAcct f).line = s.line := rfl
@[simp] theorem State.modAcct_claim (f : Acct → Acct) : (s.modAcct f).claim = s.claim := rfl
@[simp] theorem State.modAcct_panel (f : Acct → Acct) : (s.modAcct f).panel = s.panel := rfl
@[simp] theorem State.modAcct_acct (f : Acct → Acct) : (s.modAcct f).acct = f s.acct := rfl
@[simp] theorem State.modAcct_port (f : Acct → Acct) : (s.modAcct f).port = s.port := rfl
@[simp] theorem State.modAcct_agenda (f : Acct → Acct) : (s.modAcct f).agenda = s.agenda := rfl
@[simp] theorem State.modAcct_pending (f : Acct → Acct) : (s.modAcct f).pending = s.pending := rfl

@[simp] theorem State.modPort_sys (f : Port → Port) : (s.modPort f).sys = s.sys := rfl
@[simp] theorem State.modPort_inv (f : Port → Port) : (s.modPort f).inv = s.inv := rfl
@[simp] theorem State.modPort_drv (f : Port → Port) : (s.modPort f).drv = s.drv := rfl
@[simp] theorem State.modPort_rm (f : Port → Port) : (s.modPort f).rm = s.rm := rfl
@[simp] theorem State.modPort_px (f : Port → Port) : (s.modPort f).px = s.px := rfl
@[simp] theorem State.modPort_arm (f : Port → Port) : (s.modPort f).arm = s.arm := rfl
@[simp] theorem State.modPort_line (f : Port → Port) : (s.modPort f).line = s.line := rfl
@[simp] theorem State.modPort_claim (f : Port → Port) : (s.modPort f).claim = s.claim := rfl
@[simp] theorem State.modPort_panel (f : Port → Port) : (s.modPort f).panel = s.panel := rfl
@[simp] theorem State.modPort_acct (f : Port → Port) : (s.modPort f).acct = s.acct := rfl
@[simp] theorem State.modPort_port (f : Port → Port) : (s.modPort f).port = f s.port := rfl
@[simp] theorem State.modPort_agenda (f : Port → Port) : (s.modPort f).agenda = s.agenda := rfl
@[simp] theorem State.modPort_pending (f : Port → Port) : (s.modPort f).pending = s.pending := rfl

@[simp] theorem State.withAgenda_sys (a : List Work) : (s.withAgenda a).sys = s.sys := rfl
@[simp] theorem State.withAgenda_inv (a : List Work) : (s.withAgenda a).inv = s.inv := rfl
@[simp] theorem State.withAgenda_drv (a : List Work) : (s.withAgenda a).drv = s.drv := rfl
@[simp] theorem State.withAgenda_rm (a : List Work) : (s.withAgenda a).rm = s.rm := rfl
@[simp] theorem State.withAgenda_px (a : List Work) : (s.withAgenda a).px = s.px := rfl
@[simp] theorem State.withAgenda_arm (a : List Work) : (s.withAgenda a).arm = s.arm := rfl
@[simp] theorem State.withAgenda_line (a : List Work) : (s.withAgenda a).line = s.line := rfl
@[simp] theorem State.withAgenda_claim (a : List Work) : (s.withAgenda a).claim = s.claim := rfl
@[simp] theorem State.withAgenda_panel (a : List Work) : (s.withAgenda a).panel = s.panel := rfl
@[simp] theorem State.withAgenda_acct (a : List Work) : (s.withAgenda a).acct = s.acct := rfl
@[simp] theorem State.withAgenda_port (a : List Work) : (s.withAgenda a).port = s.port := rfl
@[simp] theorem State.withAgenda_agenda (a : List Work) : (s.withAgenda a).agenda = a := rfl
@[simp] theorem State.withAgenda_pending (a : List Work) : (s.withAgenda a).pending = s.pending := rfl

@[simp] theorem State.withPending_sys (a : List Instr) : (s.withPending a).sys = s.sys := rfl
@[simp] theorem State.withPending_inv (a : List Instr) : (s.withPending a).inv = s.inv := rfl
@[simp] theorem State.withPending_drv (a : List Instr) : (s.withPending a).drv = s.drv := rfl
@[simp] theorem State.withPending_rm (a : List Instr) : (s.withPending a).rm = s.rm := rfl
@[simp] theorem State.withPending_px (a : List Instr) : (s.withPending a).px = s.px := rfl
@[simp] theorem State.withPending_arm (a : List Instr) : (s.withPending a).arm = s.arm := rfl
@[simp] theorem State.withPending_line (a : List Instr) : (s.withPending a).line = s.line := rfl
@[simp] theorem State.withPending_claim (a : List Instr) : (s.withPending a).claim = s.claim := rfl
@[simp] theorem State.withPending_panel (a : List Instr) : (s.withPending a).panel = s.panel := rfl
@[simp] theorem State.withPending_acct (a : List Instr) : (s.withPending a).acct = s.acct := rfl
@[simp] theorem State.withPending_port (a : List Instr) : (s.withPending a).port = s.port := rfl
@[simp] theorem State.withPending_agenda (a : List Instr) : (s.withPending a).agenda = s.agenda := rfl
@[simp] theorem State.withPending_pending (a : List Instr) : (s.withPending a).pending = a := rfl

end Sys2Proof.Machine
end

