-- ==== Sys2Proof/Laws/Kept.lean ====
section
/-! SUPPORT. What no consequence of a command changes: mode, configuration and clock, the accounts, the bay condition and the number of cells, the line state
with its score and roster, the counters of the arm, the reply and the heartbeat of the port, the door, the queue of waiting
commands. `State.kept` gathers them; each shared operation that leaves them has its lemma here. -/

namespace Sys2Proof.Machine

set_option linter.all false

theorem State.kept_forEach {α : Type} (l : List α) (f : α → State → State) (s : State) (h : ∀ a t, (f a t).kept = t.kept) :
    (State.forEach l f s).kept = s.kept := by
  unfold State.forEach
  induction l generalizing s with
  | nil => rfl
  | cons a l ih => rw [List.foldl_cons, ih, h]

theorem State.kept_modDrv (f : Drv → Drv) (s : State) : (s.modDrv f).kept = s.kept := rfl
theorem State.kept_modClaim (f : Claim → Claim) (s : State) : (s.modClaim f).kept = s.kept := rfl
theorem State.kept_withAgenda (a : List Work) (s : State) : (s.withAgenda a).kept = s.kept := rfl

theorem State.kept_modInv (f : Inv → Inv) (s : State) (h : ∀ u, (f u).bay = u.bay ∧ (f u).cells.length = u.cells.length) :
    (s.modInv f).kept = s.kept := by
  simp [State.kept, h]

theorem State.kept_modRm (f : Rm → Rm) (s : State) (h : ∀ u, (f u).lastSeq = u.lastSeq) : (s.modRm f).kept = s.kept := by
  simp [State.kept, h]

theorem State.kept_modPx (f : Px → Px) (s : State) (h : ∀ u, (f u).stray = u.stray) : (s.modPx f).kept = s.kept := by
  simp [State.kept, h]

theorem State.kept_modArm (f : Arm → Arm) (s : State) (h : ∀ u, (f u).retryCounter = u.retryCounter ∧ (f u).stale = u.stale) :
    (s.modArm f).kept = s.kept := by
  simp [State.kept, h]

theorem State.kept_modLine (f : Line → Line) (s : State) 
    (h : ∀ u, (f u).state = u.state ∧ (f u).score = u.score ∧ (f u).errors = u.errors ∧ (f u).errOverflow = u.errOverflow ∧
      (f u).roster = u.roster ∧ (f u).presenceEnd = u.presenceEnd ∧ (f u).goodFrames = u.goodFrames ∧ (f u).quietEnd = u.quietEnd) :
    (s.modLine f).kept = s.kept := by
  simp [State.kept, h]

theorem State.kept_modPanel (f : Panel → Panel) (s : State)
    (h : ∀ u, (f u).doorIsOpen = u.doorIsOpen ∧ (f u).doorLimitEnd = u.doorLimitEnd ∧ (f u).doorExpired = u.doorExpired ∧
      (f u).nextPress = u.nextPress) : (s.modPanel f).kept = s.kept := by
  simp [State.kept, h]

theorem State.kept_modPort (f : Port → Port) (s : State)
    (h : ∀ u, (f u).reply = u.reply ∧ (f u).frameFault = u.frameFault ∧ (f u).lastHeartbeat = u.lastHeartbeat ∧
      (f u).silenceEnd = u.silenceEnd) : (s.modPort f).kept = s.kept := by
  simp [State.kept, h]

theorem State.kept_ite {p : Prop} [Decidable p] (a b : State) : (if p then a else b).kept = if p then a.kept else b.kept := by
  split <;> rfl

theorem State.kept_claimReel (v : Serial) (r : ReqNo) (k : ReservKind) (s : State) : (s.claimReel v r k).2.kept = s.kept := by
  unfold State.claimReel
  split <;> rfl

theorem State.kept_of_claimReel {v : Serial} {r : ReqNo} {k : ReservKind} {s u : State} {c : ClaimResult}
    (h : s.claimReel v r k = (c, u)) : u.kept = s.kept := by rw [← State.kept_claimReel v r k s, h]

theorem State.kept_homeDest (e : Entry) (s : State) : (s.homeDest e).2.2.kept = s.kept := by
  unfold State.homeDest
  dsimp only
  repeat' split
  all_goals rfl

theorem State.kept_of_homeDest {e : Entry} {s u : State} {d : Loc} {p : Option CellPurpose} (h : s.homeDest e = (d, p, u)) :
    u.kept = s.kept := by rw [← State.kept_homeDest e s, h]

theorem State.kept_push (w : Work) (s : State) : (s.push w).kept = s.kept := by
  unfold State.push; split <;> rfl

theorem State.kept_report (b : ReportBody) (s : State) : (s.report b).kept = s.kept := by
  unfold State.report State.modPort; dsimp only; split <;> rfl

theorem State.kept_updEntry (v : Serial) (f : Entry → Entry) (s : State) : (s.updEntry v f).kept = s.kept := by
  unfold State.updEntry
  try dsimp only
  repeat' first
    | with_reducible rfl
    | intro _
    | rw [State.kept_modInv]
    | simp only [and_self, List.length_set]
    | split
    | rfl

theorem State.kept_delEntry (v : Serial) (s : State) : (s.delEntry v).kept = s.kept := by
  unfold State.delEntry
  try dsimp only
  repeat' first
    | with_reducible rfl
    | intro _
    | rw [State.kept_modInv]
    | simp only [and_self, List.length_set]
    | split
    | rfl

theorem State.kept_addEntry (e : Entry) (s : State) : (s.addEntry e).kept = s.kept := by
  unfold State.addEntry
  try dsimp only
  repeat' first
    | with_reducible rfl
    | intro _
    | rw [State.kept_modInv]
    | simp only [and_self, List.length_set]
    | split
    | rfl

theorem State.kept_updReq (r : ReqNo) (f : Request → Request) (s : State) : (s.updReq r f).kept = s.kept := by
  unfold State.updReq
  try dsimp only
  repeat' first
    | with_reducible rfl
    | intro _
    | rw [State.kept_modRm]
    | simp only [and_self]
    | split
    | rfl

theorem State.kept_delReq (r : ReqNo) (s : State) : (s.delReq r).kept = s.kept := by
  unfold State.delReq
  try dsimp only
  repeat' first
    | with_reducible rfl
    | intro _
    | rw [State.kept_modRm]
    | simp only [and_self]
    | split
    | rfl

theorem State.kept_addReq (q : Request) (s : State) : (s.addReq q).kept = s.kept := by
  unfold State.addReq
  try dsimp only
  repeat' first
    | with_reducible rfl
    | intro _
    | rw [State.kept_modRm]
    | simp only [and_self]
    | split
    | rfl

theorem State.kept_updDrive (d : Nat) (f : Drive → Drive) (s : State) : (s.updDrive d f).kept = s.kept := by
  unfold State.updDrive
  try dsimp only
  repeat' first
    | with_reducible rfl
    | intro _
    | simp only [State.kept_modDrv]
    | split

theorem State.kept_updRec (res : Resource) (f : ClaimRec → ClaimRec) (s : State) : (s.updRec res f).kept = s.kept := by
  unfold State.updRec
  try dsimp only
  repeat' first
    | with_reducible rfl
    | intro _
    | simp only [State.kept_modClaim]
    | split

theorem State.kept_giveUpMsg (m : Msg) (cause : UndelCause) (attempts : Nat) (s : State) : (s.giveUpMsg m cause attempts).kept = s.kept := by
  unfold State.giveUpMsg
  try dsimp only
  repeat' first
    | with_reducible rfl
    | intro _
    | simp only [State.kept_report, State.kept_push]
    | split

theorem State.kept_sendTagged (tag : PresTag) (m : Msg) (s : State) : (s.sendTagged tag m).kept = s.kept := by
  unfold State.sendTagged
  try dsimp only
  repeat' first
    | with_reducible rfl
    | intro _
    | simp only [State.kept_giveUpMsg]
    | rw [State.kept_modLine]
    | simp only [and_self]
    | split
    | rfl

theorem State.kept_send (m : Msg) (s : State) : (s.send m).kept = s.kept := by
  unfold State.send
  try dsimp only
  repeat' first
    | with_reducible rfl
    | intro _
    | simp only [State.kept_sendTagged]
    | split

theorem State.kept_withdraw (p : Msg → Bool) (s : State) : (s.withdraw p).kept = s.kept := by
  unfold State.withdraw
  try dsimp only
  repeat' first
    | with_reducible rfl
    | intro _
    | rw [State.kept_modLine]
    | simp only [and_self]
    | split
    | rfl

theorem State.kept_putCell (c : Nat) (st : CellState) (s : State) : (s.putCell c st).kept = s.kept := by
  unfold State.putCell
  try dsimp only
  repeat' first
    | with_reducible rfl
    | intro _
    | rw [State.kept_modInv]
    | simp only [and_self, List.length_set]
    | split
    | rfl

theorem State.kept_emptyCell (c : Nat) (s : State) : (s.emptyCell c).kept = s.kept := by
  unfold State.emptyCell
  try dsimp only
  repeat' first
    | with_reducible rfl
    | intro _
    | simp only [State.kept_putCell, State.kept_push]
    | split

theorem State.kept_endReservations (r : ReqNo) (s : State) : (s.endReservations r).kept = s.kept := by
  unfold State.endReservations
  try dsimp only
  repeat' first
    | with_reducible rfl
    | intro _
    | rw [State.kept_modInv]
    | simp only [and_self, List.length_set]
    | split
    | rfl

theorem State.kept_dropArrival (r : ReqNo) (s : State) : (s.dropArrival r).kept = s.kept := by
  unfold State.dropArrival
  try dsimp only
  repeat' first
    | with_reducible rfl
    | intro _
    | rw [State.kept_modInv]
    | simp only [and_self, List.length_set]
    | split
    | rfl

theorem State.kept_countPass (v : Serial) (s : State) : (s.countPass v).kept = s.kept := by
  unfold State.countPass
  try dsimp only
  repeat' first
    | with_reducible rfl
    | intro _
    | simp only [State.kept_updEntry]
    | split

theorem State.kept_wearReel (v : Serial) (errors : Nat) (s : State) : (s.wearReel v errors).kept = s.kept := by
  unfold State.wearReel
  try dsimp only
  repeat' first
    | with_reducible rfl
    | intro _
    | simp only [State.kept_updEntry]
    | split

theorem State.kept_reelMissing (v : Serial) (s : State) : (s.reelMissing v).kept = s.kept := by
  unfold State.reelMissing
  try dsimp only
  repeat' first
    | with_reducible rfl
    | intro _
    | simp only [State.kept_push, State.kept_updEntry]
    | rw [State.kept_forEach]
    | split

theorem State.kept_retireEntry (v : Serial) (s : State) : (s.retireEntry v).kept = s.kept := by
  unfold State.retireEntry
  try dsimp only
  repeat' first
    | with_reducible rfl
    | intro _
    | simp only [State.kept_push, State.kept_delEntry]
    | rw [State.kept_forEach]
    | split

theorem State.kept_updPrompt (k : PromptKey) (f : Prompt → Prompt) (s : State) : (s.updPrompt k f).kept = s.kept := by
  unfold State.updPrompt
  try dsimp only
  repeat' first
    | with_reducible rfl
    | intro _
    | rw [State.kept_modPanel]
    | simp only [and_self]
    | split
    | rfl

theorem State.kept_relamp (s : State) : s.relamp.kept = s.kept := by
  unfold State.relamp
  try dsimp only
  repeat' first
    | with_reducible rfl
    | intro _
    | rw [State.kept_modPanel]
    | simp only [and_self]
    | split
    | rfl

theorem State.kept_reportPrompt (ev : PromptEvent) (p : Prompt) (acks : Option Nat) (s : State) : (s.reportPrompt ev p acks).kept = s.kept := by
  unfold State.reportPrompt
  try dsimp only
  repeat' first
    | with_reducible rfl
    | intro _
    | simp only [State.kept_report]
    | split

theorem State.kept_cursorTo (k : PromptKey) (s : State) : (s.cursorTo k).kept = s.kept := by
  unfold State.cursorTo
  try dsimp only
  repeat' first
    | with_reducible rfl
    | intro _
    | rw [State.kept_modPanel]
    | simp only [and_self]
    | split
    | rfl

theorem State.kept_showPrompt (k : PromptKey) (s : State) : (s.showPrompt k).kept = s.kept := by
  unfold State.showPrompt
  try dsimp only
  repeat' first
    | with_reducible rfl
    | intro _
    | simp only [State.kept_updPrompt, State.kept_reportPrompt, State.kept_cursorTo, State.kept_relamp]
    | split

theorem State.kept_escalate (k : PromptKey) (s : State) : (s.escalate k).kept = s.kept := by
  unfold State.escalate
  try dsimp only
  repeat' first
    | with_reducible rfl
    | intro _
    | simp only [State.kept_showPrompt, State.kept_updPrompt, State.kept_reportPrompt, State.kept_relamp]
    | split

theorem State.kept_returnPrompt (k : PromptKey) (s : State) : (s.returnPrompt k).kept = s.kept := by
  unfold State.returnPrompt
  try dsimp only
  repeat' first
    | with_reducible rfl
    | intro _
    | simp only [State.kept_updPrompt, State.kept_cursorTo, State.kept_relamp, State.kept_escalate]
    | split

theorem State.kept_leavePrompt (k : PromptKey) (s : State) : (s.leavePrompt k).kept = s.kept := by
  unfold State.leavePrompt
  try dsimp only
  repeat' first
    | with_reducible rfl
    | intro _
    | simp only [State.kept_relamp, State.kept_push]
    | rw [State.kept_modPanel]
    | simp only [and_self]
    | split
    | rfl

theorem State.kept_withdrawPrompt (k : PromptKey) (s : State) : (s.withdrawPrompt k).kept = s.kept := by
  unfold State.withdrawPrompt
  try dsimp only
  repeat' first
    | with_reducible rfl
    | intro _
    | simp only [State.kept_leavePrompt]
    | rw [State.kept_modPanel]
    | simp only [and_self]
    | split
    | rfl

theorem State.kept_defer (c : DeferredCause) (s : State) : (s.defer c).kept = s.kept := by
  unfold State.defer
  try dsimp only
  repeat' first
    | with_reducible rfl
    | intro _
    | rw [State.kept_modPanel]
    | simp only [and_self]
    | split
    | rfl

theorem State.kept_linkReq (r : ReqNo) (k : PromptKey) (s : State) : (s.linkReq r k).kept = s.kept := by
  unfold State.linkReq
  try dsimp only
  repeat' first
    | with_reducible rfl
    | intro _
    | simp only [State.kept_updReq, State.kept_report, State.kept_escalate]
    | split

theorem State.kept_planEntry (r : ReqNo) (s : State) : (s.planEntry r).kept = s.kept := by
  unfold State.planEntry
  try dsimp only
  repeat' first
    | with_reducible rfl
    | intro _
    | simp only [State.kept_push]
    | split

theorem State.kept_pendReq (r : ReqNo) (c : Cause) (s : State) : (s.pendReq r c).kept = s.kept := by
  unfold State.pendReq
  try dsimp only
  repeat' first
    | with_reducible rfl
    | intro _
    | simp only [State.kept_planEntry, State.kept_updReq]
    | split

theorem State.kept_makePrompt (c : Cause) (s : State) : (s.makePrompt c).kept = s.kept := by
  unfold State.makePrompt
  try dsimp only
  repeat' first
    | with_reducible rfl
    | intro _
    | simp only [State.kept_showPrompt, State.kept_linkReq]
    | rw [State.kept_modPanel]
    | simp only [and_self]
    | split
    | rfl

theorem State.kept_mergePrompt (c : Cause) (p : Prompt) (s : State) : (s.mergePrompt c p).kept = s.kept := by
  unfold State.mergePrompt
  try dsimp only
  repeat' first
    | with_reducible rfl
    | intro _
    | simp only [State.kept_updPrompt, State.kept_linkReq, State.kept_pendReq]
    | split

theorem State.kept_evict (p : Prompt) (s : State) : (s.evict p).kept = s.kept := by
  unfold State.evict
  try dsimp only
  repeat' first
    | with_reducible rfl
    | intro _
    | simp only [State.kept_leavePrompt, State.kept_defer]
    | rw [State.kept_modPanel]
    | simp only [and_self]
    | split
    | rfl

theorem State.kept_causeWaits (c : Cause) (s : State) : (s.causeWaits c).kept = s.kept := by
  unfold State.causeWaits
  try dsimp only
  repeat' first
    | with_reducible rfl
    | intro _
    | simp only [State.kept_pendReq, State.kept_defer]
    | split

theorem State.kept_raise (c : Cause) (s : State) : (s.raise c).kept = s.kept := by
  unfold State.raise
  try dsimp only
  repeat' first
    | with_reducible rfl
    | intro _
    | simp only [State.kept_mergePrompt, State.kept_makePrompt, State.kept_causeWaits, State.kept_evict]
    | split

theorem State.kept_raisePlain (cls : PromptClass) (sub : Subject) (s : State) : (s.raisePlain cls sub).kept = s.kept := by
  unfold State.raisePlain
  try dsimp only
  repeat' first
    | with_reducible rfl
    | intro _
    | simp only [State.kept_raise]
    | split

theorem State.kept_unlink (r : ReqNo) (s : State) : (s.unlink r).kept = s.kept := by
  unfold State.unlink
  try dsimp only
  repeat' first
    | with_reducible rfl
    | intro _
    | simp only [State.kept_updPrompt, State.kept_withdrawPrompt]
    | split

theorem State.kept_takeDeferred (s : State) : s.takeDeferred.kept = s.kept := by
  unfold State.takeDeferred
  try dsimp only
  repeat' first
    | with_reducible rfl
    | intro _
    | simp only [State.kept_raise]
    | rw [State.kept_forEach]
    | rw [State.kept_modPanel]
    | simp only [and_self]
    | split
    | rfl

theorem State.kept_retryPending (s : State) : s.retryPending.kept = s.kept := by
  unfold State.retryPending
  try dsimp only
  repeat' first
    | with_reducible rfl
    | intro _
    | simp only [State.kept_raise]
    | rw [State.kept_forEach]
    | split

theorem State.kept_sendHold (res : Resource) (dispute busy : Bool) (s : State) : (s.sendHold res dispute busy).kept = s.kept := by
  unfold State.sendHold
  try dsimp only
  repeat' first
    | with_reducible rfl
    | intro _
    | simp only [State.kept_giveUpMsg, State.kept_send]
    | split

theorem State.kept_sendYield (res : Resource) (s : State) : (s.sendYield res).kept = s.kept := by
  unfold State.sendYield
  try dsimp only
  repeat' first
    | with_reducible rfl
    | intro _
    | simp only [State.kept_send]
    | split

theorem State.kept_beginYield (res : Resource) (s : State) : (s.beginYield res).kept = s.kept := by
  unfold State.beginYield
  try dsimp only
  repeat' first
    | with_reducible rfl
    | intro _
    | simp only [State.kept_updRec, State.kept_sendYield]
    | split

theorem State.kept_cancelYield (res : Resource) (s : State) : (s.cancelYield res).kept = s.kept := by
  unfold State.cancelYield
  try dsimp only
  repeat' first
    | with_reducible rfl
    | intro _
    | simp only [State.kept_withdraw, State.kept_updRec, State.kept_push]
    | split

theorem State.kept_addAsk (res : Resource) (a : Asker) (s : State) : (s.addAsk res a).kept = s.kept := by
  unfold State.addAsk
  try dsimp only
  repeat' first
    | with_reducible rfl
    | intro _
    | simp only [State.kept_updRec, State.kept_cancelYield, State.kept_push]
    | split

theorem State.kept_dropAsk (res : Resource) (a : Asker) (s : State) : (s.dropAsk res a).kept = s.kept := by
  unfold State.dropAsk
  try dsimp only
  repeat' first
    | with_reducible rfl
    | intro _
    | simp only [State.kept_updRec, State.kept_push, State.kept_withdraw]
    | split

theorem State.kept_dropAsker (a : Asker) (s : State) : (s.dropAsker a).kept = s.kept := by
  unfold State.dropAsker
  try dsimp only
  repeat' first
    | with_reducible rfl
    | intro _
    | simp only [State.kept_dropAsk]
    | rw [State.kept_forEach]
    | split

theorem State.kept_claimTest (s : State) : s.claimTest.kept = s.kept := by
  unfold State.claimTest
  try dsimp only
  repeat' first
    | with_reducible rfl
    | intro _
    | simp only [State.kept_updRec, State.kept_sendHold]
    | rw [State.kept_forEach]
    | split

theorem State.kept_useEndTest (s : State) : s.useEndTest.kept = s.kept := by
  unfold State.useEndTest
  try dsimp only
  repeat' first
    | with_reducible rfl
    | intro _
    | simp only [State.kept_beginYield]
    | rw [State.kept_forEach]
    | split

theorem State.kept_endConflict (res : Resource) (s : State) : (s.endConflict res).kept = s.kept := by
  unfold State.endConflict
  try dsimp only
  repeat' first
    | with_reducible rfl
    | intro _
    | simp only [State.kept_updRec, State.kept_leavePrompt, State.kept_push]
    | split

theorem State.kept_loseTo (res : Resource) (s : State) : (s.loseTo res).kept = s.kept := by
  unfold State.loseTo
  try dsimp only
  repeat' first
    | with_reducible rfl
    | intro _
    | simp only [State.kept_updRec, State.kept_push]
    | split

theorem State.kept_giveWay (res : Resource) (s : State) : (s.giveWay res).kept = s.kept := by
  unfold State.giveWay
  try dsimp only
  repeat' first
    | with_reducible rfl
    | intro _
    | simp only [State.kept_withdraw, State.kept_loseTo, State.kept_sendYield]
    | split

theorem State.kept_disputeTest (res : Resource) (busy : Bool) (s : State) : (s.disputeTest res busy).kept = s.kept := by
  unfold State.disputeTest
  try dsimp only
  repeat' first
    | with_reducible rfl
    | intro _
    | simp only [State.kept_updRec, State.kept_sendHold, State.kept_raise, State.kept_giveWay]
    | split

theorem State.kept_hearHold (b : HoldBody) (c : ClaimRec) (s : State) : (s.hearHold b c).kept = s.kept := by
  unfold State.hearHold
  try dsimp only
  repeat' first
    | with_reducible rfl
    | intro _
    | simp only [State.kept_updRec, State.kept_withdraw, State.kept_push, State.kept_disputeTest, State.kept_sendHold]
    | split

theorem State.kept_hearYield (b : YieldBody) (c : ClaimRec) (s : State) : (s.hearYield b c).kept = s.kept := by
  unfold State.hearYield
  try dsimp only
  repeat' first
    | with_reducible rfl
    | intro _
    | simp only [State.kept_endConflict, State.kept_updRec, State.kept_push]
    | split

theorem State.kept_testOwedTo (p : Nat) (s : State) : (s.testOwedTo p).kept = s.kept :=
  State.kept_forEach _ _ _ fun _ _ => State.kept_push ..

theorem State.kept_claimAbsent (p : Nat) (s : State) : (s.claimAbsent p).kept = s.kept := by
  unfold State.claimAbsent
  try dsimp only
  repeat' first
    | with_reducible rfl
    | intro _
    | simp only [State.kept_updRec, State.kept_endConflict, State.kept_push, State.kept_testOwedTo]
    | rw [State.kept_forEach]
    | split

theorem State.kept_dropHolds (s : State) : s.dropHolds.kept = s.kept := by
  unfold State.dropHolds
  try dsimp only
  repeat' first
    | with_reducible rfl
    | intro _
    | simp only [State.kept_updRec, State.kept_endConflict]
    | rw [State.kept_forEach]
    | split

theorem State.kept_standAsk (res : Resource) (s : State) : (s.standAsk res).kept = s.kept := by
  unfold State.standAsk
  try dsimp only
  repeat' first
    | with_reducible rfl
    | intro _
    | simp only [State.kept_updRec]
    | split

theorem State.kept_giveUpAlone (res : Resource) (s : State) : (s.giveUpAlone res).kept = s.kept := by
  unfold State.giveUpAlone
  try dsimp only
  repeat' first
    | with_reducible rfl
    | intro _
    | simp only [State.kept_updRec, State.kept_standAsk, State.kept_beginYield]
    | split

theorem State.kept_yieldAlone (s : State) : s.yieldAlone.kept = s.kept := by
  unfold State.yieldAlone
  try dsimp only
  repeat' first
    | with_reducible rfl
    | intro _
    | simp only [State.kept_giveUpAlone]
    | rw [State.kept_forEach]
    | split

theorem State.kept_claimAnswered (l : Loc) (s : State) : (s.claimAnswered l).kept = s.kept := by
  unfold State.claimAnswered
  try dsimp only
  repeat' first
    | with_reducible rfl
    | intro _
    | simp only [State.kept_loseTo, State.kept_endConflict, State.kept_sendHold]
    | split

theorem State.kept_endGiveWay (res : Resource) (s : State) : (s.endGiveWay res).kept = s.kept := by
  unfold State.endGiveWay
  try dsimp only
  repeat' first
    | with_reducible rfl
    | intro _
    | simp only [State.kept_endConflict]
    | split

theorem State.kept_holdWitnessed (b : HoldBody) (s : State) : (s.holdWitnessed b).kept = s.kept := by
  unfold State.holdWitnessed
  try dsimp only
  repeat' first
    | with_reducible rfl
    | intro _
    | simp only [State.kept_updRec, State.kept_push]
    | split

theorem State.kept_yieldWitnessed (b : YieldBody) (s : State) : (s.yieldWitnessed b).kept = s.kept := by
  unfold State.yieldWitnessed
  try dsimp only
  repeat' first
    | with_reducible rfl
    | intro _
    | simp only [State.kept_updRec, State.kept_endConflict, State.kept_push, State.kept_endGiveWay]
    | split

theorem State.kept_yieldKept (res : Resource) (s : State) : (s.yieldKept res).kept = s.kept := by
  unfold State.yieldKept
  try dsimp only
  repeat' first
    | with_reducible rfl
    | intro _
    | simp only [State.kept_updRec, State.kept_push]
    | split

theorem State.kept_holdKept (res : Resource) (s : State) : (s.holdKept res).kept = s.kept := by
  unfold State.holdKept
  try dsimp only
  repeat' first
    | with_reducible rfl
    | intro _
    | simp only [State.kept_updRec, State.kept_push]
    | split

theorem State.kept_disputeLost (res : Resource) (s : State) : (s.disputeLost res).kept = s.kept := by
  unfold State.disputeLost
  try dsimp only
  repeat' first
    | with_reducible rfl
    | intro _
    | simp only [State.kept_updRec, State.kept_withdraw, State.kept_loseTo, State.kept_endConflict]
    | split

theorem State.kept_owe (res : Resource) (due : HandoffDue) (v : Serial) (s : State) : (s.owe res due v).kept = s.kept := by
  unfold State.owe
  try dsimp only
  repeat' first
    | with_reducible rfl
    | intro _
    | simp only [State.kept_updRec, State.kept_addAsk, State.kept_push]
    | split

theorem State.kept_repeatYields (s : State) : s.repeatYields.kept = s.kept := by
  unfold State.repeatYields
  try dsimp only
  repeat' first
    | with_reducible rfl
    | intro _
    | simp only [State.kept_sendYield]
    | rw [State.kept_forEach]
    | split

theorem State.kept_driveToEmpty (d : Nat) (s : State) : (s.driveToEmpty d).kept = s.kept := by
  unfold State.driveToEmpty
  try dsimp only
  repeat' first
    | with_reducible rfl
    | intro _
    | simp only [State.kept_updDrive, State.kept_push]
    | split

theorem State.kept_releaseDrive (d : Nat) (s : State) : (s.releaseDrive d).kept = s.kept := by
  unfold State.releaseDrive
  try dsimp only
  repeat' first
    | with_reducible rfl
    | intro _
    | simp only [State.kept_driveToEmpty]
    | split

theorem State.kept_releaseDrivesOf (r : ReqNo) (s : State) : (s.releaseDrivesOf r).kept = s.kept := by
  unfold State.releaseDrivesOf
  try dsimp only
  repeat' first
    | with_reducible rfl
    | intro _
    | simp only [State.kept_releaseDrive]
    | rw [State.kept_forEach]
    | split

theorem State.kept_reserveDrive (d : Nat) (r : ReqNo) (s : State) : (s.reserveDrive d r).kept = s.kept := by
  unfold State.reserveDrive
  try dsimp only
  repeat' first
    | with_reducible rfl
    | intro _
    | simp only [State.kept_updDrive, State.kept_updReq]
    | split

theorem State.kept_driveUseEnds (d : Nat) (s : State) : (s.driveUseEnds d).kept = s.kept := by
  unfold State.driveUseEnds
  try dsimp only
  repeat' first
    | with_reducible rfl
    | intro _
    | simp only [State.kept_beginYield]
    | split

theorem State.kept_driveOff (d : Nat) (loaded : Option Serial) (s : State) : (s.driveOff d loaded).kept = s.kept := by
  unfold State.driveOff
  try dsimp only
  repeat' first
    | with_reducible rfl
    | intro _
    | simp only [State.kept_updDrive, State.kept_dropAsker, State.kept_push, State.kept_driveUseEnds]
    | split

theorem State.kept_queueMove (kind : MoveKind) (r : Option ReqNo) (v : Serial) (src dst : Loc) (purpose : Option CellPurpose) (s : State) : (s.queueMove kind r v src dst purpose).kept = s.kept := by
  unfold State.queueMove
  try dsimp only
  repeat' first
    | with_reducible rfl
    | intro _
    | simp only [State.kept_putCell, State.kept_push]
    | rw [State.kept_modArm]
    | simp only [and_self]
    | split
    | rfl

theorem State.kept_freeMoveCell (m : Move) (s : State) : (s.freeMoveCell m).kept = s.kept := by
  unfold State.freeMoveCell
  try dsimp only
  repeat' first
    | with_reducible rfl
    | intro _
    | simp only [State.kept_emptyCell]
    | split

theorem State.kept_moveGone (m : Move) (s : State) : (s.moveGone m).kept = s.kept := by
  unfold State.moveGone
  try dsimp only
  repeat' first
    | with_reducible rfl
    | intro _
    | simp only [State.kept_dropAsker, State.kept_push]
    | split

theorem State.kept_removeMoves (p : Move → Bool) (s : State) : (s.removeMoves p).kept = s.kept := by
  unfold State.removeMoves
  try dsimp only
  repeat' first
    | with_reducible rfl
    | intro _
    | simp only [State.kept_freeMoveCell, State.kept_moveGone, State.kept_push]
    | rw [State.kept_forEach]
    | rw [State.kept_modArm]
    | simp only [and_self]
    | split
    | rfl

theorem State.kept_updCurrent (f : Move → Move) (s : State) : (s.updCurrent f).kept = s.kept := by
  unfold State.updCurrent
  try dsimp only
  repeat' first
    | with_reducible rfl
    | intro _
    | rw [State.kept_modArm]
    | simp only [and_self]
    | split
    | rfl

theorem State.kept_endMove (m : Move) (s : State) : (s.endMove m).kept = s.kept := by
  unfold State.endMove
  try dsimp only
  repeat' first
    | with_reducible rfl
    | intro _
    | simp only [State.kept_moveGone, State.kept_push]
    | rw [State.kept_modArm]
    | simp only [and_self]
    | split
    | rfl

theorem State.kept_stowDrive (d : Nat) (s : State) : (s.stowDrive d).kept = s.kept := by
  unfold State.stowDrive
  try dsimp only
  repeat' first
    | with_reducible rfl
    | intro _
    | simp only [State.kept_addAsk, State.kept_dropAsk, State.kept_homeDest, State.kept_queueMove]
    | split

theorem State.kept_driveToIdle (d : Nat) (s : State) : (s.driveToIdle d).kept = s.kept := by
  unfold State.driveToIdle
  try dsimp only
  repeat' first
    | with_reducible rfl
    | intro _
    | simp only [State.kept_updDrive, State.kept_stowDrive]
    | split

theorem State.kept_cleanMove (d : Nat) (s : State) : (s.cleanMove d).kept = s.kept := by
  unfold State.cleanMove
  try dsimp only
  repeat' first
    | with_reducible rfl
    | intro _
    | simp only [State.kept_driveToEmpty, State.kept_queueMove]
    | split

theorem State.kept_clearEntryIn (v : Serial) (s : State) : (s.clearEntryIn v).kept = s.kept := by
  unfold State.clearEntryIn
  try dsimp only
  repeat' first
    | with_reducible rfl
    | intro _
    | rw [State.kept_modInv]
    | simp only [and_self, List.length_set]
    | split
    | rfl

theorem State.kept_queueEntryIn (v : Serial) (s : State) : (s.queueEntryIn v).kept = s.kept := by
  unfold State.queueEntryIn
  try dsimp only
  repeat' first
    | with_reducible rfl
    | intro _
    | simp only [State.kept_clearEntryIn, State.kept_queueMove]
    | rw [State.kept_modInv]
    | simp only [and_self, List.length_set]
    | split
    | rfl

theorem State.kept_askEntryIn (v : Serial) (s : State) : (s.askEntryIn v).kept = s.kept := by
  unfold State.askEntryIn
  try dsimp only
  repeat' first
    | with_reducible rfl
    | intro _
    | simp only [State.kept_clearEntryIn, State.kept_queueEntryIn]
    | split

theorem State.kept_askTakeIn (v : Serial) (s : State) : (s.askTakeIn v).kept = s.kept := by
  unfold State.askTakeIn
  try dsimp only
  repeat' first
    | with_reducible rfl
    | intro _
    | simp only [State.kept_modClaim, State.kept_homeDest, State.kept_queueMove]
    | split

theorem State.kept_serveExit (s : State) : s.serveExit.kept = s.kept := by
  unfold State.serveExit
  try dsimp only
  repeat' first
    | with_reducible rfl
    | intro _
    | simp only [State.kept_updEntry, State.kept_queueMove]
    | split

theorem State.kept_issueOrder (kind : OrderKind) (m : Move) (s : State) : (s.issueOrder kind m).kept = s.kept := by
  unfold State.issueOrder
  try dsimp only
  repeat' first
    | with_reducible rfl
    | intro _
    | simp only [State.kept_updDrive]
    | rw [State.kept_modArm]
    | simp only [and_self]
    | split
    | rfl

theorem State.kept_askFor (l : Loc) (m : Move) (s : State) : (s.askFor l m).kept = s.kept := by
  unfold State.askFor
  try dsimp only
  repeat' first
    | with_reducible rfl
    | intro _
    | simp only [State.kept_addAsk]
    | split

theorem State.kept_askForPut (m : Move) (s : State) : (s.askForPut m).kept = s.kept := by
  unfold State.askForPut
  try dsimp only
  repeat' first
    | with_reducible rfl
    | intro _
    | simp only [State.kept_addAsk]
    | split

theorem State.kept_askHolds (l : List Move) (s : State) : (s.askHolds l).kept = s.kept := by
  unfold State.askHolds
  try dsimp only
  repeat' first
    | with_reducible rfl
    | intro _
    | simp only [State.kept_askFor, State.kept_askForPut]
    | rw [State.kept_forEach]
    | split

theorem State.kept_issue (s : State) : s.issue.kept = s.kept := by
  unfold State.issue
  try dsimp only
  repeat' first
    | with_reducible rfl
    | intro _
    | simp only [State.kept_issueOrder, State.kept_askHolds, State.kept_askForPut, State.kept_push]
    | rw [State.kept_modArm]
    | simp only [and_self]
    | split
    | rfl

theorem State.kept_takeInFlight (s : State) : s.takeInFlight.kept = s.kept := by
  unfold State.takeInFlight
  try dsimp only
  repeat' first
    | with_reducible rfl
    | intro _
    | rw [State.kept_modArm]
    | simp only [and_self]
    | split
    | rfl

theorem State.kept_freezeOrder (s : State) : s.freezeOrder.kept = s.kept := by
  unfold State.freezeOrder
  try dsimp only
  repeat' first
    | with_reducible rfl
    | intro _
    | rw [State.kept_modArm]
    | simp only [and_self]
    | split
    | rfl

theorem State.kept_thawOrder (s : State) : s.thawOrder.kept = s.kept := by
  unfold State.thawOrder
  try dsimp only
  repeat' first
    | with_reducible rfl
    | intro _
    | rw [State.kept_modArm]
    | simp only [and_self]
    | split
    | rfl

theorem State.kept_reqReport (q : Request) (ev : ReqEvent) (s : State) : (s.reqReport q ev).kept = s.kept := by
  unfold State.reqReport
  try dsimp only
  repeat' first
    | with_reducible rfl
    | intro _
    | simp only [State.kept_report]
    | split

theorem State.kept_sendOutcome (r : ReqNo) (ev : OutcomeEvent) (s : State) : (s.sendOutcome r ev).kept = s.kept := by
  unfold State.sendOutcome
  try dsimp only
  repeat' first
    | with_reducible rfl
    | intro _
    | simp only [State.kept_send]
    | split

theorem State.kept_tellEnd (q : Request) (e : End) (s : State) : (s.tellEnd q e).kept = s.kept := by
  unfold State.tellEnd
  try dsimp only
  repeat' first
    | with_reducible rfl
    | intro _
    | simp only [State.kept_sendOutcome, State.kept_reqReport, State.kept_report]
    | split

theorem State.kept_clearCell (q : Request) (s : State) : (s.clearCell q).kept = s.kept := by
  unfold State.clearCell
  try dsimp only
  repeat' first
    | with_reducible rfl
    | intro _
    | simp only [State.kept_push]
    | split

theorem State.kept_clearHatch (q : Request) (s : State) : (s.clearHatch q).kept = s.kept := by
  unfold State.clearHatch
  try dsimp only
  repeat' first
    | with_reducible rfl
    | intro _
    | simp only [State.kept_push]
    | split

theorem State.kept_endRequest (r : ReqNo) (e : End) (s : State) : (s.endRequest r e).kept = s.kept := by
  unfold State.endRequest
  try dsimp only
  repeat' first
    | with_reducible rfl
    | intro _
    | simp only [State.kept_tellEnd, State.kept_endReservations, State.kept_releaseDrivesOf, State.kept_dropArrival, State.kept_dropAsker, State.kept_unlink, State.kept_removeMoves, State.kept_push, State.kept_clearCell, State.kept_clearHatch, State.kept_delReq]
    | split

theorem State.kept_failRequest (r : ReqNo) (code : FailCode) (s : State) : (s.failRequest r code).kept = s.kept := by
  unfold State.failRequest
  try dsimp only
  repeat' first
    | with_reducible rfl
    | intro _
    | simp only [State.kept_endRequest]
    | split

theorem State.kept_toStandby (r : ReqNo) (s : State) : (s.toStandby r).kept = s.kept := by
  unfold State.toStandby
  try dsimp only
  repeat' first
    | with_reducible rfl
    | intro _
    | simp only [State.kept_updReq, State.kept_push]
    | split

theorem State.kept_backToStandby (r : ReqNo) (s : State) : (s.backToStandby r).kept = s.kept := by
  unfold State.backToStandby
  try dsimp only
  repeat' first
    | with_reducible rfl
    | intro _
    | simp only [State.kept_updReq, State.kept_toStandby]
    | split

theorem State.kept_reelGone (v : Serial) (s : State) : (s.reelGone v).kept = s.kept := by
  unfold State.reelGone
  try dsimp only
  repeat' first
    | with_reducible rfl
    | intro _
    | simp only [State.kept_releaseDrivesOf, State.kept_dropAsker, State.kept_unlink, State.kept_updReq, State.kept_push]
    | rw [State.kept_forEach]
    | split

theorem State.kept_askSeek (r : ReqNo) (s : State) : (s.askSeek r).kept = s.kept := by
  unfold State.askSeek
  try dsimp only
  repeat' first
    | with_reducible rfl
    | intro _
    | simp only [State.kept_updReq, State.kept_send]
    | split

theorem State.kept_reelFound (r : ReqNo) (e : Entry) (s : State) : (s.reelFound r e).kept = s.kept := by
  unfold State.reelFound
  try dsimp only
  repeat' first
    | with_reducible rfl
    | intro _
    | simp only [State.kept_updReq, State.kept_failRequest, State.kept_claimReel, State.kept_reqReport, State.kept_toStandby]
    | split

theorem State.kept_lookup (r : ReqNo) (s : State) : (s.lookup r).kept = s.kept := by
  unfold State.lookup
  try dsimp only
  repeat' first
    | with_reducible rfl
    | intro _
    | simp only [State.kept_failRequest, State.kept_reelMissing, State.kept_updReq, State.kept_askSeek, State.kept_reelFound]
    | split

theorem State.kept_waitRoom (r : ReqNo) (k : MoveKind) (s : State) : (s.waitRoom r k).kept = s.kept := by
  unfold State.waitRoom
  try dsimp only
  repeat' first
    | with_reducible rfl
    | intro _
    | simp only [State.kept_planEntry, State.kept_updReq]
    | split

theorem State.kept_moveQueued (r : ReqNo) (k : MoveKind) (s : State) : (s.moveQueued r k).kept = s.kept := by
  unfold State.moveQueued
  try dsimp only
  repeat' first
    | with_reducible rfl
    | intro _
    | simp only [State.kept_updReq]
    | split

theorem State.kept_pendCell (r : ReqNo) (s : State) : (s.pendCell r).kept = s.kept := by
  unfold State.pendCell
  try dsimp only
  repeat' first
    | with_reducible rfl
    | intro _
    | simp only [State.kept_planEntry, State.kept_updReq]
    | split

theorem State.kept_takeInAnew (q : Request) (e : Entry) (side : Side) (s : State) : (s.takeInAnew q e side).kept = s.kept := by
  unfold State.takeInAnew
  try dsimp only
  repeat' first
    | with_reducible rfl
    | intro _
    | simp only [State.kept_queueMove, State.kept_moveQueued, State.kept_waitRoom, State.kept_homeDest, State.kept_reserveDrive]
    | split

theorem State.kept_startMove (r : ReqNo) (k : MoveKind) (s : State) : (s.startMove r k).kept = s.kept := by
  unfold State.startMove
  try dsimp only
  repeat' first
    | with_reducible rfl
    | intro _
    | simp only [State.kept_releaseDrivesOf, State.kept_backToStandby, State.kept_queueMove, State.kept_moveQueued, State.kept_waitRoom, State.kept_takeInAnew, State.kept_pendCell]
    | split

theorem State.kept_enterMounted (r : ReqNo) (d : Nat) (v : Serial) (remount : Bool) (s : State) : (s.enterMounted r d v remount).kept = s.kept := by
  unfold State.enterMounted
  try dsimp only
  repeat' first
    | with_reducible rfl
    | intro _
    | simp only [State.kept_updDrive, State.kept_modDrv, State.kept_countPass, State.kept_endReservations, State.kept_updReq, State.kept_sendOutcome, State.kept_reqReport]
    | split

theorem State.kept_auditClaims (v : Serial) (s : State) : (s.auditClaims v).kept = s.kept := by
  unfold State.auditClaims
  try dsimp only
  repeat' first
    | with_reducible rfl
    | intro _
    | simp only [State.kept_claimReel, State.kept_updReq]
    | rw [State.kept_forEach]
    | exact State.kept_of_claimReel ‹_›
    | split

theorem State.kept_examineDrive (d : Nat) (s : State) : (s.examineDrive d).kept = s.kept := by
  unfold State.examineDrive
  try dsimp only
  repeat' first
    | with_reducible rfl
    | intro _
    | simp only [State.kept_auditClaims, State.kept_enterMounted]
    | split

theorem State.kept_putToSlot (m : Move) (s : State) : (s.putToSlot m).kept = s.kept := by
  unfold State.putToSlot
  try dsimp only
  repeat' first
    | with_reducible rfl
    | intro _
    | simp only [State.kept_freeMoveCell, State.kept_updCurrent]
    | split

theorem State.kept_sendRelease (server : Nat) (r : ReqNo) (k : ReleaseKind) (s : State) : (s.sendRelease server r k).kept = s.kept := by
  unfold State.sendRelease
  try dsimp only
  repeat' first
    | with_reducible rfl
    | intro _
    | simp only [State.kept_send]
    | split

theorem State.kept_releaseProxy (r : ReqNo) (k : ReleaseKind) (s : State) : (s.releaseProxy r k).kept = s.kept := by
  unfold State.releaseProxy
  try dsimp only
  repeat' first
    | with_reducible rfl
    | intro _
    | simp only [State.kept_updReq, State.kept_sendRelease]
    | split

theorem State.kept_serveShelfWait (p : Prompt) (s : State) : (s.serveShelfWait p).kept = s.kept := by
  unfold State.serveShelfWait
  try dsimp only
  repeat' first
    | with_reducible rfl
    | intro _
    | simp only [State.kept_updPrompt, State.kept_returnPrompt, State.kept_putCell, State.kept_withdrawPrompt]
    | split

theorem State.kept_serveRingWait (r : ReqNo) (s : State) : (s.serveRingWait r).kept = s.kept := by
  unfold State.serveRingWait
  try dsimp only
  repeat' first
    | with_reducible rfl
    | intro _
    | simp only [State.kept_updReq, State.kept_startMove]
    | split

theorem State.kept_serveCells (s : State) : s.serveCells.kept = s.kept := by
  unfold State.serveCells
  try dsimp only
  repeat' first
    | with_reducible rfl
    | intro _
    | simp only [State.kept_serveExit, State.kept_serveShelfWait, State.kept_serveRingWait]
    | rw [State.kept_forEach]
    | split

theorem State.kept_giveUpReel (m : Move) (s : State) : (s.giveUpReel m).kept = s.kept := by
  unfold State.giveUpReel
  try dsimp only
  repeat' first
    | with_reducible rfl
    | intro _
    | simp only [State.kept_endRequest, State.kept_failRequest, State.kept_reelMissing, State.kept_delEntry, State.kept_push, State.kept_freeMoveCell, State.kept_endMove, State.kept_raisePlain]
    | rw [State.kept_modArm]
    | simp only [and_self]
    | split
    | rfl

theorem State.kept_redirect (m : Move) (dst : Loc) (p : Option CellPurpose) (failed : Bool) (s : State) : (s.redirect m dst p failed).kept = s.kept := by
  unfold State.redirect
  try dsimp only
  repeat' first
    | with_reducible rfl
    | intro _
    | simp only [State.kept_freeMoveCell, State.kept_putCell, State.kept_updCurrent, State.kept_push]
    | split

theorem State.kept_putAwayMove (failed occupied : Bool) (s : State) : (s.putAwayMove failed occupied).kept = s.kept := by
  unfold State.putAwayMove
  try dsimp only
  repeat' first
    | with_reducible rfl
    | intro _
    | simp only [State.kept_giveUpReel, State.kept_backToStandby, State.kept_updCurrent, State.kept_redirect, State.kept_reserveDrive, State.kept_updReq, State.kept_endRequest, State.kept_push]
    | split

theorem State.kept_getEffects (m : Move) (ring : Bool) (s : State) : (s.getEffects m ring).kept = s.kept := by
  unfold State.getEffects
  try dsimp only
  repeat' first
    | with_reducible rfl
    | intro _
    | simp only [State.kept_updEntry, State.kept_emptyCell, State.kept_driveToEmpty, State.kept_updRec, State.kept_push, State.kept_updCurrent]
    | split

theorem State.kept_ringRedirect (m : Move) (q : Request) (s : State) : (s.ringRedirect m q).kept = s.kept := by
  unfold State.ringRedirect
  try dsimp only
  repeat' first
    | with_reducible rfl
    | intro _
    | simp only [State.kept_releaseDrivesOf, State.kept_updReq, State.kept_redirect]
    | split

theorem State.kept_recheckRedirect (m : Move) (q : Request) (s : State) : (s.recheckRedirect m q).kept = s.kept := by
  unfold State.recheckRedirect
  try dsimp only
  repeat' first
    | with_reducible rfl
    | intro _
    | simp only [State.kept_redirect, State.kept_updReq, State.kept_push]
    | split

theorem State.kept_afterGet (m : Move) (ring : Bool) (s : State) : (s.afterGet m ring).kept = s.kept := by
  unfold State.afterGet
  try dsimp only
  repeat' first
    | with_reducible rfl
    | intro _
    | simp only [State.kept_putAwayMove, State.kept_releaseDrivesOf, State.kept_updReq, State.kept_putToSlot, State.kept_ringRedirect, State.kept_recheckRedirect]
    | split

theorem State.kept_getDone (m : Move) (ring : Bool) (s : State) : (s.getDone m ring).kept = s.kept := by
  unfold State.getDone
  try dsimp only
  repeat' first
    | with_reducible rfl
    | intro _
    | simp only [State.kept_getEffects, State.kept_serveCells, State.kept_afterGet, State.kept_push]
    | split

theorem State.kept_putToHatch (m : Move) (side : Side) (s : State) : (s.putToHatch m side).kept = s.kept := by
  unfold State.putToHatch
  try dsimp only
  repeat' first
    | with_reducible rfl
    | intro _
    | simp only [State.kept_updEntry, State.kept_updRec, State.kept_owe]
    | split

theorem State.kept_ringPlaced (r : ReqNo) (v : Serial) (s : State) : (s.ringPlaced r v).kept = s.kept := by
  unfold State.ringPlaced
  try dsimp only
  repeat' first
    | with_reducible rfl
    | intro _
    | simp only [State.kept_push, State.kept_startMove, State.kept_raise]
    | split

theorem State.kept_slotCleared (v : Serial) (s : State) : (s.slotCleared v).kept = s.kept := by
  unfold State.slotCleared
  try dsimp only
  repeat' first
    | with_reducible rfl
    | intro _
    | simp only [State.kept_push]
    | rw [State.kept_modInv]
    | simp only [and_self, List.length_set]
    | split

theorem State.kept_moveReturns (m : Move) (s : State) : (s.moveReturns m).kept = s.kept := by
  unfold State.moveReturns
  try dsimp only
  repeat' first
    | with_reducible rfl
    | intro _
    | simp only [State.kept_endRequest, State.kept_toStandby]
    | split

theorem State.kept_putToCell (m : Move) (c : Nat) (s : State) : (s.putToCell m c).kept = s.kept := by
  unfold State.putToCell
  try dsimp only
  repeat' first
    | with_reducible rfl
    | intro _
    | simp only [State.kept_clearEntryIn, State.kept_updEntry, State.kept_putCell, State.kept_emptyCell, State.kept_raisePlain, State.kept_moveReturns, State.kept_ringPlaced, State.kept_push, State.kept_slotCleared]
    | split

theorem State.kept_putToSlotDone (m : Move) (s : State) : (s.putToSlotDone m).kept = s.kept := by
  unfold State.putToSlotDone
  try dsimp only
  repeat' first
    | with_reducible rfl
    | intro _
    | simp only [State.kept_updEntry, State.kept_push, State.kept_moveReturns]
    | split

theorem State.kept_failMoveReq (m : Move) (code : FailCode) (s : State) : (s.failMoveReq m code).kept = s.kept := by
  unfold State.failMoveReq
  try dsimp only
  repeat' first
    | with_reducible rfl
    | intro _
    | simp only [State.kept_endRequest, State.kept_failRequest]
    | split

theorem State.kept_cleanFailed (d : Nat) (v : Serial) (s : State) : (s.cleanFailed d v).kept = s.kept := by
  unfold State.cleanFailed
  try dsimp only
  repeat' first
    | with_reducible rfl
    | intro _
    | simp only [State.kept_updDrive, State.kept_driveUseEnds, State.kept_push, State.kept_raisePlain]
    | split

theorem State.kept_getFailed (m : Move) (s : State) : (s.getFailed m).kept = s.kept := by
  unfold State.getFailed
  try dsimp only
  repeat' first
    | with_reducible rfl
    | intro _
    | simp only [State.kept_endMove, State.kept_freeMoveCell, State.kept_cleanFailed, State.kept_updDrive, State.kept_updEntry, State.kept_failMoveReq]
    | rw [State.kept_modInv]
    | simp only [and_self, List.length_set]
    | split
    | rfl

theorem State.kept_emptySource (m : Move) (s : State) : (s.emptySource m).kept = s.kept := by
  unfold State.emptySource
  try dsimp only
  repeat' first
    | with_reducible rfl
    | intro _
    | simp only [State.kept_endMove, State.kept_freeMoveCell, State.kept_failMoveReq, State.kept_reelMissing, State.kept_releaseDrive, State.kept_updRec, State.kept_raisePlain, State.kept_updDrive, State.kept_putCell]
    | split

theorem State.kept_putFailed (m : Move) (s : State) : (s.putFailed m).kept = s.kept := by
  unfold State.putFailed
  try dsimp only
  repeat' first
    | with_reducible rfl
    | intro _
    | simp only [State.kept_updCurrent, State.kept_cleanFailed, State.kept_releaseDrive, State.kept_failMoveReq, State.kept_putAwayMove]
    | split

theorem State.kept_occupiedDest (m : Move) (s : State) : (s.occupiedDest m).kept = s.kept := by
  unfold State.occupiedDest
  try dsimp only
  repeat' first
    | with_reducible rfl
    | intro _
    | simp only [State.kept_driveOff, State.kept_endRequest, State.kept_backToStandby, State.kept_putAwayMove, State.kept_raisePlain, State.kept_failMoveReq, State.kept_updRec, State.kept_putCell]
    | split

theorem State.kept_answered (o : Order) (s : State) : (s.answered o).kept = s.kept := by
  unfold State.answered
  try dsimp only
  repeat' first
    | with_reducible rfl
    | intro _
    | simp only [State.kept_claimAnswered]
    | rw [State.kept_modArm]
    | simp only [and_self]
    | split
    | rfl

theorem State.kept_askToClean (x : Drive) (s : State) : (s.askToClean x).kept = s.kept := by
  unfold State.askToClean
  try dsimp only
  repeat' first
    | with_reducible rfl
    | intro _
    | simp only [State.kept_updDrive, State.kept_addAsk]
    | split

theorem State.kept_beginCleaning (d : Nat) (s : State) : (s.beginCleaning d).kept = s.kept := by
  unfold State.beginCleaning
  try dsimp only
  repeat' first
    | with_reducible rfl
    | intro _
    | simp only [State.kept_withdrawPrompt, State.kept_updDrive, State.kept_cleanMove, State.kept_raisePlain, State.kept_askToClean]
    | split

theorem State.kept_serveClean (s : State) : s.serveClean.kept = s.kept := by
  unfold State.serveClean
  try dsimp only
  repeat' first
    | with_reducible rfl
    | intro _
    | simp only [State.kept_withdrawPrompt, State.kept_beginCleaning, State.kept_askToClean]
    | split

theorem State.kept_countAttempt (r : ReqNo) (f : FollowUp) (unanswered : Bool) (s : State) : (s.countAttempt r f unanswered).kept = s.kept := by
  unfold State.countAttempt
  try dsimp only
  repeat' first
    | with_reducible rfl
    | intro _
    | simp only [State.kept_updReq, State.kept_failRequest]
    | split

theorem State.kept_sendPlace (r : ReqNo) (p : Nat) (s : State) : (s.sendPlace r p).kept = s.kept := by
  unfold State.sendPlace
  try dsimp only
  repeat' first
    | with_reducible rfl
    | intro _
    | simp only [State.kept_updReq, State.kept_countAttempt, State.kept_send]
    | split

theorem State.kept_becomeProxy (r : ReqNo) (p : Nat) (s : State) : (s.becomeProxy r p).kept = s.kept := by
  unfold State.becomeProxy
  try dsimp only
  repeat' first
    | with_reducible rfl
    | intro _
    | simp only [State.kept_updReq, State.kept_reqReport]
    | split

theorem State.kept_takeAnswer (r : ReqNo) (a : Answer) (s : State) : (s.takeAnswer r a).kept = s.kept := by
  unfold State.takeAnswer
  try dsimp only
  repeat' first
    | with_reducible rfl
    | intro _
    | simp only [State.kept_updReq, State.kept_failRequest, State.kept_reqReport, State.kept_countAttempt, State.kept_sendPlace]
    | split

theorem State.kept_weighAnswers (r : ReqNo) (l : List Answer) (s : State) : (s.weighAnswers r l).kept = s.kept := by
  unfold State.weighAnswers
  try dsimp only
  repeat' first
    | with_reducible rfl
    | intro _
    | simp only [State.kept_takeAnswer, State.kept_failRequest]
    | split

theorem State.kept_shelfFetch (r : ReqNo) (v : Serial) (s : State) : (s.shelfFetch r v).kept = s.kept := by
  unfold State.shelfFetch
  try dsimp only
  repeat' first
    | with_reducible rfl
    | intro _
    | simp only [State.kept_updReq, State.kept_raise]
    | split

theorem State.kept_closeReseek (r : ReqNo) (l : List Answer) (s : State) : (s.closeReseek r l).kept = s.kept := by
  unfold State.closeReseek
  try dsimp only
  repeat' first
    | with_reducible rfl
    | intro _
    | simp only [State.kept_updReq, State.kept_unlink, State.kept_weighAnswers]
    | split

theorem State.kept_closeWindow (r : ReqNo) (s : State) : (s.closeWindow r).kept = s.kept := by
  unfold State.closeWindow
  try dsimp only
  repeat' first
    | with_reducible rfl
    | intro _
    | simp only [State.kept_closeReseek, State.kept_updReq, State.kept_push, State.kept_shelfFetch, State.kept_failRequest, State.kept_reelMissing, State.kept_weighAnswers]
    | split

theorem State.kept_offerHop (r : ReqNo) (s : State) : (s.offerHop r).kept = s.kept := by
  unfold State.offerHop
  try dsimp only
  repeat' first
    | with_reducible rfl
    | intro _
    | simp only [State.kept_updReq, State.kept_send]
    | split

theorem State.kept_hopRefused (r : ReqNo) (p : Nat) (s : State) : (s.hopRefused r p).kept = s.kept := by
  unfold State.hopRefused
  try dsimp only
  repeat' first
    | with_reducible rfl
    | intro _
    | simp only [State.kept_updReq, State.kept_push]
    | split

theorem State.kept_hopAccepted (r : ReqNo) (p : Nat) (s : State) : (s.hopAccepted r p).kept = s.kept := by
  unfold State.hopAccepted
  try dsimp only
  repeat' first
    | with_reducible rfl
    | intro _
    | simp only [State.kept_updReq, State.kept_addAsk]
    | split

theorem State.kept_hopBack (r : ReqNo) (side : Side) (s : State) : (s.hopBack r side).kept = s.kept := by
  unfold State.hopBack
  try dsimp only
  repeat' first
    | with_reducible rfl
    | intro _
    | simp only [State.kept_dropAsker, State.kept_endRequest, State.kept_updReq, State.kept_toStandby]
    | split

theorem State.kept_takeBack (c : ClaimRec) (side : Side) (r : ReqNo) (v : Serial) (b : Nat) (s : State) : (s.takeBack c side r v b).kept = s.kept := by
  unfold State.takeBack
  try dsimp only
  repeat' first
    | with_reducible rfl
    | intro _
    | simp only [State.kept_withdraw, State.kept_updRec, State.kept_dropAsk, State.kept_askTakeIn, State.kept_hopBack]
    | split

theorem State.kept_handoffOne (c : ClaimRec) (s : State) : (s.handoffOne c).kept = s.kept := by
  unfold State.handoffOne
  try dsimp only
  repeat' first
    | with_reducible rfl
    | intro _
    | simp only [State.kept_send, State.kept_takeBack, State.kept_withdraw]
    | split

theorem State.kept_strayTest (res : Resource) (s : State) : (s.strayTest res).kept = s.kept := by
  unfold State.strayTest
  try dsimp only
  repeat' first
    | with_reducible rfl
    | intro _
    | simp only [State.kept_owe]
    | split

theorem State.kept_handoffOn (res : Resource) (s : State) : (s.handoffOn res).kept = s.kept := by
  unfold State.handoffOn
  try dsimp only
  repeat' first
    | with_reducible rfl
    | intro _
    | simp only [State.kept_owe, State.kept_handoffOne]
    | split

theorem State.kept_handoffTest (s : State) : s.handoffTest.kept = s.kept :=
  State.kept_forEach _ _ _ fun _ _ => State.kept_handoffOn ..

theorem State.kept_addMoved (r : ReqNo) (p : Nat) (s : State) : (s.addMoved r p).kept = s.kept := by
  unfold State.addMoved
  try dsimp only
  repeat' first
    | with_reducible rfl
    | intro _
    | rw [State.kept_modPx]
    | simp only [and_self]
    | split
    | rfl

theorem State.kept_depart (v : Serial) (p : Nat) (s : State) : (s.depart v p).kept = s.kept := by
  unfold State.depart
  try dsimp only
  repeat' first
    | with_reducible rfl
    | intro _
    | simp only [State.kept_updEntry, State.kept_delEntry, State.kept_push]
    | split

theorem State.kept_hopDone (r : ReqNo) (p : Nat) (s : State) : (s.hopDone r p).kept = s.kept := by
  unfold State.hopDone
  try dsimp only
  repeat' first
    | with_reducible rfl
    | intro _
    | simp only [State.kept_updReq, State.kept_becomeProxy, State.kept_releaseProxy, State.kept_sendOutcome, State.kept_addMoved, State.kept_sendRelease, State.kept_endReservations, State.kept_delReq]
    | split

theorem State.kept_handoffWitnessed (b : HandoffBody) (s : State) : (s.handoffWitnessed b).kept = s.kept := by
  unfold State.handoffWitnessed
  try dsimp only
  repeat' first
    | with_reducible rfl
    | intro _
    | simp only [State.kept_updRec, State.kept_dropAsk, State.kept_depart, State.kept_hopDone]
    | split

theorem State.kept_hopArrives (r : ReqNo) (v : Serial) (s : State) : (s.hopArrives r v).kept = s.kept := by
  unfold State.hopArrives
  try dsimp only
  repeat' first
    | with_reducible rfl
    | intro _
    | simp only [State.kept_push, State.kept_dropArrival, State.kept_updEntry, State.kept_updReq, State.kept_startMove]
    | split

theorem State.kept_placeArrival (b : HandoffBody) (sender : Nat) (side : Side) (s : State) : (s.placeArrival b sender side).kept = s.kept := by
  unfold State.placeArrival
  try dsimp only
  repeat' first
    | with_reducible rfl
    | intro _
    | simp only [State.kept_raisePlain, State.kept_dropArrival, State.kept_addEntry, State.kept_hopArrives, State.kept_updEntry, State.kept_askTakeIn, State.kept_owe]
    | split

theorem State.kept_hearHandoff (b : HandoffBody) (sender : Nat) (s : State) : (s.hearHandoff b sender).kept = s.kept := by
  unfold State.hearHandoff
  try dsimp only
  repeat' first
    | with_reducible rfl
    | intro _
    | simp only [State.kept_withdraw, State.kept_updRec, State.kept_endConflict, State.kept_placeArrival, State.kept_push]
    | split

theorem State.kept_answer (m : Msg) (s : State) : (s.answer m).kept = s.kept := by
  unfold State.answer
  try dsimp only
  repeat' first
    | with_reducible rfl
    | intro _
    | simp only [State.kept_send]
    | split

theorem State.kept_refuse (sender : Nat) (r : ReqNo) (why : RefuseReason) (s : State) : (s.refuse sender r why).kept = s.kept := by
  unfold State.refuse
  try dsimp only
  repeat' first
    | with_reducible rfl
    | intro _
    | simp only [State.kept_answer]
    | split

theorem State.kept_accept (sender : Nat) (r : ReqNo) (s : State) : (s.accept sender r).kept = s.kept := by
  unfold State.accept
  try dsimp only
  repeat' first
    | with_reducible rfl
    | intro _
    | simp only [State.kept_answer]
    | split

theorem State.kept_hearPlace (b : PlaceBody) (sender : Nat) (s : State) : (s.hearPlace b sender).kept = s.kept := by
  unfold State.hearPlace
  try dsimp only
  repeat' first
    | with_reducible rfl
    | intro _
    | simp only [State.kept_claimReel, State.kept_push, State.kept_addReq, State.kept_lookup, State.kept_refuse, State.kept_accept]
    | exact State.kept_of_claimReel ‹_›
    | split

theorem State.kept_hopDecide (b : PlaceBody) (sender : Nat) (convert : Bool) (s : State) : (s.hopDecide b sender convert).kept = s.kept := by
  unfold State.hopDecide
  try dsimp only
  repeat' first
    | with_reducible rfl
    | intro _
    | simp only [State.kept_refuse, State.kept_accept, State.kept_updReq, State.kept_addReq, State.kept_reserveDrive]
    | rw [State.kept_modInv]
    | simp only [and_self, List.length_set]
    | split
    | rfl

theorem State.kept_hearViaHatch (b : PlaceBody) (sender : Nat) (s : State) : (s.hearViaHatch b sender).kept = s.kept := by
  unfold State.hearViaHatch
  try dsimp only
  repeat' first
    | with_reducible rfl
    | intro _
    | simp only [State.kept_accept, State.kept_hopDecide, State.kept_refuse]
    | split

theorem State.kept_proxyDismounted (q : Request) (n : Nat) (s : State) : (s.proxyDismounted q n).kept = s.kept := by
  unfold State.proxyDismounted
  try dsimp only
  repeat' first
    | with_reducible rfl
    | intro _
    | simp only [State.kept_endRequest]
    | split

theorem State.kept_proxyMoved (q : Request) (p : Nat) (s : State) : (s.proxyMoved q p).kept = s.kept := by
  unfold State.proxyMoved
  try dsimp only
  repeat' first
    | with_reducible rfl
    | intro _
    | simp only [State.kept_failRequest, State.kept_updReq]
    | split

theorem State.kept_proxyMounted (q : Request) (d : DriveId) (s : State) : (s.proxyMounted q d).kept = s.kept := by
  unfold State.proxyMounted
  try dsimp only
  repeat' first
    | with_reducible rfl
    | intro _
    | simp only [State.kept_updReq, State.kept_reqReport]
    | split

theorem State.kept_applyOutcome (q : Request) (ev : OutcomeEvent) (s : State) : (s.applyOutcome q ev).kept = s.kept := by
  unfold State.applyOutcome
  try dsimp only
  repeat' first
    | with_reducible rfl
    | intro _
    | simp only [State.kept_proxyMounted, State.kept_failRequest, State.kept_proxyDismounted, State.kept_endRequest, State.kept_proxyMoved]
    | split

theorem State.kept_applyState (q : Request) (a : StateAnswer) (s : State) : (s.applyState q a).kept = s.kept := by
  unfold State.applyState
  try dsimp only
  repeat' first
    | with_reducible rfl
    | intro _
    | simp only [State.kept_updReq, State.kept_proxyMounted, State.kept_proxyMoved, State.kept_endRequest, State.kept_failRequest]
    | split

theorem State.kept_hearAsk (r : ReqNo) (s : State) : (s.hearAsk r).kept = s.kept := by
  unfold State.hearAsk
  try dsimp only
  repeat' first
    | with_reducible rfl
    | intro _
    | simp only [State.kept_send]
    | rw [State.kept_modPx]
    | simp only [and_self]
    | split
    | rfl

theorem State.kept_sendHave (b : SeekBody) (e : Entry) (st : HaveStatus) (s : State) : (s.sendHave b e st).kept = s.kept := by
  unfold State.sendHave
  try dsimp only
  repeat' first
    | with_reducible rfl
    | intro _
    | simp only [State.kept_send]
    | split

theorem State.kept_hearSeek (b : SeekBody) (sender : Nat) (s : State) : (s.hearSeek b sender).kept = s.kept := by
  unfold State.hearSeek
  try dsimp only
  repeat' first
    | with_reducible rfl
    | intro _
    | simp only [State.kept_claimReel, State.kept_sendHave]
    | exact State.kept_of_claimReel ‹_›
    | split

theorem State.kept_handoffKept (res : Resource) (s : State) : (s.handoffKept res).kept = s.kept := by
  unfold State.handoffKept
  try dsimp only
  repeat' first
    | with_reducible rfl
    | intro _
    | simp only [State.kept_handoffOne]
    | split

theorem State.kept_ownerUndelivered (m : Msg) (cause : UndelCause) (s : State) : (s.ownerUndelivered m cause).kept = s.kept := by
  unfold State.ownerUndelivered
  try dsimp only
  repeat' first
    | with_reducible rfl
    | intro _
    | simp only [State.kept_closeWindow, State.kept_updReq, State.kept_hopRefused, State.kept_countAttempt, State.kept_disputeLost, State.kept_updRec, State.kept_push, State.kept_endGiveWay, State.kept_handoffKept]
    | split

theorem State.kept_ownerWitnessed (m : Msg) (s : State) : (s.ownerWitnessed m).kept = s.kept := by
  unfold State.ownerWitnessed
  try dsimp only
  repeat' first
    | with_reducible rfl
    | intro _
    | simp only [State.kept_updReq, State.kept_holdWitnessed, State.kept_yieldWitnessed, State.kept_handoffWitnessed]
    | split

theorem State.kept_ownerWithdrawn (m : Msg) (s : State) : (s.ownerWithdrawn m).kept = s.kept := by
  unfold State.ownerWithdrawn
  try dsimp only
  repeat' first
    | with_reducible rfl
    | intro _
    | simp only [State.kept_disputeLost, State.kept_holdKept, State.kept_yieldKept, State.kept_push]
    | split

theorem State.kept_exchangeAbsent (p : Nat) (s : State) : (s.exchangeAbsent p).kept = s.kept := by
  unfold State.exchangeAbsent
  try dsimp only
  repeat' first
    | with_reducible rfl
    | intro _
    | simp only [State.kept_failRequest, State.kept_countAttempt, State.kept_updReq, State.kept_hopRefused, State.kept_removeMoves, State.kept_hopBack]
    | rw [State.kept_forEach]
    | rw [State.kept_modRm]
    | simp only [and_self]
    | split
    | rfl

theorem State.kept_planLookup (s : State) : s.planLookup.kept = s.kept := by
  unfold State.planLookup
  try dsimp only
  repeat' first
    | with_reducible rfl
    | intro _
    | simp only [State.kept_lookup]
    | rw [State.kept_forEach]
    | split

theorem State.kept_planLine (s : State) : s.planLine.kept = s.kept := by
  unfold State.planLine
  try dsimp only
  repeat' first
    | with_reducible rfl
    | intro _
    | simp only [State.kept_sendPlace, State.kept_askSeek]
    | rw [State.kept_forEach]
    | split

theorem State.kept_planClaim (r : ReqNo) (s : State) : (s.planClaim r).kept = s.kept := by
  unfold State.planClaim
  try dsimp only
  repeat' first
    | with_reducible rfl
    | intro _
    | simp only [State.kept_failRequest, State.kept_claimReel]
    | split

theorem State.kept_grant (r : ReqNo) (x : Drive) (s : State) : (s.grant r x).kept = s.kept := by
  unfold State.grant
  try dsimp only
  repeat' first
    | with_reducible rfl
    | intro _
    | simp only [State.kept_reserveDrive, State.kept_startMove, State.kept_updReq, State.kept_addAsk]
    | split

theorem State.kept_arbitrate (r : ReqNo) (s : State) : (s.arbitrate r).kept = s.kept := by
  unfold State.arbitrate
  try dsimp only
  repeat' first
    | with_reducible rfl
    | intro _
    | simp only [State.kept_grant]
    | split

theorem State.kept_arbiter (s : State) : s.arbiter.kept = s.kept := by
  unfold State.arbiter
  try dsimp only
  repeat' first
    | with_reducible rfl
    | intro _
    | simp only [State.kept_arbitrate]
    | rw [State.kept_forEach]
    | split

theorem State.kept_planRing (r : ReqNo) (s : State) : (s.planRing r).kept = s.kept := by
  unfold State.planRing
  try dsimp only
  repeat' first
    | with_reducible rfl
    | intro _
    | simp only [State.kept_startMove]
    | split

theorem State.kept_planHop (r : ReqNo) (s : State) : (s.planHop r).kept = s.kept := by
  unfold State.planHop
  try dsimp only
  repeat' first
    | with_reducible rfl
    | intro _
    | simp only [State.kept_offerHop]
    | split

theorem State.kept_planYield (r : ReqNo) (s : State) : (s.planYield r).kept = s.kept := by
  unfold State.planYield
  try dsimp only
  repeat' first
    | with_reducible rfl
    | intro _
    | simp only [State.kept_modDrv, State.kept_driveToIdle]
    | split

theorem State.kept_driveAsks (s : State) : s.driveAsks.kept = s.kept := by
  unfold State.driveAsks
  try dsimp only
  repeat' first
    | with_reducible rfl
    | intro _
    | simp only [State.kept_addAsk]
    | rw [State.kept_forEach]
    | split

theorem State.kept_planTakeIn (r : ReqNo) (s : State) : (s.planTakeIn r).kept = s.kept := by
  unfold State.planTakeIn
  try dsimp only
  repeat' first
    | with_reducible rfl
    | intro _
    | simp only [State.kept_startMove]
    | split

theorem State.kept_plan (s : State) : s.plan.kept = s.kept := by
  unfold State.plan
  try dsimp only
  repeat' first
    | with_reducible rfl
    | intro _
    | simp only [State.kept_planLookup, State.kept_planLine, State.kept_planClaim, State.kept_examineDrive, State.kept_planRing, State.kept_arbiter, State.kept_planTakeIn, State.kept_planHop, State.kept_planYield, State.kept_driveAsks, State.kept_claimTest]
    | rw [State.kept_forEach]
    | split

theorem State.kept_endDriveAsk (d : Nat) (s : State) : (s.endDriveAsk d).kept = s.kept := by
  unfold State.endDriveAsk
  try dsimp only
  repeat' first
    | with_reducible rfl
    | intro _
    | simp only [State.kept_dropAsk]
    | split

theorem State.kept_driveEmptied (d : Nat) (s : State) : (s.driveEmptied d).kept = s.kept := by
  unfold State.driveEmptied
  try dsimp only
  repeat' first
    | with_reducible rfl
    | intro _
    | simp only [State.kept_endDriveAsk, State.kept_beginCleaning, State.kept_arbiter, State.kept_driveUseEnds]
    | split

theorem State.kept_useEndWork (s : State) : s.useEndWork.kept = s.kept := by
  unfold State.useEndWork
  try dsimp only
  repeat' first
    | with_reducible rfl
    | intro _
    | simp only [State.kept_push, State.kept_useEndTest]
    | split

theorem State.kept_offerRoom (s : State) : s.offerRoom.kept = s.kept := by
  unfold State.offerRoom
  try dsimp only
  repeat' first
    | with_reducible rfl
    | intro _
    | simp only [State.kept_stowDrive, State.kept_cleanMove, State.kept_askTakeIn, State.kept_askEntryIn, State.kept_serveExit, State.kept_startMove]
    | rw [State.kept_forEach]
    | split

theorem State.kept_tellObtained (res : Resource) (a : Asker) (s : State) : (s.tellObtained res a).kept = s.kept := by
  unfold State.tellObtained
  try dsimp only
  repeat' first
    | with_reducible rfl
    | intro _
    | simp only [State.kept_dropAsk, State.kept_startMove, State.kept_withdrawPrompt, State.kept_beginCleaning, State.kept_stowDrive, State.kept_push]
    | split

theorem State.kept_toldHeld (res : Resource) (a : Asker) (s : State) : (s.toldHeld res a).kept = s.kept := by
  unfold State.toldHeld
  try dsimp only
  repeat' first
    | with_reducible rfl
    | intro _
    | simp only [State.kept_tellObtained, State.kept_push]
    | split

theorem State.kept_holdObtained (res : Resource) (s : State) : (s.holdObtained res).kept = s.kept := by
  unfold State.holdObtained
  try dsimp only
  repeat' first
    | with_reducible rfl
    | intro _
    | simp only [State.kept_tellObtained, State.kept_push]
    | rw [State.kept_forEach]
    | split

theorem State.kept_holdLost (res : Resource) (s : State) : (s.holdLost res).kept = s.kept := by
  unfold State.holdLost
  try dsimp only
  repeat' first
    | with_reducible rfl
    | intro _
    | simp only [State.kept_dropAsk, State.kept_releaseDrivesOf, State.kept_backToStandby, State.kept_addAsk, State.kept_push]
    | rw [State.kept_forEach]
    | split

theorem State.kept_freeQuietly (r : ReqNo) (s : State) : (s.freeQuietly r).kept = s.kept := by
  unfold State.freeQuietly
  try dsimp only
  repeat' first
    | with_reducible rfl
    | intro _
    | simp only [State.kept_modDrv]
    | split

theorem State.kept_planWithoutHolds (s : State) : s.planWithoutHolds.kept = s.kept := by
  unfold State.planWithoutHolds
  try dsimp only
  repeat' first
    | with_reducible rfl
    | intro _
    | simp only [State.kept_modClaim, State.kept_plan]
    | split

theorem State.kept_holdNotTaken (res : Resource) (s : State) : (s.holdNotTaken res).kept = s.kept := by
  unfold State.holdNotTaken
  try dsimp only
  repeat' first
    | with_reducible rfl
    | intro _
    | simp only [State.kept_dropAsk, State.kept_freeQuietly, State.kept_updReq, State.kept_planWithoutHolds]
    | rw [State.kept_forEach]
    | split

theorem State.kept_shelfArrived (v : Serial) (links : List ReqNo) (s : State) : (s.shelfArrived v links).kept = s.kept := by
  unfold State.shelfArrived
  try dsimp only
  repeat' first
    | with_reducible rfl
    | intro _
    | simp only [State.kept_updReq, State.kept_claimReel, State.kept_reqReport, State.kept_toStandby]
    | rw [State.kept_forEach]
    | split

theorem State.kept_enterReel (v : Serial) (c n : Nat) (s : State) : (s.enterReel v c n).kept = s.kept := by
  unfold State.enterReel
  try dsimp only
  repeat' first
    | with_reducible rfl
    | intro _
    | simp only [State.kept_addEntry, State.kept_queueEntryIn]
    | split

theorem State.kept_serveSlots (s : State) : s.serveSlots.kept = s.kept := by
  unfold State.serveSlots
  try dsimp only
  repeat' first
    | with_reducible rfl
    | intro _
    | simp only [State.kept_enterReel, State.kept_shelfArrived, State.kept_updPrompt, State.kept_withdrawPrompt]
    | rw [State.kept_forEach]
    | split

theorem State.kept_shelfGone (v : Serial) (s : State) : (s.shelfGone v).kept = s.kept := by
  unfold State.shelfGone
  try dsimp only
  repeat' first
    | with_reducible rfl
    | intro _
    | simp only [State.kept_emptyCell, State.kept_withdrawPrompt]
    | split

theorem State.kept_promptLeft (p : Prompt) (s : State) : (s.promptLeft p).kept = s.kept := by
  unfold State.promptLeft
  try dsimp only
  repeat' first
    | with_reducible rfl
    | intro _
    | simp only [State.kept_askEntryIn, State.kept_shelfFetch, State.kept_shelfGone, State.kept_retryPending, State.kept_takeDeferred]
    | split

theorem State.kept_settleDropped (s : State) : s.settleDropped.kept = s.kept := by
  unfold State.settleDropped
  try dsimp only
  repeat' first
    | with_reducible rfl
    | intro _
    | simp only [State.kept_addAsk, State.kept_push, State.kept_updRec, State.kept_sendYield]
    | rw [State.kept_forEach]
    | split

theorem State.kept_doWork (w : Work) (s : State) : (s.doWork w).kept = s.kept := by
  unfold State.doWork
  try dsimp only
  repeat' first
    | with_reducible rfl
    | intro _
    | simp only [State.kept_plan, State.kept_driveEmptied, State.kept_serveCells, State.kept_serveSlots, State.kept_serveClean, State.kept_push, State.kept_promptLeft, State.kept_offerRoom, State.kept_issue, State.kept_claimTest, State.kept_useEndWork, State.kept_handoffTest, State.kept_handoffOn, State.kept_strayTest, State.kept_holdObtained, State.kept_toldHeld, State.kept_holdLost, State.kept_holdNotTaken, State.kept_ownerUndelivered, State.kept_failRequest, State.kept_putAwayMove, State.kept_settleDropped, State.kept_askEntryIn, State.kept_reelGone]
    | split

theorem State.kept_drain (n : Nat) (s : State) : (State.drain n s).kept = s.kept := by
  induction n generalizing s with
  | zero => rfl
  | succ n ih =>
    unfold State.drain
    split
    · rfl
    · rw [ih, State.kept_doWork]; rfl

/-- No consequence of a command changes what `State.kept` gathers. -/
theorem State.kept_settle (s : State) : s.settle.kept = s.kept := State.kept_drain Config.settleFuel s

/-- Nothing waits after the consequences of a command. -/
@[simp] theorem State.settle_agenda (s : State) : s.settle.agenda = [] := rfl

/-- A command that left no consequence ends as it is. -/
theorem State.settle_of_agenda {s : State} (h : s.agenda = []) : s.settle = s := by
  have e : State.drain Config.settleFuel s = s := by
    unfold Config.settleFuel State.drain
    rw [h]
  rw [State.settle, e, State.withAgenda, ← h]

end Sys2Proof.Machine
end

