-- ==== Sys2Proof/Laws/Base.lean ====
section
/-! SUPPORT. The Start-Up Block, the queue of waiting commands and the sizes of the tables of fixed size, `State.base`, through every
shared operation: SET STARTUP, POWER_ON_RESET and the step itself alone change the first two, and only a table of a wrong size is ever
given another. -/

namespace Sys2Proof.Machine

set_option linter.all false

/-- The sizes of the entry cells, the Peer Roster, the Account Table and the band counters. -/
def State.sizes (s : State) : List Nat :=
  [s.inv.cells.length, s.line.roster.length, s.acct.accounts.length, s.acct.bandTicks.length, s.acct.bandEntries.length]

/-- The Start-Up Block, the queue of waiting commands, and the sizes of the tables. -/
def State.base (s : State) : StartUp × List Instr × List Nat := (s.sys.startup, s.pending, s.sizes)

theorem State.base_of_kept {s t : State} (h : t.kept = s.kept) : t.base = s.base := by
  have a := congrArg Kept.sys h
  have b := congrArg Kept.pending h
  have c := congrArg Kept.acct h
  have d := congrArg Kept.cellCount h
  have e := congrArg Kept.roster h
  simp only [State.kept] at a b c d e
  simp only [State.base, State.sizes, a, b, c, d, e]

theorem State.base_forEach {α : Type} (l : List α) (f : α → State → State) (s : State) (h : ∀ a t, (f a t).base = t.base) :
    (State.forEach l f s).base = s.base := by
  unfold State.forEach
  induction l generalizing s with
  | nil => rfl
  | cons a l ih => rw [List.foldl_cons, ih, h]

theorem State.base_modSys (f : Sys → Sys) (s : State) (h : ∀ u, (f u).startup = u.startup) : (s.modSys f).base = s.base := by
  simp [State.base, State.sizes, h]

theorem State.base_modInv (f : Inv → Inv) (s : State) (h : ∀ u, (f u).cells.length = u.cells.length) : (s.modInv f).base = s.base := by
  simp [State.base, State.sizes, h]
theorem State.base_modDrv (f : Drv → Drv) (s : State) : (s.modDrv f).base = s.base := rfl
theorem State.base_modRm (f : Rm → Rm) (s : State) : (s.modRm f).base = s.base := rfl
theorem State.base_modPx (f : Px → Px) (s : State) : (s.modPx f).base = s.base := rfl
theorem State.base_modArm (f : Arm → Arm) (s : State) : (s.modArm f).base = s.base := rfl
theorem State.base_modLine (f : Line → Line) (s : State) (h : ∀ u, (f u).roster.length = u.roster.length) :
    (s.modLine f).base = s.base := by
  simp [State.base, State.sizes, h]
theorem State.base_modClaim (f : Claim → Claim) (s : State) : (s.modClaim f).base = s.base := rfl
theorem State.base_modPanel (f : Panel → Panel) (s : State) : (s.modPanel f).base = s.base := rfl
theorem State.base_modAcct (f : Acct → Acct) (s : State)
    (h : ∀ u, (f u).accounts.length = u.accounts.length ∧ (f u).bandTicks.length = u.bandTicks.length ∧
      (f u).bandEntries.length = u.bandEntries.length) : (s.modAcct f).base = s.base := by
  simp [State.base, State.sizes, h]
theorem State.base_modPort (f : Port → Port) (s : State) : (s.modPort f).base = s.base := rfl

theorem State.base_claimReel (v : Serial) (r : ReqNo) (k : ReservKind) (s : State) : (s.claimReel v r k).2.base = s.base :=
  State.base_of_kept (State.kept_claimReel ..)

theorem State.base_of_claimReel {v : Serial} {r : ReqNo} {k : ReservKind} {s u : State} {c : ClaimResult}
    (h : s.claimReel v r k = (c, u)) : u.base = s.base := State.base_of_kept (State.kept_of_claimReel h)

theorem State.base_settle (s : State) : s.settle.base = s.base := State.base_of_kept (State.kept_settle s)

theorem State.base_addEntry (e : Entry) (s : State) : (s.addEntry e).base = s.base := State.base_of_kept (State.kept_addEntry ..)
theorem State.base_addReq (q : Request) (s : State) : (s.addReq q).base = s.base := State.base_of_kept (State.kept_addReq ..)
theorem State.base_answered (o : Order) (s : State) : (s.answered o).base = s.base := State.base_of_kept (State.kept_answered ..)
theorem State.base_queueEntryIn (v : Serial) (s : State) : (s.queueEntryIn v).base = s.base := State.base_of_kept (State.kept_queueEntryIn ..)
theorem State.base_askEntryIn (v : Serial) (s : State) : (s.askEntryIn v).base = s.base := State.base_of_kept (State.kept_askEntryIn ..)
theorem State.base_askSeek (r : ReqNo) (s : State) : (s.askSeek r).base = s.base := State.base_of_kept (State.kept_askSeek ..)
theorem State.base_backToStandby (r : ReqNo) (s : State) : (s.backToStandby r).base = s.base := State.base_of_kept (State.kept_backToStandby ..)
theorem State.base_becomeProxy (r : ReqNo) (p : Nat) (s : State) : (s.becomeProxy r p).base = s.base := State.base_of_kept (State.kept_becomeProxy ..)
theorem State.base_beginCleaning (d : Nat) (s : State) : (s.beginCleaning d).base = s.base := State.base_of_kept (State.kept_beginCleaning ..)
theorem State.base_claimAbsent (p : Nat) (s : State) : (s.claimAbsent p).base = s.base := State.base_of_kept (State.kept_claimAbsent ..)
theorem State.base_claimTest (s : State) : (s.claimTest).base = s.base := State.base_of_kept (State.kept_claimTest ..)
theorem State.base_countAttempt (r : ReqNo) (f : FollowUp) (unanswered : Bool) (s : State) : (s.countAttempt r f unanswered).base = s.base := State.base_of_kept (State.kept_countAttempt ..)
theorem State.base_countPass (v : Serial) (s : State) : (s.countPass v).base = s.base := State.base_of_kept (State.kept_countPass ..)
theorem State.base_delEntry (v : Serial) (s : State) : (s.delEntry v).base = s.base := State.base_of_kept (State.kept_delEntry ..)
theorem State.base_delReq (r : ReqNo) (s : State) : (s.delReq r).base = s.base := State.base_of_kept (State.kept_delReq ..)
theorem State.base_driveOff (d : Nat) (loaded : Option Serial) (s : State) : (s.driveOff d loaded).base = s.base := State.base_of_kept (State.kept_driveOff ..)
theorem State.base_driveToIdle (d : Nat) (s : State) : (s.driveToIdle d).base = s.base := State.base_of_kept (State.kept_driveToIdle ..)
theorem State.base_dropArrival (r : ReqNo) (s : State) : (s.dropArrival r).base = s.base := State.base_of_kept (State.kept_dropArrival ..)
theorem State.base_dropAsker (a : Asker) (s : State) : (s.dropAsker a).base = s.base := State.base_of_kept (State.kept_dropAsker ..)
theorem State.base_dropHolds (s : State) : (s.dropHolds).base = s.base := State.base_of_kept (State.kept_dropHolds ..)
theorem State.base_emptyCell (c : Nat) (s : State) : (s.emptyCell c).base = s.base := State.base_of_kept (State.kept_emptyCell ..)
theorem State.base_emptySource (m : Move) (s : State) : (s.emptySource m).base = s.base := State.base_of_kept (State.kept_emptySource ..)
theorem State.base_endConflict (res : Resource) (s : State) : (s.endConflict res).base = s.base := State.base_of_kept (State.kept_endConflict ..)
theorem State.base_endMove (m : Move) (s : State) : (s.endMove m).base = s.base := State.base_of_kept (State.kept_endMove ..)
theorem State.base_endRequest (r : ReqNo) (e : End) (s : State) : (s.endRequest r e).base = s.base := State.base_of_kept (State.kept_endRequest ..)
theorem State.base_endReservations (r : ReqNo) (s : State) : (s.endReservations r).base = s.base := State.base_of_kept (State.kept_endReservations ..)
theorem State.base_enterMounted (r : ReqNo) (d : Nat) (v : Serial) (remount : Bool) (s : State) : (s.enterMounted r d v remount).base = s.base := State.base_of_kept (State.kept_enterMounted ..)
theorem State.base_enterReel (v : Serial) (c n : Nat) (s : State) : (s.enterReel v c n).base = s.base := State.base_of_kept (State.kept_enterReel ..)
theorem State.base_escalate (k : PromptKey) (s : State) : (s.escalate k).base = s.base := State.base_of_kept (State.kept_escalate ..)
theorem State.base_examineDrive (d : Nat) (s : State) : (s.examineDrive d).base = s.base := State.base_of_kept (State.kept_examineDrive ..)
theorem State.base_exchangeAbsent (p : Nat) (s : State) : (s.exchangeAbsent p).base = s.base := State.base_of_kept (State.kept_exchangeAbsent ..)
theorem State.base_failRequest (r : ReqNo) (code : FailCode) (s : State) : (s.failRequest r code).base = s.base := State.base_of_kept (State.kept_failRequest ..)
theorem State.base_freezeOrder (s : State) : (s.freezeOrder).base = s.base := State.base_of_kept (State.kept_freezeOrder ..)
theorem State.base_getDone (m : Move) (ring : Bool) (s : State) : (s.getDone m ring).base = s.base := State.base_of_kept (State.kept_getDone ..)
theorem State.base_getFailed (m : Move) (s : State) : (s.getFailed m).base = s.base := State.base_of_kept (State.kept_getFailed ..)
theorem State.base_giveUpMsg (m : Msg) (cause : UndelCause) (attempts : Nat) (s : State) : (s.giveUpMsg m cause attempts).base = s.base := State.base_of_kept (State.kept_giveUpMsg ..)
theorem State.base_handoffTest (s : State) : (s.handoffTest).base = s.base := State.base_of_kept (State.kept_handoffTest ..)
theorem State.base_hearPlace (b : PlaceBody) (sender : Nat) (s : State) : (s.hearPlace b sender).base = s.base := State.base_of_kept (State.kept_hearPlace ..)
theorem State.base_hearViaHatch (b : PlaceBody) (sender : Nat) (s : State) : (s.hearViaHatch b sender).base = s.base := State.base_of_kept (State.kept_hearViaHatch ..)
theorem State.base_hopAccepted (r : ReqNo) (p : Nat) (s : State) : (s.hopAccepted r p).base = s.base := State.base_of_kept (State.kept_hopAccepted ..)
theorem State.base_hopRefused (r : ReqNo) (p : Nat) (s : State) : (s.hopRefused r p).base = s.base := State.base_of_kept (State.kept_hopRefused ..)
theorem State.base_issue (s : State) : (s.issue).base = s.base := State.base_of_kept (State.kept_issue ..)
theorem State.base_leavePrompt (k : PromptKey) (s : State) : (s.leavePrompt k).base = s.base := State.base_of_kept (State.kept_leavePrompt ..)
theorem State.base_lookup (r : ReqNo) (s : State) : (s.lookup r).base = s.base := State.base_of_kept (State.kept_lookup ..)
theorem State.base_occupiedDest (m : Move) (s : State) : (s.occupiedDest m).base = s.base := State.base_of_kept (State.kept_occupiedDest ..)
theorem State.base_ownerWithdrawn (m : Msg) (s : State) : (s.ownerWithdrawn m).base = s.base := State.base_of_kept (State.kept_ownerWithdrawn ..)
theorem State.base_ownerWitnessed (m : Msg) (s : State) : (s.ownerWitnessed m).base = s.base := State.base_of_kept (State.kept_ownerWitnessed ..)
theorem State.base_pendCell (r : ReqNo) (s : State) : (s.pendCell r).base = s.base := State.base_of_kept (State.kept_pendCell ..)
theorem State.base_plan (s : State) : (s.plan).base = s.base := State.base_of_kept (State.kept_plan ..)
theorem State.base_push (w : Work) (s : State) : (s.push w).base = s.base := State.base_of_kept (State.kept_push ..)
theorem State.base_putAwayMove (failed occupied : Bool) (s : State) : (s.putAwayMove failed occupied).base = s.base := State.base_of_kept (State.kept_putAwayMove ..)
theorem State.base_putCell (c : Nat) (st : CellState) (s : State) : (s.putCell c st).base = s.base := State.base_of_kept (State.kept_putCell ..)
theorem State.base_putFailed (m : Move) (s : State) : (s.putFailed m).base = s.base := State.base_of_kept (State.kept_putFailed ..)
theorem State.base_putToCell (m : Move) (c : Nat) (s : State) : (s.putToCell m c).base = s.base := State.base_of_kept (State.kept_putToCell ..)
theorem State.base_putToHatch (m : Move) (side : Side) (s : State) : (s.putToHatch m side).base = s.base := State.base_of_kept (State.kept_putToHatch ..)
theorem State.base_putToSlot (m : Move) (s : State) : (s.putToSlot m).base = s.base := State.base_of_kept (State.kept_putToSlot ..)
theorem State.base_putToSlotDone (m : Move) (s : State) : (s.putToSlotDone m).base = s.base := State.base_of_kept (State.kept_putToSlotDone ..)
theorem State.base_raise (c : Cause) (s : State) : (s.raise c).base = s.base := State.base_of_kept (State.kept_raise ..)
theorem State.base_raisePlain (cls : PromptClass) (sub : Subject) (s : State) : (s.raisePlain cls sub).base = s.base := State.base_of_kept (State.kept_raisePlain ..)
theorem State.base_redirect (m : Move) (dst : Loc) (p : Option CellPurpose) (failed : Bool) (s : State) : (s.redirect m dst p failed).base = s.base := State.base_of_kept (State.kept_redirect ..)
theorem State.base_reelMissing (v : Serial) (s : State) : (s.reelMissing v).base = s.base := State.base_of_kept (State.kept_reelMissing ..)
theorem State.base_relamp (s : State) : (s.relamp).base = s.base := State.base_of_kept (State.kept_relamp ..)
theorem State.base_releaseDrivesOf (r : ReqNo) (s : State) : (s.releaseDrivesOf r).base = s.base := State.base_of_kept (State.kept_releaseDrivesOf ..)
theorem State.base_releaseProxy (r : ReqNo) (k : ReleaseKind) (s : State) : (s.releaseProxy r k).base = s.base := State.base_of_kept (State.kept_releaseProxy ..)
theorem State.base_removeMoves (p : Move → Bool) (s : State) : (s.removeMoves p).base = s.base := State.base_of_kept (State.kept_removeMoves ..)
theorem State.base_repeatYields (s : State) : (s.repeatYields).base = s.base := State.base_of_kept (State.kept_repeatYields ..)
theorem State.base_report (b : ReportBody) (s : State) : (s.report b).base = s.base := State.base_of_kept (State.kept_report ..)
theorem State.base_reportPrompt (ev : PromptEvent) (p : Prompt) (acks : Option Nat) (s : State) : (s.reportPrompt ev p acks).base = s.base := State.base_of_kept (State.kept_reportPrompt ..)
theorem State.base_reqReport (q : Request) (ev : ReqEvent) (s : State) : (s.reqReport q ev).base = s.base := State.base_of_kept (State.kept_reqReport ..)
theorem State.base_reserveDrive (d : Nat) (r : ReqNo) (s : State) : (s.reserveDrive d r).base = s.base := State.base_of_kept (State.kept_reserveDrive ..)
theorem State.base_retireEntry (v : Serial) (s : State) : (s.retireEntry v).base = s.base := State.base_of_kept (State.kept_retireEntry ..)
theorem State.base_returnPrompt (k : PromptKey) (s : State) : (s.returnPrompt k).base = s.base := State.base_of_kept (State.kept_returnPrompt ..)
theorem State.base_send (m : Msg) (s : State) : (s.send m).base = s.base := State.base_of_kept (State.kept_send ..)
theorem State.base_sendPlace (r : ReqNo) (p : Nat) (s : State) : (s.sendPlace r p).base = s.base := State.base_of_kept (State.kept_sendPlace ..)
theorem State.base_sendRelease (server : Nat) (r : ReqNo) (k : ReleaseKind) (s : State) : (s.sendRelease server r k).base = s.base := State.base_of_kept (State.kept_sendRelease ..)
theorem State.base_sendTagged (tag : PresTag) (m : Msg) (s : State) : (s.sendTagged tag m).base = s.base := State.base_of_kept (State.kept_sendTagged ..)
theorem State.base_settleDropped (s : State) : (s.settleDropped).base = s.base := State.base_of_kept (State.kept_settleDropped ..)
theorem State.base_shelfArrived (v : Serial) (links : List ReqNo) (s : State) : (s.shelfArrived v links).base = s.base := State.base_of_kept (State.kept_shelfArrived ..)
theorem State.base_shelfFetch (r : ReqNo) (v : Serial) (s : State) : (s.shelfFetch r v).base = s.base := State.base_of_kept (State.kept_shelfFetch ..)
theorem State.base_startMove (r : ReqNo) (k : MoveKind) (s : State) : (s.startMove r k).base = s.base := State.base_of_kept (State.kept_startMove ..)
theorem State.base_stowDrive (d : Nat) (s : State) : (s.stowDrive d).base = s.base := State.base_of_kept (State.kept_stowDrive ..)
theorem State.base_thawOrder (s : State) : (s.thawOrder).base = s.base := State.base_of_kept (State.kept_thawOrder ..)
theorem State.base_toStandby (r : ReqNo) (s : State) : (s.toStandby r).base = s.base := State.base_of_kept (State.kept_toStandby ..)
theorem State.base_updDrive (d : Nat) (f : Drive → Drive) (s : State) : (s.updDrive d f).base = s.base := State.base_of_kept (State.kept_updDrive ..)
theorem State.base_updEntry (v : Serial) (f : Entry → Entry) (s : State) : (s.updEntry v f).base = s.base := State.base_of_kept (State.kept_updEntry ..)
theorem State.base_updPrompt (k : PromptKey) (f : Prompt → Prompt) (s : State) : (s.updPrompt k f).base = s.base := State.base_of_kept (State.kept_updPrompt ..)
theorem State.base_updRec (res : Resource) (f : ClaimRec → ClaimRec) (s : State) : (s.updRec res f).base = s.base := State.base_of_kept (State.kept_updRec ..)
theorem State.base_updReq (r : ReqNo) (f : Request → Request) (s : State) : (s.updReq r f).base = s.base := State.base_of_kept (State.kept_updReq ..)
theorem State.base_wearReel (v : Serial) (errors : Nat) (s : State) : (s.wearReel v errors).base = s.base := State.base_of_kept (State.kept_wearReel ..)
theorem State.base_withdraw (p : Msg → Bool) (s : State) : (s.withdraw p).base = s.base := State.base_of_kept (State.kept_withdraw ..)
theorem State.base_withdrawPrompt (k : PromptKey) (s : State) : (s.withdrawPrompt k).base = s.base := State.base_of_kept (State.kept_withdrawPrompt ..)
theorem State.base_giveUpAlone (res : Resource) (s : State) : (s.giveUpAlone res).base = s.base := State.base_of_kept (State.kept_giveUpAlone ..)
theorem State.base_yieldAlone (s : State) : (s.yieldAlone).base = s.base := State.base_of_kept (State.kept_yieldAlone ..)

theorem State.base_reach (t : Nat) (s : State) : (s.reach t).base = s.base := by
  unfold State.reach
  try dsimp only
  repeat' first
    | with_reducible rfl
    | intro _
    | rw [State.base_modSys]
    | split
    | rfl

theorem State.base_updRoster (p : Nat) (f : RosterEntry → RosterEntry) (s : State) : (s.updRoster p f).base = s.base := by
  unfold State.updRoster
  try dsimp only
  repeat' first
    | with_reducible rfl
    | intro _
    | rw [State.base_modLine]
    | simp only [and_self, List.length_set]
    | split
    | rfl

theorem State.base_offerClosed (x : ClosedSession) (s : State) : (s.offerClosed x).base = s.base := by
  unfold State.offerClosed
  try dsimp only
  repeat' first
    | with_reducible rfl
    | intro _
    | simp only [State.base_report]
    | rw [State.base_modAcct]
    | simp only [and_self, List.length_set]
    | split
    | rfl

theorem State.base_addCharge (account C secs : Nat) (s : State) : (s.addCharge account C secs).base = s.base := by
  unfold State.addCharge
  try dsimp only
  repeat' first
    | with_reducible rfl
    | intro _
    | rw [State.base_modAcct]
    | simp only [and_self, List.length_set]
    | split
    | rfl

theorem State.base_closeSession (d : Nat) (errors : Nat) (cause : CloseCause) (s : State) : (s.closeSession d errors cause).base = s.base := by
  unfold State.closeSession
  try dsimp only
  repeat' first
    | with_reducible rfl
    | intro _
    | simp only [State.base_addCharge, State.base_offerClosed, State.base_updDrive, State.base_wearReel]
    | split
    | rfl

theorem State.base_closeCleaning (d : Nat) (lost : Bool) (s : State) : (s.closeCleaning d lost).base = s.base := by
  unfold State.closeCleaning
  try dsimp only
  repeat' first
    | with_reducible rfl
    | intro _
    | simp only [State.base_addCharge, State.base_offerClosed, State.base_wearReel]
    | split
    | rfl

theorem State.base_dismountDrive (d : Nat) (errors : Nat) (s : State) : (s.dismountDrive d errors).base = s.base := by
  unfold State.dismountDrive
  try dsimp only
  repeat' first
    | with_reducible rfl
    | intro _
    | simp only [State.base_closeSession, State.base_driveToIdle, State.base_examineDrive, State.base_plan, State.base_push, State.base_updDrive]
    | split
    | rfl

theorem State.base_dismountRequest (r : ReqNo) (errors : Nat) (e : End) (s : State) : (s.dismountRequest r errors e).base = s.base := by
  unfold State.dismountRequest
  try dsimp only
  repeat' first
    | with_reducible rfl
    | intro _
    | simp only [State.base_dismountDrive, State.base_endRequest]
    | split
    | rfl

theorem State.base_mountDone (r : ReqNo) (d : Nat) (v : Serial) (s : State) : (s.mountDone r d v).base = s.base := by
  unfold State.mountDone
  try dsimp only
  repeat' first
    | with_reducible rfl
    | intro _
    | simp only [State.base_dismountRequest, State.base_enterMounted]
    | split
    | rfl

theorem State.base_cancelMoving (r : ReqNo) (s : State) : (s.cancelMoving r).base = s.base := by
  unfold State.cancelMoving
  try dsimp only
  repeat' first
    | with_reducible rfl
    | intro _
    | simp only [State.base_endRequest, State.base_issue, State.base_push, State.base_putToSlot, State.base_releaseDrivesOf, State.base_updReq]
    | split
    | rfl

theorem State.base_cancelRequest (r : ReqNo) (s : State) : (s.cancelRequest r).base = s.base := by
  unfold State.cancelRequest
  try dsimp only
  repeat' first
    | with_reducible rfl
    | intro _
    | simp only [State.base_cancelMoving, State.base_dismountRequest, State.base_endRequest, State.base_releaseProxy, State.base_sendRelease, State.base_updReq]
    | split
    | rfl

theorem State.base_putToDrive (m : Move) (d : Nat) (s : State) : (s.putToDrive m d).base = s.base := by
  unfold State.putToDrive
  try dsimp only
  repeat' first
    | with_reducible rfl
    | intro _
    | simp only [State.base_driveToIdle, State.base_mountDone, State.base_updDrive, State.base_updEntry]
    | split
    | rfl

theorem State.base_putDone (m : Move) (s : State) : (s.putDone m).base = s.base := by
  unfold State.putDone
  try dsimp only
  repeat' first
    | with_reducible rfl
    | intro _
    | simp only [State.base_endMove, State.base_putToCell, State.base_putToDrive, State.base_putToHatch, State.base_putToSlotDone]
    | split
    | rfl

theorem State.base_retry (o : Order) (m : Move) (s : State) : (s.retry o m).base = s.base := by
  unfold State.retry
  try dsimp only
  repeat' first
    | with_reducible rfl
    | intro _
    | simp only [State.base_modArm, State.base_report]
    | split
    | rfl

theorem State.base_moveFails (o : Order) (m : Move) (s : State) : (s.moveFails o m).base = s.base := by
  unfold State.moveFails
  try dsimp only
  repeat' first
    | with_reducible rfl
    | intro _
    | simp only [State.base_getFailed, State.base_putFailed, State.base_raisePlain]
    | split
    | rfl

theorem State.base_orderFails (o : Order) (m : Move) (f : Fail) (s : State) : (s.orderFails o m f).base = s.base := by
  unfold State.orderFails
  try dsimp only
  repeat' first
    | with_reducible rfl
    | intro _
    | simp only [State.base_emptySource, State.base_issue, State.base_moveFails, State.base_occupiedDest, State.base_push, State.base_retry]
    | split
    | rfl

theorem State.base_countStray (s : State) : (s.countStray).base = s.base := by
  unfold State.countStray
  try dsimp only
  repeat' first
    | with_reducible rfl
    | intro _
    | simp only [State.base_modPx]
    | split
    | rfl

theorem State.base_hearPlaced (r : ReqNo) (sender : Nat) (s : State) : (s.hearPlaced r sender).base = s.base := by
  unfold State.hearPlaced
  try dsimp only
  repeat' first
    | with_reducible rfl
    | intro _
    | simp only [State.base_becomeProxy, State.base_countStray, State.base_hopAccepted, State.base_sendRelease]
    | split
    | rfl

theorem State.base_hearRefused (r : ReqNo) (why : RefuseReason) (sender : Nat) (s : State) : (s.hearRefused r why sender).base = s.base := by
  unfold State.hearRefused
  try dsimp only
  repeat' first
    | with_reducible rfl
    | intro _
    | simp only [State.base_countAttempt, State.base_countStray, State.base_failRequest, State.base_hopRefused]
    | split
    | rfl

theorem State.base_fromServer (r : ReqNo) (sender : Nat) (movedHere : Bool) (apply : Request → State → State) (s : State) (h : ∀ q t, (apply q t).base = t.base) : (s.fromServer r sender movedHere apply).base = s.base := by
  unfold State.fromServer
  try dsimp only
  repeat' first
    | with_reducible rfl
    | intro _
    | simp only [h]
    | simp only [State.base_becomeProxy, State.base_countStray]
    | split
    | rfl

theorem State.base_hearRelease (r : ReqNo) (k : ReleaseKind) (sender : Nat) (s : State) : (s.hearRelease r k sender).base = s.base := by
  unfold State.hearRelease
  try dsimp only
  repeat' first
    | with_reducible rfl
    | intro _
    | simp only [State.base_cancelRequest, State.base_countStray, State.base_dismountRequest]
    | split
    | rfl

theorem State.base_askPresence (tag : PresTag) (s : State) : (s.askPresence tag).base = s.base := by
  unfold State.askPresence
  try dsimp only
  repeat' first
    | with_reducible rfl
    | intro _
    | simp only [State.base_handoffTest, State.base_push, State.base_repeatYields, State.base_sendTagged]
    | split
    | rfl

theorem State.base_startPresence (s : State) : (s.startPresence).base = s.base := by
  unfold State.startPresence
  try dsimp only
  repeat' first
    | with_reducible rfl
    | intro _
    | rw [State.base_modLine]
    | simp only [and_self, List.length_set]
    | split
    | rfl

theorem State.base_withCondition (f : State → State) (s : State) (h : ∀ t, (f t).base = t.base) : (s.withCondition f).base = s.base := by
  unfold State.withCondition
  try dsimp only
  repeat' first
    | with_reducible rfl
    | intro _
    | simp only [h]
    | simp only [State.base_askPresence, State.base_startPresence]
    | split
    | rfl

theorem State.base_takeUpCell (c : Nat) (s : State) : (s.takeUpCell c).base = s.base := by
  unfold State.takeUpCell
  try dsimp only
  repeat' first
    | with_reducible rfl
    | intro _
    | simp only [State.base_askEntryIn, State.base_raise, State.base_raisePlain]
    | rw [State.base_forEach]
    | split
    | rfl

theorem State.base_takeUpDrive (x : Drive) (s : State) : (s.takeUpDrive x).base = s.base := by
  unfold State.takeUpDrive
  try dsimp only
  repeat' first
    | with_reducible rfl
    | intro _
    | simp only [State.base_beginCleaning, State.base_stowDrive, State.base_updDrive]
    | split
    | rfl

theorem State.base_enterActive (s : State) : (s.enterActive).base = s.base := by
  unfold State.enterActive
  try dsimp only
  repeat' first
    | with_reducible rfl
    | intro _
    | simp only [State.base_modPort, State.base_askPresence, State.base_claimTest, State.base_issue, State.base_plan, State.base_push, State.base_report, State.base_startPresence, State.base_takeUpCell, State.base_takeUpDrive]
    | rw [State.base_modLine]
    | simp only [and_self, List.length_set]
    | rw [State.base_forEach]
    | rw [State.base_modSys]
    | split
    | rfl

theorem State.base_closeAll (s : State) : s.closeAll.base = s.base :=
  State.base_forEach _ _ _ fun _ _ => State.base_closeSession ..

theorem State.base_reportListen (s : State) : s.reportListen.base = s.base := by
  unfold State.reportListen
  split
  · rfl
  · exact State.base_report ..

theorem State.base_completeRestart (s : State) : s.completeRestart.base = s.base := by
  have e : s.closeAll.reportListen.base = s.base := by rw [State.base_reportListen, State.base_closeAll]
  unfold State.completeRestart
  simp only [State.base, State.sizes, List.length_map] at e ⊢
  exact e

theorem State.base_giveUpAll (l : List TxMsg) (cause : UndelCause) (s : State) : (s.giveUpAll l cause).base = s.base := by
  unfold State.giveUpAll
  try dsimp only
  repeat' first
    | with_reducible rfl
    | intro _
    | simp only [State.base_giveUpMsg]
    | rw [State.base_forEach]
    | split
    | rfl

theorem State.base_flushTx (p : TxMsg → Bool) (cause : UndelCause) (s : State) : (s.flushTx p cause).base = s.base := by
  unfold State.flushTx
  try dsimp only
  repeat' first
    | with_reducible rfl
    | intro _
    | simp only [State.base_giveUpAll]
    | rw [State.base_modLine]
    | simp only [and_self, List.length_set]
    | split
    | rfl

theorem State.base_ownerUndelivered (m : Msg) (cause : UndelCause) (s : State) : (s.ownerUndelivered m cause).base = s.base := State.base_of_kept (State.kept_ownerUndelivered ..)

theorem State.base_undeliver (m : TxMsg) (n : Nat) (cause : UndelCause) (s : State) : (s.undeliver m n cause).base = s.base := by
  unfold State.undeliver
  try dsimp only
  repeat' first
    | with_reducible rfl
    | intro _
    | simp only [State.base_report, State.base_ownerUndelivered]
    | split
    | rfl

theorem State.base_clearTx (cause : UndelCause) (s : State) : (s.clearTx cause).base = s.base := by
  unfold State.clearTx
  rw [State.base_forEach _ _ _ fun m t => State.base_undeliver ..]
  rfl

theorem State.base_enterLine (new : LineState) (s : State) : (s.enterLine new).base = s.base := by
  unfold State.enterLine
  try dsimp only
  repeat' first
    | with_reducible rfl
    | intro _
    | simp only [State.base_dropHolds, State.base_flushTx, State.base_clearTx]
    | rw [State.base_modLine]
    | simp only [and_self, List.length_set]
    | split
    | rfl

theorem State.base_setLine (new : LineState) (s : State) : (s.setLine new).base = s.base := by
  unfold State.setLine
  try dsimp only
  repeat' first
    | with_reducible rfl
    | intro _
    | simp only [State.base_completeRestart, State.base_enterActive, State.base_enterLine, State.base_handoffTest, State.base_plan, State.base_push, State.base_report]
    | rw [State.base_modLine]
    | simp only [and_self, List.length_set]
    | rw [State.base_withCondition]
    | split
    | rfl

theorem State.base_score (f : Nat → Nat) (s : State) : (s.score f).base = s.base := by
  unfold State.score
  try dsimp only
  repeat' first
    | with_reducible rfl
    | intro _
    | simp only [State.base_setLine]
    | rw [State.base_modLine]
    | simp only [and_self, List.length_set]
    | split
    | rfl

theorem State.base_badFrame (s : State) : (s.badFrame).base = s.base := by
  unfold State.badFrame
  try dsimp only
  repeat' first
    | with_reducible rfl
    | intro _
    | simp only [State.base_score]
    | rw [State.base_modLine]
    | simp only [and_self, List.length_set]
    | split
    | rfl

theorem State.base_recover (s : State) : (s.recover).base = s.base := by
  unfold State.recover
  try dsimp only
  repeat' first
    | with_reducible rfl
    | intro _
    | simp only [State.base_askPresence, State.base_plan, State.base_push, State.base_report, State.base_settleDropped, State.base_startPresence]
    | rw [State.base_modLine]
    | simp only [and_self, List.length_set]
    | split
    | rfl

theorem State.base_testOwedTo (p : Nat) (s : State) : (s.testOwedTo p).base = s.base := State.base_of_kept (State.kept_testOwedTo ..)

theorem State.base_credit (p : Nat) (s : State) : (s.credit p).base = s.base := by
  unfold State.credit
  try dsimp only
  repeat' first
    | with_reducible rfl
    | intro _
    | simp only [State.base_testOwedTo, State.base_report, State.base_updRoster]
    | split
    | rfl

theorem State.base_peerGone (p : Nat) (s : State) : (s.peerGone p).base = s.base := by
  unfold State.peerGone
  try dsimp only
  repeat' first
    | with_reducible rfl
    | intro _
    | simp only [State.base_claimAbsent, State.base_exchangeAbsent, State.base_plan, State.base_push, State.base_report, State.base_updRoster]
    | split
    | rfl

theorem State.base_neighbourHeard (p : Nat) (changed : Bool) (s : State) : (s.neighbourHeard p changed).base = s.base := by
  unfold State.neighbourHeard
  try dsimp only
  repeat' first
    | with_reducible rfl
    | intro _
    | simp only [State.base_modRm, State.base_plan, State.base_push]
    | split
    | rfl

theorem State.base_hearPresence (b : PresenceBody) (p : Nat) (s : State) : (s.hearPresence b p).base = s.base := by
  unfold State.hearPresence
  try dsimp only
  repeat' first
    | with_reducible rfl
    | intro _
    | simp only [State.base_credit, State.base_neighbourHeard, State.base_peerGone, State.base_updRoster]
    | split
    | rfl

theorem State.base_takeFrame (sender : Nat) (presence : Bool) (deliver : State → State) (s : State) (h : ∀ t, (deliver t).base = t.base) : (s.takeFrame sender presence deliver).base = s.base := by
  unfold State.takeFrame
  try dsimp only
  repeat' first
    | with_reducible rfl
    | intro _
    | simp only [h]
    | simp only [State.base_credit, State.base_recover, State.base_setLine]
    | rw [State.base_modLine]
    | simp only [and_self, List.length_set]
    | split
    | rfl

theorem State.base_hear (sender : Nat) (legal presence : Bool) (deliver : State → State) (s : State) (h : ∀ t, (deliver t).base = t.base) : (s.hear sender legal presence deliver).base = s.base := by
  unfold State.hear
  try dsimp only
  repeat' first
    | with_reducible rfl
    | intro _
    | simp only [h]
    | simp only [State.base_badFrame, State.base_settle]
    | rw [State.base_takeFrame]
    | split
    | rfl

theorem State.base_dropOnLine (s : State) : (s.dropOnLine).base = s.base := by
  unfold State.dropOnLine
  try dsimp only
  repeat' first
    | with_reducible rfl
    | intro _
    | rw [State.base_modLine]
    | simp only [and_self, List.length_set]
    | split
    | rfl

theorem State.base_keepOnLine (attempts : Nat) (s : State) : (s.keepOnLine attempts).base = s.base := by
  unfold State.keepOnLine
  try dsimp only
  repeat' first
    | with_reducible rfl
    | intro _
    | rw [State.base_modLine]
    | simp only [and_self, List.length_set]
    | split
    | rfl

theorem State.base_joiningEnded (witnessed : Bool) (s : State) : (s.joiningEnded witnessed).base = s.base := by
  unfold State.joiningEnded
  try dsimp only
  repeat' first
    | with_reducible rfl
    | intro _
    | simp only [State.base_enterActive]
    | rw [State.base_modSys]
    | split
    | rfl

theorem State.base_settled (m : TxMsg) (s : State) : (s.settled m).base = s.base := by
  unfold State.settled
  try dsimp only
  repeat' first
    | with_reducible rfl
    | intro _
    | simp only [State.base_completeRestart, State.base_joiningEnded, State.base_ownerWitnessed]
    | split
    | rfl

theorem State.base_attemptWitnessed (s : State) : (s.attemptWitnessed).base = s.base := by
  unfold State.attemptWitnessed
  try dsimp only
  repeat' first
    | with_reducible rfl
    | intro _
    | simp only [State.base_dropOnLine, State.base_score, State.base_settled]
    | split
    | rfl

theorem State.base_attemptsOut (m : TxMsg) (n : Nat) (s : State) : (s.attemptsOut m n).base = s.base := State.base_undeliver ..

theorem State.base_attemptFailed (m : TxMsg) (s : State) : (s.attemptFailed m).base = s.base := by
  unfold State.attemptFailed
  try dsimp only
  repeat' first
    | with_reducible rfl
    | intro _
    | simp only [State.base_completeRestart, State.base_dropOnLine, State.base_giveUpMsg, State.base_joiningEnded, State.base_keepOnLine, State.base_ownerWithdrawn, State.base_attemptsOut]
    | split
    | rfl

theorem State.base_failAttempt (k : Nat) (s : State) : (s.failAttempt k).base = s.base := by
  unfold State.failAttempt
  try dsimp only
  repeat' first
    | with_reducible rfl
    | intro _
    | simp only [State.base_attemptFailed, State.base_score]
    | split
    | rfl

theorem State.base_beginFrame (s : State) : (s.beginFrame).base = s.base := by
  unfold State.beginFrame
  try dsimp only
  repeat' first
    | with_reducible rfl
    | intro _
    | rw [State.base_modLine]
    | simp only [and_self, List.length_set]
    | split
    | rfl

theorem State.base_contentionLost (s : State) : (s.contentionLost).base = s.base := by
  unfold State.contentionLost
  try dsimp only
  repeat' first
    | with_reducible rfl
    | intro _
    | simp only [State.base_dropOnLine, State.base_keepOnLine, State.base_ownerWithdrawn]
    | split
    | rfl

theorem State.base_heartbeat (b : Bool) (s : State) : (s.heartbeat b).base = s.base := by
  unfold State.heartbeat
  try dsimp only
  repeat' first
    | with_reducible rfl
    | intro _
    | simp only [State.base_modPort]
    | split
    | rfl

theorem State.base_accepted (x : Xfer) (s : State) : (s.accepted x).base = s.base := by
  unfold State.accepted
  try dsimp only
  repeat' first
    | with_reducible rfl
    | intro _
    | simp only [State.base_modPort, State.base_heartbeat]
    | split
    | rfl

theorem State.base_reply (x : Xfer) (c : ReplyCode) (words : List Data) (s : State) : (s.reply x c words).base = s.base := by
  unfold State.reply
  try dsimp only
  repeat' first
    | with_reducible rfl
    | intro _
    | simp only [State.base_modPort, State.base_heartbeat]
    | split
    | rfl

theorem State.base_refuseCmd (x : Xfer) (c : ReplyCode) (s : State) : (s.refuseCmd x c).base = s.base := by
  unfold State.refuseCmd
  try dsimp only
  repeat' first
    | with_reducible rfl
    | intro _
    | simp only [State.base_reply]
    | split
    | rfl

theorem State.base_replyPart (x : Xfer) (a : Answered) (s : State)
    (h : ∀ t, a = .stale t → t.base = s.base) (h' : ∀ l t, a = .ok (l, t) → t.base = s.base) : (s.replyPart x a).base = s.base := by
  unfold State.replyPart
  split
  · rw [State.base_refuseCmd]
  · rw [State.base_refuseCmd]; exact h _ rfl
  · dsimp only
    repeat' split
    all_goals first
      | rw [State.base_refuseCmd]
      | rw [State.base_reply]; exact h' _ _ rfl
      | rw [State.base_reply]

theorem State.base_execute (x : Xfer) (least : Nat) (k : Kind) (f : State → Answered) (s : State)
    (h : ∀ s t, f s = .stale t → t.base = s.base) (h' : ∀ s l t, f s = .ok (l, t) → t.base = s.base) :
    (s.execute x least k f).base = s.base := by
  unfold State.execute
  dsimp only
  repeat' split
  · rw [State.base_refuseCmd, State.base_accepted]
  · rw [State.base_refuseCmd, State.base_accepted]
  · rw [State.base_replyPart _ _ _ (fun t e => h _ t e) (fun l t e => h' _ l t e), State.base_accepted]

theorem State.base_hostCommand (x : Xfer) (least : Nat) (k : Kind) (f : State → Answered) (s : State)
    (h : ∀ s t, f s = .stale t → t.base = s.base) (h' : ∀ s l t, f s = .ok (l, t) → t.base = s.base) :
    (s.hostCommand x least k f).base = s.base := by
  unfold State.hostCommand
  split
  · rfl
  · rw [State.base_settle, State.base_execute _ _ _ _ _ h h']

theorem State.base_begin (s : State) : (s.begin).base = s.base := by
  unfold State.begin
  try dsimp only
  repeat' first
    | with_reducible rfl
    | intro _
    | split
    | rfl

theorem State.base_queueLeaving (s : State) : (s.queueLeaving).base = s.base := by
  unfold State.queueLeaving
  try dsimp only
  repeat' first
    | with_reducible rfl
    | intro _
    | simp only [State.base_completeRestart, State.base_withdraw]
    | rw [State.base_modLine]
    | simp only [and_self, List.length_set]
    | split
    | rfl

theorem State.base_enterRequest (q : Request) (s : State) : (s.enterRequest q).base = s.base := by
  unfold State.enterRequest
  try dsimp only
  repeat' first
    | with_reducible rfl
    | intro _
    | simp only [State.base_modRm, State.base_accepted, State.base_addReq, State.base_reqReport]
    | split
    | rfl

theorem State.base_firstLook (r : ReqNo) (s : State) : (s.firstLook r).base = s.base := by
  unfold State.firstLook
  try dsimp only
  repeat' first
    | with_reducible rfl
    | intro _
    | simp only [State.base_lookup, State.base_plan, State.base_push]
    | split
    | rfl

theorem State.base_countStale (s : State) : (s.countStale).base = s.base := by
  unfold State.countStale
  try dsimp only
  repeat' first
    | with_reducible rfl
    | intro _
    | simp only [State.base_modArm]
    | split
    | rfl

theorem State.base_examineAlone  (s : State) : (s.examineAlone).base = s.base := by
  unfold State.examineAlone
  try dsimp only
  repeat' first
    | with_reducible rfl
    | intro _
    | simp only [State.base_giveUpAlone]
    | rw [State.base_forEach]
    | split
    | rfl

theorem State.base_completeOrder (o : Order) (ring : Bool) (s : State) : (s.completeOrder o ring).base = s.base := by
  unfold State.completeOrder
  try dsimp only
  repeat' first
    | with_reducible rfl
    | intro _
    | simp only [State.base_answered, State.base_getDone, State.base_putDone, State.base_examineAlone]
    | split
    | rfl

theorem State.base_faultOrder (o : Order) (f : Fail) (s : State) : (s.faultOrder o f).base = s.base := by
  unfold State.faultOrder
  try dsimp only
  repeat' first
    | with_reducible rfl
    | intro _
    | simp only [State.base_answered, State.base_orderFails, State.base_examineAlone]
    | split
    | rfl

theorem State.base_misplaced (v : Serial) (s : State) : (s.misplaced v).base = s.base := by
  unfold State.misplaced
  try dsimp only
  repeat' first
    | with_reducible rfl
    | intro _
    | simp only [State.base_raisePlain]
    | split
    | rfl

theorem State.base_retireOut (v : Serial) (c : Nat) (keepCell : Bool) (s : State) : (s.retireOut v c keepCell).base = s.base := by
  unfold State.retireOut
  try dsimp only
  repeat' first
    | with_reducible rfl
    | intro _
    | simp only [State.base_emptyCell, State.base_retireEntry]
    | split
    | rfl

theorem State.base_declineLinks (k : PromptKey) (s : State) : (s.declineLinks k).base = s.base := by
  unfold State.declineLinks
  try dsimp only
  repeat' first
    | with_reducible rfl
    | intro _
    | simp only [State.base_failRequest, State.base_updPrompt]
    | rw [State.base_forEach]
    | split
    | rfl

theorem State.base_strangerGone (w : Serial) (s : State) : (s.strangerGone w).base = s.base := by
  unfold State.strangerGone
  try dsimp only
  repeat' first
    | with_reducible rfl
    | intro _
    | simp only [State.base_declineLinks, State.base_misplaced, State.base_withdrawPrompt]
    | split
    | rfl

theorem State.base_cellFoundEmpty (w : Serial) (c : Nat) (s : State) : (s.cellFoundEmpty w c).base = s.base := by
  unfold State.cellFoundEmpty
  try dsimp only
  repeat' first
    | with_reducible rfl
    | intro _
    | simp only [State.base_emptyCell, State.base_putCell, State.base_retireOut, State.base_strangerGone, State.base_withdrawPrompt]
    | split
    | rfl

theorem State.base_serveSlots (s : State) : (s.serveSlots).base = s.base := State.base_of_kept (State.kept_serveSlots ..)

theorem State.base_cellFoundOther (w : Serial) (c : Nat) (s : State) : (s.cellFoundOther w c).base = s.base := by
  unfold State.cellFoundOther
  try dsimp only
  repeat' first
    | with_reducible rfl
    | intro _
    | simp only [State.base_reelMissing, State.base_removeMoves, State.base_retireOut, State.base_serveSlots, State.base_strangerGone, State.base_withdrawPrompt]
    | split
    | rfl

theorem State.base_unexpected (v : Serial) (c room : Nat) (s : State) : (s.unexpected v c room).base = s.base := by
  unfold State.unexpected
  try dsimp only
  repeat' first
    | with_reducible rfl
    | intro _
    | simp only [State.base_queueEntryIn, State.base_enterReel, State.base_misplaced, State.base_putCell, State.base_raise, State.base_updEntry]
    | split
    | rfl

theorem State.base_moveExpectation (w : Serial) (p : CellPurpose) (c d : Nat) (s : State) : (s.moveExpectation w p c d).base = s.base := by
  unfold State.moveExpectation
  try dsimp only
  repeat' first
    | with_reducible rfl
    | intro _
    | simp only [State.base_modArm, State.base_putCell]
    | split
    | rfl

theorem State.base_queuedCellLost (m : Move) (s : State) : (s.queuedCellLost m).base = s.base := by
  unfold State.queuedCellLost
  try dsimp only
  repeat' first
    | with_reducible rfl
    | intro _
    | simp only [State.base_modArm, State.base_pendCell, State.base_removeMoves, State.base_retireOut, State.base_updEntry]
    | split
    | rfl

theorem State.base_dropExpectation (w : Serial) (p : CellPurpose) (c : Nat) (s : State) : (s.dropExpectation w p c).base = s.base := by
  unfold State.dropExpectation
  try dsimp only
  repeat' first
    | with_reducible rfl
    | intro _
    | simp only [State.base_putAwayMove, State.base_queuedCellLost, State.base_redirect, State.base_returnPrompt, State.base_shelfFetch, State.base_updEntry, State.base_updReq]
    | split
    | rfl

theorem State.base_expectationDisplaced (w : Serial) (p : CellPurpose) (c : Nat) (s : State) : (s.expectationDisplaced w p c).base = s.base := by
  unfold State.expectationDisplaced
  try dsimp only
  repeat' first
    | with_reducible rfl
    | intro _
    | simp only [State.base_dropExpectation, State.base_moveExpectation]
    | split
    | rfl

theorem State.base_serveRingIn (p : Prompt) (s : State) : (s.serveRingIn p).base = s.base := by
  unfold State.serveRingIn
  try dsimp only
  repeat' first
    | with_reducible rfl
    | intro _
    | simp only [State.base_leavePrompt, State.base_startMove, State.base_toStandby, State.base_updPrompt, State.base_updReq]
    | rw [State.base_forEach]
    | split
    | rfl

theorem State.base_askWaiting (v : Serial) (s : State) : (s.askWaiting v).base = s.base :=
  State.base_forEach _ _ _ fun _ _ => State.base_startMove ..

theorem State.base_reelBack (v : Serial) (c : Nat) (s : State) : (s.reelBack v c).base = s.base := by
  unfold State.reelBack
  try dsimp only
  repeat' first
    | with_reducible rfl
    | intro _
    | simp only [State.base_askWaiting, State.base_queueEntryIn, State.base_putCell, State.base_serveRingIn, State.base_updEntry]
    | split
    | rfl

theorem State.base_shelfReported (v : Serial) (c : Nat) (s : State) : (s.shelfReported v c).base = s.base := by
  unfold State.shelfReported
  try dsimp only
  repeat' first
    | with_reducible rfl
    | intro _
    | simp only [State.base_queueEntryIn, State.base_enterReel, State.base_leavePrompt, State.base_misplaced, State.base_putCell, State.base_raise, State.base_shelfArrived, State.base_shelfFetch, State.base_updEntry, State.base_updPrompt]
    | rw [State.base_forEach]
    | split
    | rfl

theorem State.base_stillThere (v : Serial) (c : Nat) (s : State) : (s.stillThere v c).base = s.base := by
  unfold State.stillThere
  try dsimp only
  repeat' first
    | with_reducible rfl
    | intro _
    | simp only [State.base_queueEntryIn, State.base_returnPrompt]
    | split
    | rfl

theorem State.base_labelApply (c : Nat) (content : CellContent) (s : State) : (s.labelApply c content).base = s.base := by
  unfold State.labelApply
  try dsimp only
  repeat' first
    | with_reducible rfl
    | intro _
    | simp only [State.andThen, State.base_settle, State.base_cellFoundEmpty, State.base_cellFoundOther, State.base_emptyCell, State.base_expectationDisplaced, State.base_putCell, State.base_reelBack, State.base_shelfReported, State.base_stillThere, State.base_unexpected]
    | split
    | rfl

theorem State.base_foundHome (v : Serial) (s : State) : (s.foundHome v).base = s.base := by
  unfold State.foundHome
  try dsimp only
  repeat' first
    | with_reducible rfl
    | intro _
    | simp only [State.base_plan, State.base_push, State.base_updEntry]
    | split
    | rfl

theorem State.base_slotApply (n : Nat) (content : SlotContent) (s : State) : (s.slotApply n content).base = s.base := by
  unfold State.slotApply
  try dsimp only
  repeat' first
    | with_reducible rfl
    | intro _
    | simp only [State.andThen, State.base_settle, State.base_addEntry, State.base_foundHome, State.base_misplaced, State.base_plan, State.base_push, State.base_reelMissing]
    | split
    | rfl

theorem State.base_driveLostPutAway (d : Nat) (s : State) : (s.driveLostPutAway d).base = s.base := by
  unfold State.driveLostPutAway
  try dsimp only
  repeat' first
    | with_reducible rfl
    | intro _
    | simp only [State.base_modArm, State.base_putAwayMove]
    | split
    | rfl

theorem State.base_otherDrive (r : ReqNo) (q : Request) (s : State) : (s.otherDrive r q).base = s.base := by
  unfold State.otherDrive
  try dsimp only
  repeat' first
    | with_reducible rfl
    | intro _
    | simp only [State.base_reserveDrive, State.base_failRequest]
    | split
    | rfl

theorem State.base_driveTaken (r : ReqNo) (s : State) : (s.driveTaken r).base = s.base := by
  unfold State.driveTaken
  try dsimp only
  repeat' first
    | with_reducible rfl
    | intro _
    | simp only [State.base_backToStandby, State.base_dropAsker, State.base_otherDrive, State.base_removeMoves, State.base_updReq]
    | split
    | rfl

theorem State.base_driveOffline (d : Nat) (x : Drive) (s : State) : (s.driveOffline d x).base = s.base := by
  unfold State.driveOffline
  try dsimp only
  repeat' first
    | with_reducible rfl
    | intro _
    | simp only [State.base_closeCleaning, State.base_closeSession, State.base_driveLostPutAway, State.base_driveOff, State.base_driveTaken, State.base_dropAsker, State.base_failRequest, State.base_removeMoves, State.base_withdrawPrompt]
    | split
    | rfl

theorem State.base_beginPress (b : Button) (s : State) : (s.beginPress b).base = s.base := by
  unfold State.beginPress
  try dsimp only
  repeat' first
    | with_reducible rfl
    | intro _
    | simp only [State.base_modPanel]
    | split
    | rfl

theorem State.base_releaseAck (ms : Nat) (act : Bool → Prompt → State → State) (s : State) (h : ∀ b q t, (act b q t).base = t.base) : (s.releaseAck ms act).base = s.base := by
  unfold State.releaseAck
  try dsimp only
  repeat' first
    | with_reducible rfl
    | intro _
    | simp only [h]
    | simp only [State.base_modPanel, State.base_reach, State.base_settle]
    | split
    | rfl

theorem State.base_releaseNext (ms : Nat) (act : Bool → PromptKey → State → State) (s : State) (h : ∀ b q t, (act b q t).base = t.base) : (s.releaseNext ms act).base = s.base := by
  unfold State.releaseNext
  try dsimp only
  repeat' first
    | with_reducible rfl
    | intro _
    | simp only [h]
    | simp only [State.base_modPanel, State.base_reach]
    | split
    | rfl

theorem State.base_toAcked (k : PromptKey) (wait : Bool) (s : State) : (s.toAcked k wait).base = s.base := by
  unfold State.toAcked
  try dsimp only
  repeat' first
    | with_reducible rfl
    | intro _
    | simp only [State.base_relamp, State.base_updPrompt]
    | split
    | rfl

theorem State.base_ackShelf (p : Prompt) (v : Serial) (s : State) : (s.ackShelf p v).base = s.base := by
  unfold State.ackShelf
  try dsimp only
  repeat' first
    | with_reducible rfl
    | intro _
    | simp only [State.base_putCell, State.base_raise, State.base_toAcked]
    | split
    | rfl

theorem State.base_ackRing (p : Prompt) (v : Serial) (s : State) : (s.ackRing p v).base = s.base := by
  unfold State.ackRing
  try dsimp only
  repeat' first
    | with_reducible rfl
    | intro _
    | simp only [State.base_serveRingIn, State.base_toAcked, State.base_updReq]
    | rw [State.base_forEach]
    | split
    | rfl

theorem State.base_ackRetire (p : Prompt) (v : Serial) (s : State) : (s.ackRetire p v).base = s.base := by
  unfold State.ackRetire
  try dsimp only
  repeat' first
    | with_reducible rfl
    | intro _
    | simp only [State.base_leavePrompt, State.base_retireOut]
    | split
    | rfl

theorem State.base_ackConflict (p : Prompt) (s : State) : (s.ackConflict p).base = s.base := by
  unfold State.ackConflict
  try dsimp only
  repeat' first
    | with_reducible rfl
    | intro _
    | simp only [State.base_endConflict, State.base_leavePrompt, State.base_updRec]
    | split
    | rfl

theorem State.base_dropAsk (res : Resource) (a : Asker) (s : State) : (s.dropAsk res a).base = s.base := State.base_of_kept (State.kept_dropAsk ..)

theorem State.base_ackCradle (p : Prompt) (side : Side) (s : State) : (s.ackCradle p side).base = s.base := by
  unfold State.ackCradle
  try dsimp only
  repeat' first
    | with_reducible rfl
    | intro _
    | simp only [State.base_delEntry, State.base_leavePrompt, State.base_push, State.base_updRec, State.base_dropAsk]
    | rw [State.base_forEach]
    | split
    | rfl

theorem State.base_ackClass (p : Prompt) (s : State) : (s.ackClass p).base = s.base := by
  unfold State.ackClass
  try dsimp only
  repeat' first
    | with_reducible rfl
    | intro _
    | simp only [State.base_ackConflict, State.base_ackCradle, State.base_ackRetire, State.base_ackRing, State.base_ackShelf, State.base_leavePrompt, State.base_push, State.base_shelfFetch, State.base_toAcked, State.base_updDrive]
    | split
    | rfl

theorem State.base_countAck (p : Prompt) (s : State) : (s.countAck p).base = s.base := by
  unfold State.countAck
  try dsimp only
  repeat' first
    | with_reducible rfl
    | intro _
    | simp only [State.base_updPrompt, State.base_updReq]
    | rw [State.base_forEach]
    | split
    | rfl

theorem State.base_ackPrompt (p : Prompt) (s : State) : (s.ackPrompt p).base = s.base := by
  unfold State.ackPrompt
  try dsimp only
  repeat' first
    | with_reducible rfl
    | intro _
    | simp only [State.base_ackClass, State.base_countAck, State.base_reportPrompt]
    | split
    | rfl

theorem State.base_declineClass (p : Prompt) (s : State) : (s.declineClass p).base = s.base := by
  unfold State.declineClass
  try dsimp only
  repeat' first
    | with_reducible rfl
    | intro _
    | simp only [State.base_ackClass, State.base_askEntryIn, State.base_queueEntryIn, State.base_countAck, State.base_declineLinks, State.base_leavePrompt, State.base_reportPrompt, State.base_shelfFetch, State.base_updEntry]
    | split
    | rfl

theorem State.base_declinePrompt (p : Prompt) (s : State) : (s.declinePrompt p).base = s.base := by
  unfold State.declinePrompt
  try dsimp only
  repeat' first
    | with_reducible rfl
    | intro _
    | simp only [State.base_declineClass]
    | split
    | rfl

theorem State.base_setCursor (k : Option PromptKey) (s : State) : (s.setCursor k).base = s.base := by
  unfold State.setCursor
  try dsimp only
  repeat' first
    | with_reducible rfl
    | intro _
    | simp only [State.base_modPanel]
    | split
    | rfl

theorem State.base_openDoor (s : State) : (s.openDoor).base = s.base := by
  unfold State.openDoor
  try dsimp only
  repeat' first
    | with_reducible rfl
    | intro _
    | simp only [State.base_modPanel, State.base_freezeOrder, State.base_report]
    | rw [State.base_modInv]
    | simp only [and_self, List.length_set]
    | split
    | rfl

theorem State.base_doorLongGone (s : State) : (s.doorLongGone).base = s.base := by
  unfold State.doorLongGone
  try dsimp only
  repeat' first
    | with_reducible rfl
    | intro _
    | simp only [State.base_modPanel, State.base_leavePrompt, State.base_withdrawPrompt]
    | split
    | rfl

theorem State.base_closeDoor (s : State) : (s.closeDoor).base = s.base := by
  unfold State.closeDoor
  try dsimp only
  repeat' first
    | with_reducible rfl
    | intro _
    | simp only [State.base_modPanel, State.base_doorLongGone, State.base_issue, State.base_push, State.base_report, State.base_thawOrder]
    | rw [State.base_modInv]
    | simp only [and_self, List.length_set]
    | split
    | rfl

theorem State.base_quietHolds  (s : State) : (s.quietHolds).base = s.base := by
  unfold State.quietHolds
  try dsimp only
  repeat' first
    | with_reducible rfl
    | intro _
    | simp only [State.base_giveUpAll, State.base_modClaim, State.base_withdraw]
    | split
    | rfl

theorem State.base_goAlone (s : State) : (s.goAlone).base = s.base := by
  unfold State.goAlone
  try dsimp only
  repeat' first
    | with_reducible rfl
    | intro _
    | simp only [State.base_modPort, State.base_yieldAlone, State.base_quietHolds]
    | rw [State.base_modSys]
    | rw [State.base_withCondition]
    | split
    | rfl

theorem State.base_countTick (s : State) : (s.countTick).base = s.base := by
  unfold State.countTick
  try dsimp only
  repeat' first
    | with_reducible rfl
    | intro _
    | simp only [State.base_modDrv]
    | rw [State.base_modAcct]
    | simp only [Acct.countBand, bump, apply_ite List.length, List.length_set, ite_self, and_self]
    | split
    | rfl

theorem State.base_tick (s : State) : (s.tick).base = s.base := by
  unfold State.tick
  try dsimp only
  repeat' first
    | with_reducible rfl
    | intro _
    | simp only [State.base_countTick]
    | rw [State.base_modAcct]
    | simp only [and_self, List.length_set]
    | split
    | rfl

theorem State.base_stale (s : State) : (s.stale).base = s.base := by
  unfold State.stale
  try dsimp only
  repeat' first
    | with_reducible rfl
    | intro _
    | simp only [State.base_report]
    | rw [State.base_modAcct]
    | simp only [and_self, List.length_set]
    | split
    | rfl

theorem State.base_endCleaning (d : Nat) (x : Drive) (s : State) : (s.endCleaning d x).base = s.base := by
  unfold State.endCleaning
  try dsimp only
  repeat' first
    | with_reducible rfl
    | intro _
    | simp only [State.base_closeCleaning, State.base_countPass, State.base_driveToIdle, State.base_updDrive]
    | split
    | rfl

theorem State.base_becomeLate (q : Request) (s : State) : (s.becomeLate q).base = s.base := by
  unfold State.becomeLate
  try dsimp only
  repeat' first
    | with_reducible rfl
    | intro _
    | simp only [State.base_escalate, State.base_reqReport, State.base_updReq]
    | split
    | rfl

theorem State.base_hopLapse (q : Request) (s : State) : (s.hopLapse q).base = s.base := by
  unfold State.hopLapse
  try dsimp only
  repeat' first
    | with_reducible rfl
    | intro _
    | simp only [State.base_delReq, State.base_dropArrival, State.base_dropAsker, State.base_endReservations, State.base_releaseDrivesOf, State.base_updReq]
    | split
    | rfl

theorem State.base_forward (q : Request) (s : State) : (s.forward q).base = s.base := by
  unfold State.forward
  try dsimp only
  repeat' first
    | with_reducible rfl
    | intro _
    | simp only [State.base_send, State.base_sendRelease, State.base_updReq]
    | split
    | rfl

theorem State.base_slow (o : Order) (s : State) : (s.slow o).base = s.base := by
  unfold State.slow
  try dsimp only
  repeat' first
    | with_reducible rfl
    | intro _
    | simp only [State.base_modArm, State.base_report]
    | split
    | rfl

theorem State.base_timeOut (o : Order) (s : State) : (s.timeOut o).base = s.base := by
  unfold State.timeOut
  try dsimp only
  repeat' first
    | with_reducible rfl
    | intro _
    | simp only [State.base_answered, State.base_orderFails, State.base_slow, State.base_examineAlone]
    | split
    | rfl

theorem State.base_addressed (n : Nat) (act : State → State) (s : State) (h : ∀ t, (act t).base = t.base) : (s.addressed n act).base = s.base := by
  unfold State.addressed
  try dsimp only
  repeat' first
    | with_reducible rfl
    | intro _
    | simp only [h]
    | split
    | rfl

theorem State.base_hearHave (b : HaveBody) (sender : Nat) (s : State) : (s.hearHave b sender).base = s.base := by
  unfold State.hearHave
  try dsimp only
  repeat' first
    | with_reducible rfl
    | intro _
    | simp only [State.base_countStray, State.base_updReq]
    | split
    | rfl

theorem State.base_takePlace (b : PlaceBody) (sender : Nat) (s : State) : (s.takePlace b sender).base = s.base := by
  unfold State.takePlace
  try dsimp only
  repeat' first
    | with_reducible rfl
    | intro _
    | simp only [State.base_hearPlace, State.base_hearViaHatch]
    | split
    | rfl

theorem State.base_waitOver (r : ReqNo) (ph : Phase) (wait : Request → Option Nat) (act : Request → State → State) (s : State) (h : ∀ q t, (act q t).base = t.base) : (s.waitOver r ph wait act).base = s.base := by
  unfold State.waitOver
  try dsimp only
  repeat' first
    | with_reducible rfl
    | intro _
    | simp only [h]
    | simp only [State.base_reach, State.base_settle]
    | split
    | rfl

theorem State.base_settleReseek (r : ReqNo) (s : State) : (s.settleReseek r).base = s.base := by
  unfold State.settleReseek
  try dsimp only
  repeat' first
    | with_reducible rfl
    | intro _
    | simp only [State.base_askSeek, State.base_updReq]
    | split
    | rfl

theorem State.base_followUp (q : Request) (s : State) : (s.followUp q).base = s.base := by
  unfold State.followUp
  try dsimp only
  repeat' first
    | with_reducible rfl
    | intro _
    | simp only [State.base_askSeek, State.base_sendPlace]
    | split
    | rfl

end Sys2Proof.Machine
end

