-- ==== Sys2Proof/Laws/Claims.lean ====
section
/-! SUPPORT. What the end of a drive's use, a record given up in STANDALONE, the HANDOFF test, an ask told of its hold and the clearing of the
Transmit Queue can do, said once. -/

namespace Sys2Proof.Machine

/-- The Drive Unit's report does nothing, or begins the YIELD of the drive's resource, held (R22, R129). -/
theorem State.driveUseEnds_cases (d : Nat) (s : State) : s.driveUseEnds d = s ∨
    ∃ x res, s.findDrive d = some x ∧ s.driveRes d = some res ∧ x.useOver = true ∧ s.heldSelf res = true ∧
      s.driveUseEnds d = s.beginYield res := by
  unfold State.driveUseEnds
  split
  · next x res hx hr =>
    split
    · next h => exact .inr ⟨x, res, hx, hr, (Bool.and_eq_true_iff.mp h).1, (Bool.and_eq_true_iff.mp h).2, rfl⟩
    · exact .inl rfl
  · exact .inl rfl

/-- A drive that is not shared has no use to report. -/
theorem State.driveUseEnds_local (d : Nat) (s : State) (h : s.driveRes d = none) : s.driveUseEnds d = s := by
  rcases s.driveUseEnds_cases d with h' | ⟨_, _, _, hr, _⟩
  · exact h'
  · rw [h] at hr; cases hr

/-- A drive whose state does not end the use keeps its hold (R22). -/
theorem State.driveUseEnds_inUse (d : Nat) (s : State) (h : ∀ x, s.findDrive d = some x → x.useOver = false) : s.driveUseEnds d = s := by
  rcases s.driveUseEnds_cases d with h' | ⟨x, _, hx, _, hu, _⟩
  · exact h'
  · rw [h x hx] at hu; cases hu

/-- A record given up in STANDALONE is marked, and its YIELD begun unless the arm is at work on it or a HANDOFF is due (R138). -/
theorem State.giveUpAlone_cases (res : Resource) (s : State) : s.giveUpAlone res = s ∨
    ∃ c, s.findRec res = some c ∧
      let b := decide (c.holder = .self) && decide (c.own = .held) && s.atWork res
      (s.giveUpAlone res = s.updRec res (fun c => { c with alone := b }) ∨
      (c.holder = .self ∧ c.own = .held ∧ s.atWork res = false ∧ c.handoffDue = none ∧
        s.giveUpAlone res = ((s.updRec res fun c => { c with alone := b }).standAsk res).beginYield res)) := by
  unfold State.giveUpAlone
  split
  · exact .inl rfl
  · next c hc =>
    refine .inr ⟨c, hc, ?_⟩
    dsimp only
    split
    · next h =>
      simp only [Bool.and_eq_true, decide_eq_true_eq, Bool.not_eq_true'] at h
      exact .inr ⟨h.1.1.1, h.1.1.2, h.1.2, h.2, rfl⟩
    · exact .inl rfl

/-- A look at a hatch does nothing, or makes the stray visitor in it owed to its home (R136). -/
theorem State.strayTest_cases (res : Resource) (s : State) : s.strayTest res = s ∨
    ∃ c v, s.findRec res = some c ∧ s.strayVisitor c = some v ∧ s.strayTest res = s.owe res .noRequest v := by
  unfold State.strayTest
  split
  · next v h =>
    obtain ⟨c, hc, hv⟩ := Option.bind_eq_some_iff.mp h
    exact .inr ⟨c, v, hc, hv, rfl⟩
  · exact .inl rfl

/-- The HANDOFF test of one record looks for a stray visitor, and tests what is owed where there is none (R134, R136). -/
theorem State.handoffOn_cases (res : Resource) (s : State) : (s.findRec res = none ∧ s.handoffOn res = s) ∨
    ∃ c, s.findRec res = some c ∧ ((∃ v, s.strayVisitor c = some v ∧ s.handoffOn res = s.owe res .noRequest v) ∨
      (s.strayVisitor c = none ∧ s.handoffOn res = s.handoffOne c)) := by
  unfold State.handoffOn
  split
  · next c hc =>
    refine .inr ⟨c, hc, ?_⟩
    split
    · next v hv => exact .inl ⟨v, hv, rfl⟩
    · next hv => exact .inr ⟨hv, rfl⟩
  · next hc => exact .inl ⟨hc, rfl⟩

/-- An asker is told only while it stands in the list of a record showing SELF with HELD (R126). -/
theorem State.toldHeld_cases (res : Resource) (a : Asker) (s : State) : s.toldHeld res a = s ∨
    ∃ c, s.findRec res = some c ∧ c.holder = .self ∧ c.own = .held ∧ a ∈ c.asks ∧
      s.toldHeld res a = (s.tellObtained res a).push .issue := by
  unfold State.toldHeld
  split
  · exact .inl rfl
  · next c hc =>
    split
    · next h => exact .inr ⟨c, hc, h.1, h.2.1, h.2.2, rfl⟩
    · exact .inl rfl

/-- An Undelivered message makes its report and its owner acts, but for a PRESENCE (R90). -/
theorem State.undeliver_cases (m : TxMsg) (n : Nat) (cause : UndelCause) (s : State) :
    (m.msg.kind = .presence ∧ s.undeliver m n cause = s) ∨ (m.msg.kind ≠ .presence ∧
      s.undeliver m n cause = (s.report (.undelivered m.msg.kind cause n m.msg.about)).ownerUndelivered m.msg cause) := by
  unfold State.undeliver
  split
  · next h => exact .inl ⟨h, rfl⟩
  · next h => exact .inr ⟨h, rfl⟩

/-- The clearing of the Transmit Queue gives up its messages one by one, the first first (R94, R95). -/
theorem State.clearTx_eq (cause : UndelCause) (s : State) :
    s.clearTx cause = s.line.txq.foldl (fun t m => t.undeliver m m.attempts cause) (s.modLine fun l => { l with txq := [] }) := rfl

/-- A reel is fetched from the cell of its entry while that cell is its own (R13). -/
theorem State.fetchCell_of_owns (v : Serial) (c : Nat) (s : State) (h : s.ownsCell v c = true) : s.fetchCell v c = c := by
  unfold State.ownsCell at h
  simp only [Bool.or_eq_true, decide_eq_true_eq] at h
  unfold State.fetchCell
  rw [if_pos h]

end Sys2Proof.Machine
end

