-- ==== Sys2Proof/Laws/Money.lean ====
section
/-! SUPPORT. The accounts and the Station Charge Total, `State.money`, through every shared operation: the close of a session (R166),
CLEAR ACCOUNT and POWER_ON_RESET alone change them, and a close keeps the two in agreement (R169, R170). -/

namespace Sys2Proof.Machine

open Sys2Proof.Certificates

set_option linter.all false

/-- The accounts and the Station Charge Total (R170). -/
def State.money (s : State) : List Account × Account := (s.acct.accounts, s.acct.total)

theorem balanced_of_money {s t : State} (h : t.money = s.money) (hb : TotalsAgree s) : TotalsAgree t := by
  have a := congrArg Prod.fst h
  have b := congrArg Prod.snd h
  simp only [State.money] at a b
  unfold TotalsAgree
  rw [a, b]
  exact hb

theorem State.balanced_forEach {α : Type} (l : List α) (f : α → State → State) {s : State}
    (h : ∀ a t, TotalsAgree t → TotalsAgree (f a t)) (hb : TotalsAgree s) : TotalsAgree (State.forEach l f s) := by
  unfold State.forEach
  induction l generalizing s with
  | nil => exact hb
  | cons a l ih => exact ih (h a s hb)

theorem State.money_of_kept {s t : State} (h : t.kept = s.kept) : t.money = s.money := by
  have c := congrArg Kept.acct h
  simp only [State.kept] at c
  simp only [State.money, c]

theorem State.money_forEach {α : Type} (l : List α) (f : α → State → State) (s : State) (h : ∀ a t, (f a t).money = t.money) :
    (State.forEach l f s).money = s.money := by
  unfold State.forEach
  induction l generalizing s with
  | nil => rfl
  | cons a l ih => rw [List.foldl_cons, ih, h]

theorem State.money_modSys (f : Sys → Sys) (s : State) : (s.modSys f).money = s.money := rfl

theorem State.money_modInv (f : Inv → Inv) (s : State) : (s.modInv f).money = s.money := rfl

theorem State.money_modDrv (f : Drv → Drv) (s : State) : (s.modDrv f).money = s.money := rfl

theorem State.money_modRm (f : Rm → Rm) (s : State) : (s.modRm f).money = s.money := rfl

theorem State.money_modPx (f : Px → Px) (s : State) : (s.modPx f).money = s.money := rfl

theorem State.money_modArm (f : Arm → Arm) (s : State) : (s.modArm f).money = s.money := rfl

theorem State.money_modLine (f : Line → Line) (s : State) : (s.modLine f).money = s.money := rfl

theorem State.money_modClaim (f : Claim → Claim) (s : State) : (s.modClaim f).money = s.money := rfl

theorem State.money_modPanel (f : Panel → Panel) (s : State) : (s.modPanel f).money = s.money := rfl

theorem State.money_modPort (f : Port → Port) (s : State) : (s.modPort f).money = s.money := rfl

theorem State.money_modAcct (f : Acct → Acct) (s : State) (h : ∀ u, (f u).accounts = u.accounts ∧ (f u).total = u.total) : (s.modAcct f).money = s.money := by
  simp [State.money, State.modAcct, h]

theorem State.money_claimReel (v : Serial) (r : ReqNo) (k : ReservKind) (s : State) : (s.claimReel v r k).2.money = s.money :=
  State.money_of_kept (State.kept_claimReel ..)

theorem State.money_of_claimReel {v : Serial} {r : ReqNo} {k : ReservKind} {s u : State} {c : ClaimResult}
    (h : s.claimReel v r k = (c, u)) : u.money = s.money := State.money_of_kept (State.kept_of_claimReel h)

theorem State.money_settle (s : State) : s.settle.money = s.money := State.money_of_kept (State.kept_settle s)

theorem State.money_addEntry (e : Entry) (s : State) : (s.addEntry e).money = s.money := State.money_of_kept (State.kept_addEntry ..)

theorem State.money_addReq (q : Request) (s : State) : (s.addReq q).money = s.money := State.money_of_kept (State.kept_addReq ..)

theorem State.money_answered (o : Order) (s : State) : (s.answered o).money = s.money := State.money_of_kept (State.kept_answered ..)

theorem State.money_queueEntryIn (v : Serial) (s : State) : (s.queueEntryIn v).money = s.money := State.money_of_kept (State.kept_queueEntryIn ..)
theorem State.money_askEntryIn (v : Serial) (s : State) : (s.askEntryIn v).money = s.money := State.money_of_kept (State.kept_askEntryIn ..)

theorem State.money_askSeek (r : ReqNo) (s : State) : (s.askSeek r).money = s.money := State.money_of_kept (State.kept_askSeek ..)

theorem State.money_backToStandby (r : ReqNo) (s : State) : (s.backToStandby r).money = s.money := State.money_of_kept (State.kept_backToStandby ..)

theorem State.money_becomeProxy (r : ReqNo) (p : Nat) (s : State) : (s.becomeProxy r p).money = s.money := State.money_of_kept (State.kept_becomeProxy ..)

theorem State.money_beginCleaning (d : Nat) (s : State) : (s.beginCleaning d).money = s.money := State.money_of_kept (State.kept_beginCleaning ..)

theorem State.money_claimAbsent (p : Nat) (s : State) : (s.claimAbsent p).money = s.money := State.money_of_kept (State.kept_claimAbsent ..)

theorem State.money_claimTest (s : State) : (s.claimTest).money = s.money := State.money_of_kept (State.kept_claimTest ..)

theorem State.money_countAttempt (r : ReqNo) (f : FollowUp) (unanswered : Bool) (s : State) : (s.countAttempt r f unanswered).money = s.money := State.money_of_kept (State.kept_countAttempt ..)

theorem State.money_countPass (v : Serial) (s : State) : (s.countPass v).money = s.money := State.money_of_kept (State.kept_countPass ..)

theorem State.money_delEntry (v : Serial) (s : State) : (s.delEntry v).money = s.money := State.money_of_kept (State.kept_delEntry ..)

theorem State.money_delReq (r : ReqNo) (s : State) : (s.delReq r).money = s.money := State.money_of_kept (State.kept_delReq ..)

theorem State.money_driveOff (d : Nat) (loaded : Option Serial) (s : State) : (s.driveOff d loaded).money = s.money := State.money_of_kept (State.kept_driveOff ..)

theorem State.money_driveToIdle (d : Nat) (s : State) : (s.driveToIdle d).money = s.money := State.money_of_kept (State.kept_driveToIdle ..)

theorem State.money_dropArrival (r : ReqNo) (s : State) : (s.dropArrival r).money = s.money := State.money_of_kept (State.kept_dropArrival ..)

theorem State.money_dropAsker (a : Asker) (s : State) : (s.dropAsker a).money = s.money := State.money_of_kept (State.kept_dropAsker ..)

theorem State.money_dropHolds (s : State) : (s.dropHolds).money = s.money := State.money_of_kept (State.kept_dropHolds ..)

theorem State.money_emptyCell (c : Nat) (s : State) : (s.emptyCell c).money = s.money := State.money_of_kept (State.kept_emptyCell ..)

theorem State.money_emptySource (m : Move) (s : State) : (s.emptySource m).money = s.money := State.money_of_kept (State.kept_emptySource ..)

theorem State.money_endConflict (res : Resource) (s : State) : (s.endConflict res).money = s.money := State.money_of_kept (State.kept_endConflict ..)

theorem State.money_endMove (m : Move) (s : State) : (s.endMove m).money = s.money := State.money_of_kept (State.kept_endMove ..)

theorem State.money_endRequest (r : ReqNo) (e : End) (s : State) : (s.endRequest r e).money = s.money := State.money_of_kept (State.kept_endRequest ..)

theorem State.money_endReservations (r : ReqNo) (s : State) : (s.endReservations r).money = s.money := State.money_of_kept (State.kept_endReservations ..)

theorem State.money_enterMounted (r : ReqNo) (d : Nat) (v : Serial) (remount : Bool) (s : State) : (s.enterMounted r d v remount).money = s.money := State.money_of_kept (State.kept_enterMounted ..)

theorem State.money_enterReel (v : Serial) (c n : Nat) (s : State) : (s.enterReel v c n).money = s.money := State.money_of_kept (State.kept_enterReel ..)

theorem State.money_escalate (k : PromptKey) (s : State) : (s.escalate k).money = s.money := State.money_of_kept (State.kept_escalate ..)

theorem State.money_examineDrive (d : Nat) (s : State) : (s.examineDrive d).money = s.money := State.money_of_kept (State.kept_examineDrive ..)

theorem State.money_exchangeAbsent (p : Nat) (s : State) : (s.exchangeAbsent p).money = s.money := State.money_of_kept (State.kept_exchangeAbsent ..)

theorem State.money_failRequest (r : ReqNo) (code : FailCode) (s : State) : (s.failRequest r code).money = s.money := State.money_of_kept (State.kept_failRequest ..)

theorem State.money_freezeOrder (s : State) : (s.freezeOrder).money = s.money := State.money_of_kept (State.kept_freezeOrder ..)

theorem State.money_getDone (m : Move) (ring : Bool) (s : State) : (s.getDone m ring).money = s.money := State.money_of_kept (State.kept_getDone ..)

theorem State.money_getFailed (m : Move) (s : State) : (s.getFailed m).money = s.money := State.money_of_kept (State.kept_getFailed ..)

theorem State.money_giveUpMsg (m : Msg) (cause : UndelCause) (attempts : Nat) (s : State) : (s.giveUpMsg m cause attempts).money = s.money := State.money_of_kept (State.kept_giveUpMsg ..)

theorem State.money_handoffTest (s : State) : (s.handoffTest).money = s.money := State.money_of_kept (State.kept_handoffTest ..)

theorem State.money_hearPlace (b : PlaceBody) (sender : Nat) (s : State) : (s.hearPlace b sender).money = s.money := State.money_of_kept (State.kept_hearPlace ..)

theorem State.money_hearViaHatch (b : PlaceBody) (sender : Nat) (s : State) : (s.hearViaHatch b sender).money = s.money := State.money_of_kept (State.kept_hearViaHatch ..)

theorem State.money_hopAccepted (r : ReqNo) (p : Nat) (s : State) : (s.hopAccepted r p).money = s.money := State.money_of_kept (State.kept_hopAccepted ..)

theorem State.money_hopRefused (r : ReqNo) (p : Nat) (s : State) : (s.hopRefused r p).money = s.money := State.money_of_kept (State.kept_hopRefused ..)

theorem State.money_issue (s : State) : (s.issue).money = s.money := State.money_of_kept (State.kept_issue ..)

theorem State.money_leavePrompt (k : PromptKey) (s : State) : (s.leavePrompt k).money = s.money := State.money_of_kept (State.kept_leavePrompt ..)

theorem State.money_lookup (r : ReqNo) (s : State) : (s.lookup r).money = s.money := State.money_of_kept (State.kept_lookup ..)

theorem State.money_occupiedDest (m : Move) (s : State) : (s.occupiedDest m).money = s.money := State.money_of_kept (State.kept_occupiedDest ..)

theorem State.money_ownerWithdrawn (m : Msg) (s : State) : (s.ownerWithdrawn m).money = s.money := State.money_of_kept (State.kept_ownerWithdrawn ..)

theorem State.money_ownerWitnessed (m : Msg) (s : State) : (s.ownerWitnessed m).money = s.money := State.money_of_kept (State.kept_ownerWitnessed ..)

theorem State.money_pendCell (r : ReqNo) (s : State) : (s.pendCell r).money = s.money := State.money_of_kept (State.kept_pendCell ..)

theorem State.money_plan (s : State) : (s.plan).money = s.money := State.money_of_kept (State.kept_plan ..)

theorem State.money_push (w : Work) (s : State) : (s.push w).money = s.money := State.money_of_kept (State.kept_push ..)

theorem State.money_putAwayMove (failed occupied : Bool) (s : State) : (s.putAwayMove failed occupied).money = s.money := State.money_of_kept (State.kept_putAwayMove ..)

theorem State.money_putCell (c : Nat) (st : CellState) (s : State) : (s.putCell c st).money = s.money := State.money_of_kept (State.kept_putCell ..)

theorem State.money_putFailed (m : Move) (s : State) : (s.putFailed m).money = s.money := State.money_of_kept (State.kept_putFailed ..)

theorem State.money_putToCell (m : Move) (c : Nat) (s : State) : (s.putToCell m c).money = s.money := State.money_of_kept (State.kept_putToCell ..)

theorem State.money_putToHatch (m : Move) (side : Side) (s : State) : (s.putToHatch m side).money = s.money := State.money_of_kept (State.kept_putToHatch ..)

theorem State.money_putToSlot (m : Move) (s : State) : (s.putToSlot m).money = s.money := State.money_of_kept (State.kept_putToSlot ..)

theorem State.money_putToSlotDone (m : Move) (s : State) : (s.putToSlotDone m).money = s.money := State.money_of_kept (State.kept_putToSlotDone ..)

theorem State.money_raise (c : Cause) (s : State) : (s.raise c).money = s.money := State.money_of_kept (State.kept_raise ..)

theorem State.money_raisePlain (cls : PromptClass) (sub : Subject) (s : State) : (s.raisePlain cls sub).money = s.money := State.money_of_kept (State.kept_raisePlain ..)

theorem State.money_redirect (m : Move) (dst : Loc) (p : Option CellPurpose) (failed : Bool) (s : State) : (s.redirect m dst p failed).money = s.money := State.money_of_kept (State.kept_redirect ..)

theorem State.money_reelMissing (v : Serial) (s : State) : (s.reelMissing v).money = s.money := State.money_of_kept (State.kept_reelMissing ..)

theorem State.money_relamp (s : State) : (s.relamp).money = s.money := State.money_of_kept (State.kept_relamp ..)

theorem State.money_releaseDrivesOf (r : ReqNo) (s : State) : (s.releaseDrivesOf r).money = s.money := State.money_of_kept (State.kept_releaseDrivesOf ..)

theorem State.money_releaseProxy (r : ReqNo) (k : ReleaseKind) (s : State) : (s.releaseProxy r k).money = s.money := State.money_of_kept (State.kept_releaseProxy ..)

theorem State.money_removeMoves (p : Move → Bool) (s : State) : (s.removeMoves p).money = s.money := State.money_of_kept (State.kept_removeMoves ..)

theorem State.money_repeatYields (s : State) : (s.repeatYields).money = s.money := State.money_of_kept (State.kept_repeatYields ..)

theorem State.money_report (b : ReportBody) (s : State) : (s.report b).money = s.money := State.money_of_kept (State.kept_report ..)

theorem State.money_reportPrompt (ev : PromptEvent) (p : Prompt) (acks : Option Nat) (s : State) : (s.reportPrompt ev p acks).money = s.money := State.money_of_kept (State.kept_reportPrompt ..)

theorem State.money_reqReport (q : Request) (ev : ReqEvent) (s : State) : (s.reqReport q ev).money = s.money := State.money_of_kept (State.kept_reqReport ..)

theorem State.money_reserveDrive (d : Nat) (r : ReqNo) (s : State) : (s.reserveDrive d r).money = s.money := State.money_of_kept (State.kept_reserveDrive ..)

theorem State.money_retireEntry (v : Serial) (s : State) : (s.retireEntry v).money = s.money := State.money_of_kept (State.kept_retireEntry ..)

theorem State.money_returnPrompt (k : PromptKey) (s : State) : (s.returnPrompt k).money = s.money := State.money_of_kept (State.kept_returnPrompt ..)

theorem State.money_send (m : Msg) (s : State) : (s.send m).money = s.money := State.money_of_kept (State.kept_send ..)

theorem State.money_sendPlace (r : ReqNo) (p : Nat) (s : State) : (s.sendPlace r p).money = s.money := State.money_of_kept (State.kept_sendPlace ..)

theorem State.money_sendRelease (server : Nat) (r : ReqNo) (k : ReleaseKind) (s : State) : (s.sendRelease server r k).money = s.money := State.money_of_kept (State.kept_sendRelease ..)

theorem State.money_sendTagged (tag : PresTag) (m : Msg) (s : State) : (s.sendTagged tag m).money = s.money := State.money_of_kept (State.kept_sendTagged ..)

theorem State.money_settleDropped (s : State) : (s.settleDropped).money = s.money := State.money_of_kept (State.kept_settleDropped ..)

theorem State.money_shelfArrived (v : Serial) (links : List ReqNo) (s : State) : (s.shelfArrived v links).money = s.money := State.money_of_kept (State.kept_shelfArrived ..)

theorem State.money_shelfFetch (r : ReqNo) (v : Serial) (s : State) : (s.shelfFetch r v).money = s.money := State.money_of_kept (State.kept_shelfFetch ..)

theorem State.money_startMove (r : ReqNo) (k : MoveKind) (s : State) : (s.startMove r k).money = s.money := State.money_of_kept (State.kept_startMove ..)

theorem State.money_stowDrive (d : Nat) (s : State) : (s.stowDrive d).money = s.money := State.money_of_kept (State.kept_stowDrive ..)

theorem State.money_thawOrder (s : State) : (s.thawOrder).money = s.money := State.money_of_kept (State.kept_thawOrder ..)

theorem State.money_toStandby (r : ReqNo) (s : State) : (s.toStandby r).money = s.money := State.money_of_kept (State.kept_toStandby ..)

theorem State.money_updDrive (d : Nat) (f : Drive → Drive) (s : State) : (s.updDrive d f).money = s.money := State.money_of_kept (State.kept_updDrive ..)

theorem State.money_updEntry (v : Serial) (f : Entry → Entry) (s : State) : (s.updEntry v f).money = s.money := State.money_of_kept (State.kept_updEntry ..)

theorem State.money_updPrompt (k : PromptKey) (f : Prompt → Prompt) (s : State) : (s.updPrompt k f).money = s.money := State.money_of_kept (State.kept_updPrompt ..)

theorem State.money_updRec (res : Resource) (f : ClaimRec → ClaimRec) (s : State) : (s.updRec res f).money = s.money := State.money_of_kept (State.kept_updRec ..)

theorem State.money_updReq (r : ReqNo) (f : Request → Request) (s : State) : (s.updReq r f).money = s.money := State.money_of_kept (State.kept_updReq ..)

theorem State.money_wearReel (v : Serial) (errors : Nat) (s : State) : (s.wearReel v errors).money = s.money := State.money_of_kept (State.kept_wearReel ..)

theorem State.money_withdraw (p : Msg → Bool) (s : State) : (s.withdraw p).money = s.money := State.money_of_kept (State.kept_withdraw ..)

theorem State.money_withdrawPrompt (k : PromptKey) (s : State) : (s.withdrawPrompt k).money = s.money := State.money_of_kept (State.kept_withdrawPrompt ..)

theorem State.money_giveUpAlone (res : Resource) (s : State) : (s.giveUpAlone res).money = s.money := State.money_of_kept (State.kept_giveUpAlone ..)
theorem State.money_yieldAlone (s : State) : (s.yieldAlone).money = s.money := State.money_of_kept (State.kept_yieldAlone ..)

theorem State.money_reach (t : Nat) (s : State) : (s.reach t).money = s.money := by
  unfold State.reach
  try dsimp only
  repeat' first
    | with_reducible rfl
    | intro _
    | rw [State.money_modSys]
    | split
    | rfl

theorem State.money_updRoster (p : Nat) (f : RosterEntry → RosterEntry) (s : State) : (s.updRoster p f).money = s.money := by
  unfold State.updRoster
  try dsimp only
  repeat' first
    | with_reducible rfl
    | intro _
    | rw [State.money_modLine]
    | simp only [and_self]
    | split
    | rfl

theorem State.money_offerClosed (x : ClosedSession) (s : State) : (s.offerClosed x).money = s.money := by
  unfold State.offerClosed
  try dsimp only
  repeat' first
    | with_reducible rfl
    | intro _
    | simp only [State.money_report]
    | rw [State.money_modAcct]
    | simp only [and_self]
    | split
    | rfl

theorem sum_set {l : List Account} {n : Nat} {b : Account} (h : n < l.length) :
    ((l.set n b).map Account.value).sum + Account.value (l.getD n .zero) = (l.map Account.value).sum + Account.value b := by
  induction l generalizing n with
  | nil => simp at h
  | cons a l ih =>
    cases n with
    | zero => simp only [List.set_cons_zero, List.map_cons, List.sum_cons, List.getD_cons_zero]; omega
    | succ n =>
      have := ih (n := n) (by simpa using h)
      simp only [List.set_cons_succ, List.map_cons, List.sum_cons, List.getD_cons_succ]
      omega

theorem le_sum {l : List Account} {a : Account} (h : a ∈ l) : Account.value a ≤ (l.map Account.value).sum := by
  induction l with
  | nil => simp at h
  | cons b l ih =>
    simp only [List.map_cons, List.sum_cons]
    rcases List.mem_cons.1 h with rfl | h
    · omega
    · have := ih h; omega

theorem addSession_unsaturated {C secs : Nat} {a : Account} (hm : a.milli ≤ 999) (h : (a.addSession C secs).saturated = false) :
    a.saturated = false ∧ Account.value (a.addSession C secs) = Account.value a + C ∧ (a.addSession C secs).milli ≤ 999 ∧
      (a.addSession C secs).units ≤ 4294967295 := by
  by_cases hs : a.saturated = true
  · simp [Account.addSession, Account.addTotal, hs] at h
  · by_cases hu : a.units + C / 1000 + (a.milli + C % 1000) / 1000 ≤ 4294967295
    · simp [Account.addSession, Account.addTotal, hs, hu, Account.value, Config.max32]
      omega
    · simp [Account.addSession, Account.addTotal, hs, hu, Config.max32] at h

theorem addSession_sound {C secs : Nat} {a : Account} (hs : a.saturated = false) (hm : a.milli ≤ 999)
    (h : Account.value a + C < 4294967296000) : (a.addSession C secs).saturated = false := by
  unfold Account.addSession Account.addTotal
  simp only [Account.value, hs, Config.max32] at *
  simp only [Bool.false_eq_true, ↓reduceIte]
  rw [if_pos (by omega)]

theorem State.balanced_addCharge (account C secs : Nat) {s : State} (hb : TotalsAgree s) : TotalsAgree (s.addCharge account C secs) := by
  unfold State.addCharge
  unfold TotalsAgree at *
  simp only [State.modAcct_acct]
  split
  case isFalse => exact hb
  case isTrue h =>
  intro hs
  dsimp only at hs ⊢
  have ht : s.acct.total.saturated = false := by
    by_contra hc
    rw [Bool.not_eq_false] at hc
    simp [Account.addSession, Account.addTotal, hc] at hs
  obtain ⟨ha, hm, hu, hsum⟩ := hb ht
  obtain ⟨_, hv, hm', hu'⟩ := addSession_unsaturated hm hs
  have hmem : s.acct.accounts.getD account .zero ∈ s.acct.accounts := by
    rw [List.getD_eq_getElem _ _ h]; exact List.getElem_mem h
  have hle := le_sum hmem
  obtain ⟨has, ham⟩ := ha _ hmem
  have hsat := addSession_sound (C := C) (secs := secs) has ham (by
    have : Account.value (s.acct.total.addSession C secs) < 4294967296000 := by unfold Account.value; omega
    omega)
  obtain ⟨_, hv2, hm2, _⟩ := addSession_unsaturated ham hsat
  refine ⟨fun a h1 => ?_, hm', hu', ?_⟩
  · rcases List.mem_or_eq_of_mem_set h1 with h1 | rfl
    · exact ha a h1
    · exact ⟨hsat, hm2⟩
  · have := sum_set (b := (s.acct.accounts.getD account .zero).addSession C secs) h
    omega


theorem State.balanced_closeSession (d : Nat) (errors : Nat) (cause : CloseCause) {s : State} (hb : TotalsAgree s) : TotalsAgree ((s.closeSession d errors cause)) := by
  unfold State.closeSession
  try dsimp only
  repeat' first
    | assumption
    | with_reducible apply State.balanced_addCharge
    | with_reducible refine balanced_of_money (State.money_offerClosed ..) ?_
    | with_reducible refine balanced_of_money (State.money_updDrive ..) ?_
    | with_reducible refine balanced_of_money (State.money_wearReel ..) ?_
    | with_reducible intro _
    | split

theorem State.balanced_closeCleaning (d : Nat) (lost : Bool) {s : State} (hb : TotalsAgree s) : TotalsAgree ((s.closeCleaning d lost)) := by
  unfold State.closeCleaning
  try dsimp only
  repeat' first
    | assumption
    | with_reducible apply State.balanced_addCharge
    | with_reducible refine balanced_of_money (State.money_offerClosed ..) ?_
    | with_reducible refine balanced_of_money (State.money_wearReel ..) ?_
    | with_reducible intro _
    | split

theorem State.balanced_dismountDrive (d : Nat) (errors : Nat) {s : State} (hb : TotalsAgree s) : TotalsAgree ((s.dismountDrive d errors)) := by
  unfold State.dismountDrive
  try dsimp only
  repeat' first
    | assumption
    | with_reducible apply State.balanced_closeSession
    | with_reducible refine balanced_of_money (State.money_driveToIdle ..) ?_
    | with_reducible refine balanced_of_money (State.money_examineDrive ..) ?_
    | with_reducible refine balanced_of_money (State.money_plan ..) ?_
    | with_reducible refine balanced_of_money (State.money_push ..) ?_
    | with_reducible refine balanced_of_money (State.money_updDrive ..) ?_
    | with_reducible intro _
    | split

theorem State.balanced_dismountRequest (r : ReqNo) (errors : Nat) (e : End) {s : State} (hb : TotalsAgree s) : TotalsAgree ((s.dismountRequest r errors e)) := by
  unfold State.dismountRequest
  try dsimp only
  repeat' first
    | assumption
    | with_reducible apply State.balanced_dismountDrive
    | with_reducible refine balanced_of_money (State.money_endRequest ..) ?_
    | with_reducible intro _
    | split

theorem State.balanced_mountDone (r : ReqNo) (d : Nat) (v : Serial) {s : State} (hb : TotalsAgree s) : TotalsAgree ((s.mountDone r d v)) := by
  unfold State.mountDone
  try dsimp only
  repeat' first
    | assumption
    | with_reducible apply State.balanced_dismountRequest
    | with_reducible refine balanced_of_money (State.money_enterMounted ..) ?_
    | with_reducible intro _
    | split

theorem State.money_cancelMoving (r : ReqNo) (s : State) : (s.cancelMoving r).money = s.money := by
  unfold State.cancelMoving
  try dsimp only
  repeat' first
    | with_reducible rfl
    | intro _
    | simp only [State.money_endRequest, State.money_issue, State.money_push, State.money_putToSlot, State.money_releaseDrivesOf, State.money_updReq]
    | split
    | rfl

theorem State.balanced_cancelRequest (r : ReqNo) {s : State} (hb : TotalsAgree s) : TotalsAgree ((s.cancelRequest r)) := by
  unfold State.cancelRequest
  try dsimp only
  repeat' first
    | assumption
    | with_reducible refine balanced_of_money (State.money_cancelMoving ..) ?_
    | with_reducible apply State.balanced_dismountRequest
    | with_reducible refine balanced_of_money (State.money_endRequest ..) ?_
    | with_reducible refine balanced_of_money (State.money_releaseProxy ..) ?_
    | with_reducible refine balanced_of_money (State.money_sendRelease ..) ?_
    | with_reducible refine balanced_of_money (State.money_updReq ..) ?_
    | with_reducible intro _
    | split

theorem State.balanced_putToDrive (m : Move) (d : Nat) {s : State} (hb : TotalsAgree s) : TotalsAgree ((s.putToDrive m d)) := by
  unfold State.putToDrive
  try dsimp only
  repeat' first
    | assumption
    | with_reducible refine balanced_of_money (State.money_driveToIdle ..) ?_
    | with_reducible apply State.balanced_mountDone
    | with_reducible refine balanced_of_money (State.money_updDrive ..) ?_
    | with_reducible refine balanced_of_money (State.money_updEntry ..) ?_
    | with_reducible intro _
    | split

theorem State.balanced_putDone (m : Move) {s : State} (hb : TotalsAgree s) : TotalsAgree ((s.putDone m)) := by
  unfold State.putDone
  try dsimp only
  repeat' first
    | assumption
    | with_reducible refine balanced_of_money (State.money_endMove ..) ?_
    | with_reducible refine balanced_of_money (State.money_putToCell ..) ?_
    | with_reducible apply State.balanced_putToDrive
    | with_reducible refine balanced_of_money (State.money_putToHatch ..) ?_
    | with_reducible refine balanced_of_money (State.money_putToSlotDone ..) ?_
    | with_reducible intro _
    | split

theorem State.money_retry (o : Order) (m : Move) (s : State) : (s.retry o m).money = s.money := by
  unfold State.retry
  try dsimp only
  repeat' first
    | with_reducible rfl
    | intro _
    | simp only [State.money_modArm, State.money_report]
    | split
    | rfl

theorem State.money_moveFails (o : Order) (m : Move) (s : State) : (s.moveFails o m).money = s.money := by
  unfold State.moveFails
  try dsimp only
  repeat' first
    | with_reducible rfl
    | intro _
    | simp only [State.money_getFailed, State.money_putFailed, State.money_raisePlain]
    | split
    | rfl

theorem State.money_orderFails (o : Order) (m : Move) (f : Fail) (s : State) : (s.orderFails o m f).money = s.money := by
  unfold State.orderFails
  try dsimp only
  repeat' first
    | with_reducible rfl
    | intro _
    | simp only [State.money_emptySource, State.money_issue, State.money_moveFails, State.money_occupiedDest, State.money_push, State.money_retry]
    | split
    | rfl

theorem State.money_countStray (s : State) : (s.countStray).money = s.money := by
  unfold State.countStray
  try dsimp only
  repeat' first
    | with_reducible rfl
    | intro _
    | simp only [State.money_modPx]
    | split
    | rfl

theorem State.money_hearPlaced (r : ReqNo) (sender : Nat) (s : State) : (s.hearPlaced r sender).money = s.money := by
  unfold State.hearPlaced
  try dsimp only
  repeat' first
    | with_reducible rfl
    | intro _
    | simp only [State.money_becomeProxy, State.money_countStray, State.money_hopAccepted, State.money_sendRelease]
    | split
    | rfl

theorem State.money_hearRefused (r : ReqNo) (why : RefuseReason) (sender : Nat) (s : State) : (s.hearRefused r why sender).money = s.money := by
  unfold State.hearRefused
  try dsimp only
  repeat' first
    | with_reducible rfl
    | intro _
    | simp only [State.money_countAttempt, State.money_countStray, State.money_failRequest, State.money_hopRefused]
    | split
    | rfl

theorem State.money_fromServer (r : ReqNo) (sender : Nat) (movedHere : Bool) (apply : Request → State → State) (s : State) (h : ∀ q t, (apply q t).money = t.money) : (s.fromServer r sender movedHere apply).money = s.money := by
  unfold State.fromServer
  try dsimp only
  repeat' first
    | with_reducible rfl
    | intro _
    | simp only [h]
    | simp only [State.money_becomeProxy, State.money_countStray]
    | split
    | rfl

theorem State.balanced_hearRelease (r : ReqNo) (k : ReleaseKind) (sender : Nat) {s : State} (hb : TotalsAgree s) : TotalsAgree ((s.hearRelease r k sender)) := by
  unfold State.hearRelease
  try dsimp only
  repeat' first
    | assumption
    | with_reducible apply State.balanced_cancelRequest
    | with_reducible refine balanced_of_money (State.money_countStray ..) ?_
    | with_reducible apply State.balanced_dismountRequest
    | with_reducible intro _
    | split

theorem State.money_askPresence (tag : PresTag) (s : State) : (s.askPresence tag).money = s.money := by
  unfold State.askPresence
  try dsimp only
  repeat' first
    | with_reducible rfl
    | intro _
    | simp only [State.money_handoffTest, State.money_push, State.money_repeatYields, State.money_sendTagged]
    | split
    | rfl

theorem State.money_startPresence (s : State) : (s.startPresence).money = s.money := by
  unfold State.startPresence
  try dsimp only
  repeat' first
    | with_reducible rfl
    | intro _
    | rw [State.money_modLine]
    | simp only [and_self]
    | split
    | rfl

theorem State.money_withCondition (f : State → State) (s : State) (h : ∀ t, (f t).money = t.money) : (s.withCondition f).money = s.money := by
  unfold State.withCondition
  try dsimp only
  repeat' first
    | with_reducible rfl
    | intro _
    | simp only [h]
    | simp only [State.money_askPresence, State.money_startPresence]
    | split
    | rfl

theorem State.money_takeUpCell (c : Nat) (s : State) : (s.takeUpCell c).money = s.money := by
  unfold State.takeUpCell
  try dsimp only
  repeat' first
    | with_reducible rfl
    | intro _
    | simp only [State.money_askEntryIn, State.money_raise, State.money_raisePlain]
    | rw [State.money_forEach]
    | split
    | rfl

theorem State.money_takeUpDrive (x : Drive) (s : State) : (s.takeUpDrive x).money = s.money := by
  unfold State.takeUpDrive
  try dsimp only
  repeat' first
    | with_reducible rfl
    | intro _
    | simp only [State.money_beginCleaning, State.money_stowDrive, State.money_updDrive]
    | split
    | rfl

theorem State.money_enterActive (s : State) : (s.enterActive).money = s.money := by
  unfold State.enterActive
  try dsimp only
  repeat' first
    | with_reducible rfl
    | intro _
    | simp only [State.money_modPort, State.money_askPresence, State.money_claimTest, State.money_issue, State.money_plan, State.money_push, State.money_report, State.money_startPresence, State.money_takeUpCell, State.money_takeUpDrive]
    | rw [State.money_modLine]
    | simp only [and_self]
    | rw [State.money_forEach]
    | rw [State.money_modSys]
    | split
    | rfl

theorem State.balanced_closeAll {s : State} (hb : TotalsAgree s) : TotalsAgree s.closeAll :=
  State.balanced_forEach _ _ (fun _ _ h => State.balanced_closeSession _ _ _ h) hb

theorem State.money_reportListen (s : State) : s.reportListen.money = s.money := by
  unfold State.reportListen
  split
  · rfl
  · exact State.money_report ..

theorem State.balanced_completeRestart {s : State} (hb : TotalsAgree s) : TotalsAgree s.completeRestart := by
  have e : TotalsAgree s.closeAll.reportListen := balanced_of_money (State.money_reportListen ..) (State.balanced_closeAll hb)
  exact e

theorem State.money_giveUpAll (l : List TxMsg) (cause : UndelCause) (s : State) : (s.giveUpAll l cause).money = s.money := by
  unfold State.giveUpAll
  try dsimp only
  repeat' first
    | with_reducible rfl
    | intro _
    | simp only [State.money_giveUpMsg]
    | rw [State.money_forEach]
    | split
    | rfl

theorem State.money_flushTx (p : TxMsg → Bool) (cause : UndelCause) (s : State) : (s.flushTx p cause).money = s.money := by
  unfold State.flushTx
  try dsimp only
  repeat' first
    | with_reducible rfl
    | intro _
    | simp only [State.money_giveUpAll]
    | rw [State.money_modLine]
    | simp only [and_self]
    | split
    | rfl

theorem State.money_ownerUndelivered (m : Msg) (cause : UndelCause) (s : State) : (s.ownerUndelivered m cause).money = s.money := State.money_of_kept (State.kept_ownerUndelivered ..)

theorem State.money_undeliver (m : TxMsg) (n : Nat) (cause : UndelCause) (s : State) : (s.undeliver m n cause).money = s.money := by
  unfold State.undeliver
  try dsimp only
  repeat' first
    | with_reducible rfl
    | intro _
    | simp only [State.money_report, State.money_ownerUndelivered]
    | split
    | rfl

theorem State.money_clearTx (cause : UndelCause) (s : State) : (s.clearTx cause).money = s.money := by
  unfold State.clearTx
  rw [State.money_forEach _ _ _ fun m t => State.money_undeliver ..]
  rfl

theorem State.money_enterLine (new : LineState) (s : State) : (s.enterLine new).money = s.money := by
  unfold State.enterLine
  try dsimp only
  repeat' first
    | with_reducible rfl
    | intro _
    | simp only [State.money_dropHolds, State.money_flushTx, State.money_clearTx]
    | rw [State.money_modLine]
    | simp only [and_self]
    | split
    | rfl

theorem State.balanced_setLine (new : LineState) {s : State} (hb : TotalsAgree s) : TotalsAgree (s.setLine new) := by
  have e : ∀ old, TotalsAgree (s.withCondition fun s =>
      ((((s.modLine fun l => { l with state := new }).enterLine new).report (.line old new s.line.score)).push .plan).push
        .handoffTest) := fun old =>
    balanced_of_money (State.money_withCondition _ _ fun t => by
      simp only [State.money_push, State.money_report, State.money_enterLine, State.money_modLine]) hb
  have e := e s.line.state
  unfold State.setLine
  dsimp only
  generalize State.withCondition _ s = t at e ⊢
  split
  · exact hb
  · split
    · split
      · exact State.balanced_completeRestart e
      · split
        · exact balanced_of_money (State.money_enterActive ..) e
        · exact e
    · exact e

theorem State.balanced_score (f : Nat → Nat) {s : State} (hb : TotalsAgree s) : TotalsAgree ((s.score f)) := by
  unfold State.score
  try dsimp only
  repeat' first
    | assumption
    | with_reducible apply State.balanced_setLine
    | with_reducible refine balanced_of_money (State.money_modLine ..) ?_
    | with_reducible intro _
    | split

theorem State.balanced_badFrame {s : State} (hb : TotalsAgree s) : TotalsAgree ((s.badFrame)) := by
  unfold State.badFrame
  try dsimp only
  repeat' first
    | assumption
    | with_reducible apply State.balanced_score
    | with_reducible refine balanced_of_money (State.money_modLine ..) ?_
    | with_reducible intro _
    | split

theorem State.money_recover (s : State) : (s.recover).money = s.money := by
  unfold State.recover
  try dsimp only
  repeat' first
    | with_reducible rfl
    | intro _
    | simp only [State.money_askPresence, State.money_plan, State.money_push, State.money_report, State.money_settleDropped, State.money_startPresence]
    | rw [State.money_modLine]
    | simp only [and_self]
    | split
    | rfl

theorem State.money_testOwedTo (p : Nat) (s : State) : (s.testOwedTo p).money = s.money := State.money_of_kept (State.kept_testOwedTo ..)

theorem State.money_credit (p : Nat) (s : State) : (s.credit p).money = s.money := by
  unfold State.credit
  try dsimp only
  repeat' first
    | with_reducible rfl
    | intro _
    | simp only [State.money_testOwedTo, State.money_report, State.money_updRoster]
    | split
    | rfl

theorem State.money_peerGone (p : Nat) (s : State) : (s.peerGone p).money = s.money := by
  unfold State.peerGone
  try dsimp only
  repeat' first
    | with_reducible rfl
    | intro _
    | simp only [State.money_claimAbsent, State.money_exchangeAbsent, State.money_plan, State.money_push, State.money_report, State.money_updRoster]
    | split
    | rfl

theorem State.money_neighbourHeard (p : Nat) (changed : Bool) (s : State) : (s.neighbourHeard p changed).money = s.money := by
  unfold State.neighbourHeard
  try dsimp only
  repeat' first
    | with_reducible rfl
    | intro _
    | simp only [State.money_modRm, State.money_plan, State.money_push]
    | split
    | rfl

theorem State.money_hearPresence (b : PresenceBody) (p : Nat) (s : State) : (s.hearPresence b p).money = s.money := by
  unfold State.hearPresence
  try dsimp only
  repeat' first
    | with_reducible rfl
    | intro _
    | simp only [State.money_credit, State.money_neighbourHeard, State.money_peerGone, State.money_updRoster]
    | split
    | rfl

theorem State.balanced_takeFrame (sender : Nat) (presence : Bool) (deliver : State → State) {s : State}
    (h : ∀ t, TotalsAgree t → TotalsAgree (deliver t)) (hb : TotalsAgree s) : TotalsAgree (s.takeFrame sender presence deliver) := by
  have hc : TotalsAgree (if presence then s else s.credit sender) := by
    split
    · exact hb
    · exact balanced_of_money (State.money_credit ..) hb
  unfold State.takeFrame
  generalize (if presence then s else s.credit sender) = t at hc
  have hd : TotalsAgree (if decide (t.line.state = .detached) then t.modLine fun l => { l with goodFrames := l.goodFrames + 1 } else t) := by
    split
    · exact balanced_of_money (State.money_modLine ..) hc
    · exact hc
  dsimp only
  generalize (if decide (t.line.state = .detached) then t.modLine fun l => { l with goodFrames := l.goodFrames + 1 } else t) = u at hd ⊢
  repeat' first
    | assumption
    | with_reducible exact h _ hd
    | with_reducible refine balanced_of_money (State.money_recover ..) ?_
    | with_reducible apply State.balanced_setLine
    | split

theorem State.balanced_hear (sender : Nat) (legal presence : Bool) (deliver : State → State) {s : State} (h : ∀ t, TotalsAgree t → TotalsAgree (deliver t)) (hb : TotalsAgree s) : TotalsAgree ((s.hear sender legal presence deliver)) := by
  unfold State.hear
  try dsimp only
  repeat' first
    | assumption
    | with_reducible apply h
    | with_reducible apply State.balanced_badFrame
    | with_reducible refine balanced_of_money (State.money_settle ..) ?_
    | with_reducible apply State.balanced_takeFrame
    | with_reducible intro _
    | split

theorem State.money_dropOnLine (s : State) : (s.dropOnLine).money = s.money := by
  unfold State.dropOnLine
  try dsimp only
  repeat' first
    | with_reducible rfl
    | intro _
    | rw [State.money_modLine]
    | simp only [and_self]
    | split
    | rfl

theorem State.money_keepOnLine (attempts : Nat) (s : State) : (s.keepOnLine attempts).money = s.money := by
  unfold State.keepOnLine
  try dsimp only
  repeat' first
    | with_reducible rfl
    | intro _
    | rw [State.money_modLine]
    | simp only [and_self]
    | split
    | rfl

theorem State.money_joiningEnded (witnessed : Bool) (s : State) : (s.joiningEnded witnessed).money = s.money := by
  unfold State.joiningEnded
  try dsimp only
  repeat' first
    | with_reducible rfl
    | intro _
    | simp only [State.money_enterActive]
    | rw [State.money_modSys]
    | split
    | rfl

theorem State.balanced_settled (m : TxMsg) {s : State} (hb : TotalsAgree s) : TotalsAgree ((s.settled m)) := by
  unfold State.settled
  try dsimp only
  repeat' first
    | assumption
    | with_reducible apply State.balanced_completeRestart
    | with_reducible refine balanced_of_money (State.money_joiningEnded ..) ?_
    | with_reducible refine balanced_of_money (State.money_ownerWitnessed ..) ?_
    | with_reducible intro _
    | split

theorem State.balanced_attemptWitnessed {s : State} (hb : TotalsAgree s) : TotalsAgree ((s.attemptWitnessed)) := by
  unfold State.attemptWitnessed
  try dsimp only
  repeat' first
    | assumption
    | with_reducible refine balanced_of_money (State.money_dropOnLine ..) ?_
    | with_reducible apply State.balanced_score
    | with_reducible apply State.balanced_settled
    | with_reducible intro _
    | split

theorem State.money_attemptsOut (m : TxMsg) (n : Nat) (s : State) : (s.attemptsOut m n).money = s.money := State.money_undeliver ..

theorem State.balanced_attemptFailed (m : TxMsg) {s : State} (hb : TotalsAgree s) : TotalsAgree ((s.attemptFailed m)) := by
  unfold State.attemptFailed
  try dsimp only
  repeat' first
    | assumption
    | with_reducible apply State.balanced_completeRestart
    | with_reducible refine balanced_of_money (State.money_dropOnLine ..) ?_
    | with_reducible refine balanced_of_money (State.money_attemptsOut ..) ?_
    | with_reducible refine balanced_of_money (State.money_joiningEnded ..) ?_
    | with_reducible refine balanced_of_money (State.money_keepOnLine ..) ?_
    | with_reducible refine balanced_of_money (State.money_ownerWithdrawn ..) ?_
    | with_reducible intro _
    | split

theorem State.balanced_failAttempt (k : Nat) {s : State} (hb : TotalsAgree s) : TotalsAgree ((s.failAttempt k)) := by
  unfold State.failAttempt
  try dsimp only
  repeat' first
    | assumption
    | with_reducible apply State.balanced_attemptFailed
    | with_reducible apply State.balanced_score
    | with_reducible intro _
    | split

theorem State.money_beginFrame (s : State) : (s.beginFrame).money = s.money := by
  unfold State.beginFrame
  try dsimp only
  repeat' first
    | with_reducible rfl
    | intro _
    | rw [State.money_modLine]
    | simp only [and_self]
    | split
    | rfl

theorem State.money_contentionLost (s : State) : (s.contentionLost).money = s.money := by
  unfold State.contentionLost
  try dsimp only
  repeat' first
    | with_reducible rfl
    | intro _
    | simp only [State.money_dropOnLine, State.money_keepOnLine, State.money_ownerWithdrawn]
    | split
    | rfl

theorem State.money_heartbeat (b : Bool) (s : State) : (s.heartbeat b).money = s.money := by
  unfold State.heartbeat
  try dsimp only
  repeat' first
    | with_reducible rfl
    | intro _
    | simp only [State.money_modPort]
    | split
    | rfl

theorem State.money_accepted (x : Xfer) (s : State) : (s.accepted x).money = s.money := by
  unfold State.accepted
  try dsimp only
  repeat' first
    | with_reducible rfl
    | intro _
    | simp only [State.money_modPort, State.money_heartbeat]
    | split
    | rfl

theorem State.money_reply (x : Xfer) (c : ReplyCode) (words : List Data) (s : State) : (s.reply x c words).money = s.money := by
  unfold State.reply
  try dsimp only
  repeat' first
    | with_reducible rfl
    | intro _
    | simp only [State.money_modPort, State.money_heartbeat]
    | split
    | rfl

theorem State.money_refuseCmd (x : Xfer) (c : ReplyCode) (s : State) : (s.refuseCmd x c).money = s.money := by
  unfold State.refuseCmd
  try dsimp only
  repeat' first
    | with_reducible rfl
    | intro _
    | simp only [State.money_reply]
    | split
    | rfl

theorem State.money_replyPart (x : Xfer) (a : Answered) (s : State)
    (h : ∀ t, a = .stale t → t.money = s.money) (h' : ∀ l t, a = .ok (l, t) → t.money = s.money) : (s.replyPart x a).money = s.money := by
  unfold State.replyPart
  split
  · rw [State.money_refuseCmd]
  · rw [State.money_refuseCmd]; exact h _ rfl
  · dsimp only
    repeat' split
    all_goals first
      | rw [State.money_refuseCmd]
      | rw [State.money_reply]; exact h' _ _ rfl
      | rw [State.money_reply]

theorem State.money_execute (x : Xfer) (least : Nat) (k : Kind) (f : State → Answered) (s : State)
    (h : ∀ s t, f s = .stale t → t.money = s.money) (h' : ∀ s l t, f s = .ok (l, t) → t.money = s.money) :
    (s.execute x least k f).money = s.money := by
  unfold State.execute
  dsimp only
  repeat' split
  · rw [State.money_refuseCmd, State.money_accepted]
  · rw [State.money_refuseCmd, State.money_accepted]
  · rw [State.money_replyPart _ _ _ (fun t e => h _ t e) (fun l t e => h' _ l t e), State.money_accepted]

theorem State.money_hostCommand (x : Xfer) (least : Nat) (k : Kind) (f : State → Answered) (s : State)
    (h : ∀ s t, f s = .stale t → t.money = s.money) (h' : ∀ s l t, f s = .ok (l, t) → t.money = s.money) :
    (s.hostCommand x least k f).money = s.money := by
  unfold State.hostCommand
  split
  · rfl
  · rw [State.money_settle, State.money_execute _ _ _ _ _ h h']

theorem State.money_begin (s : State) : (s.begin).money = s.money := by
  unfold State.begin
  try dsimp only
  repeat' first
    | with_reducible rfl
    | intro _
    | split
    | rfl

theorem State.balanced_queueLeaving {s : State} (hb : TotalsAgree s) : TotalsAgree ((s.queueLeaving)) := by
  unfold State.queueLeaving
  try dsimp only
  repeat' first
    | assumption
    | with_reducible apply State.balanced_completeRestart
    | with_reducible refine balanced_of_money (State.money_withdraw ..) ?_
    | with_reducible refine balanced_of_money (State.money_modLine ..) ?_
    | with_reducible intro _
    | split

theorem State.money_enterRequest (q : Request) (s : State) : (s.enterRequest q).money = s.money := by
  unfold State.enterRequest
  try dsimp only
  repeat' first
    | with_reducible rfl
    | intro _
    | simp only [State.money_modRm, State.money_accepted, State.money_addReq, State.money_reqReport]
    | split
    | rfl

theorem State.money_firstLook (r : ReqNo) (s : State) : (s.firstLook r).money = s.money := by
  unfold State.firstLook
  try dsimp only
  repeat' first
    | with_reducible rfl
    | intro _
    | simp only [State.money_lookup, State.money_plan, State.money_push]
    | split
    | rfl

theorem State.money_countStale (s : State) : (s.countStale).money = s.money := by
  unfold State.countStale
  try dsimp only
  repeat' first
    | with_reducible rfl
    | intro _
    | simp only [State.money_modArm]
    | split
    | rfl

theorem State.money_examineAlone  (s : State) : (s.examineAlone).money = s.money := by
  unfold State.examineAlone
  try dsimp only
  repeat' first
    | with_reducible rfl
    | intro _
    | simp only [State.money_giveUpAlone]
    | rw [State.money_forEach]
    | split
    | rfl

theorem State.balanced_completeOrder (o : Order) (ring : Bool) {s : State} (hb : TotalsAgree s) : TotalsAgree ((s.completeOrder o ring)) := by
  unfold State.completeOrder
  try dsimp only
  repeat' first
    | assumption
    | with_reducible refine balanced_of_money (State.money_examineAlone ..) ?_
    | with_reducible refine balanced_of_money (State.money_answered ..) ?_
    | with_reducible refine balanced_of_money (State.money_getDone ..) ?_
    | with_reducible apply State.balanced_putDone
    | with_reducible intro _
    | split

theorem State.money_faultOrder (o : Order) (f : Fail) (s : State) : (s.faultOrder o f).money = s.money := by
  unfold State.faultOrder
  try dsimp only
  repeat' first
    | with_reducible rfl
    | intro _
    | simp only [State.money_answered, State.money_orderFails, State.money_examineAlone]
    | split
    | rfl

theorem State.money_misplaced (v : Serial) (s : State) : (s.misplaced v).money = s.money := by
  unfold State.misplaced
  try dsimp only
  repeat' first
    | with_reducible rfl
    | intro _
    | simp only [State.money_raisePlain]
    | split
    | rfl

theorem State.money_retireOut (v : Serial) (c : Nat) (keepCell : Bool) (s : State) : (s.retireOut v c keepCell).money = s.money := by
  unfold State.retireOut
  try dsimp only
  repeat' first
    | with_reducible rfl
    | intro _
    | simp only [State.money_emptyCell, State.money_retireEntry]
    | split
    | rfl

theorem State.money_declineLinks (k : PromptKey) (s : State) : (s.declineLinks k).money = s.money := by
  unfold State.declineLinks
  try dsimp only
  repeat' first
    | with_reducible rfl
    | intro _
    | simp only [State.money_failRequest, State.money_updPrompt]
    | rw [State.money_forEach]
    | split
    | rfl

theorem State.money_strangerGone (w : Serial) (s : State) : (s.strangerGone w).money = s.money := by
  unfold State.strangerGone
  try dsimp only
  repeat' first
    | with_reducible rfl
    | intro _
    | simp only [State.money_declineLinks, State.money_misplaced, State.money_withdrawPrompt]
    | split
    | rfl

theorem State.money_cellFoundEmpty (w : Serial) (c : Nat) (s : State) : (s.cellFoundEmpty w c).money = s.money := by
  unfold State.cellFoundEmpty
  try dsimp only
  repeat' first
    | with_reducible rfl
    | intro _
    | simp only [State.money_emptyCell, State.money_putCell, State.money_retireOut, State.money_strangerGone, State.money_withdrawPrompt]
    | split
    | rfl

theorem State.money_serveSlots (s : State) : (s.serveSlots).money = s.money := State.money_of_kept (State.kept_serveSlots ..)

theorem State.money_cellFoundOther (w : Serial) (c : Nat) (s : State) : (s.cellFoundOther w c).money = s.money := by
  unfold State.cellFoundOther
  try dsimp only
  repeat' first
    | with_reducible rfl
    | intro _
    | simp only [State.money_reelMissing, State.money_removeMoves, State.money_retireOut, State.money_serveSlots, State.money_strangerGone, State.money_withdrawPrompt]
    | split
    | rfl

theorem State.money_unexpected (v : Serial) (c room : Nat) (s : State) : (s.unexpected v c room).money = s.money := by
  unfold State.unexpected
  try dsimp only
  repeat' first
    | with_reducible rfl
    | intro _
    | simp only [State.money_queueEntryIn, State.money_enterReel, State.money_misplaced, State.money_putCell, State.money_raise, State.money_updEntry]
    | split
    | rfl

theorem State.money_moveExpectation (w : Serial) (p : CellPurpose) (c d : Nat) (s : State) : (s.moveExpectation w p c d).money = s.money := by
  unfold State.moveExpectation
  try dsimp only
  repeat' first
    | with_reducible rfl
    | intro _
    | simp only [State.money_modArm, State.money_putCell]
    | split
    | rfl

theorem State.money_queuedCellLost (m : Move) (s : State) : (s.queuedCellLost m).money = s.money := by
  unfold State.queuedCellLost
  try dsimp only
  repeat' first
    | with_reducible rfl
    | intro _
    | simp only [State.money_modArm, State.money_pendCell, State.money_removeMoves, State.money_retireOut, State.money_updEntry]
    | split
    | rfl

theorem State.money_dropExpectation (w : Serial) (p : CellPurpose) (c : Nat) (s : State) : (s.dropExpectation w p c).money = s.money := by
  unfold State.dropExpectation
  try dsimp only
  repeat' first
    | with_reducible rfl
    | intro _
    | simp only [State.money_putAwayMove, State.money_queuedCellLost, State.money_redirect, State.money_returnPrompt, State.money_shelfFetch, State.money_updEntry, State.money_updReq]
    | split
    | rfl

theorem State.money_expectationDisplaced (w : Serial) (p : CellPurpose) (c : Nat) (s : State) : (s.expectationDisplaced w p c).money = s.money := by
  unfold State.expectationDisplaced
  try dsimp only
  repeat' first
    | with_reducible rfl
    | intro _
    | simp only [State.money_dropExpectation, State.money_moveExpectation]
    | split
    | rfl

theorem State.money_serveRingIn (p : Prompt) (s : State) : (s.serveRingIn p).money = s.money := by
  unfold State.serveRingIn
  try dsimp only
  repeat' first
    | with_reducible rfl
    | intro _
    | simp only [State.money_leavePrompt, State.money_startMove, State.money_toStandby, State.money_updPrompt, State.money_updReq]
    | rw [State.money_forEach]
    | split
    | rfl

theorem State.money_askWaiting (v : Serial) (s : State) : (s.askWaiting v).money = s.money :=
  State.money_forEach _ _ _ fun _ _ => State.money_startMove ..

theorem State.money_reelBack (v : Serial) (c : Nat) (s : State) : (s.reelBack v c).money = s.money := by
  unfold State.reelBack
  try dsimp only
  repeat' first
    | with_reducible rfl
    | intro _
    | simp only [State.money_askWaiting, State.money_queueEntryIn, State.money_putCell, State.money_serveRingIn, State.money_updEntry]
    | split
    | rfl

theorem State.money_shelfReported (v : Serial) (c : Nat) (s : State) : (s.shelfReported v c).money = s.money := by
  unfold State.shelfReported
  try dsimp only
  repeat' first
    | with_reducible rfl
    | intro _
    | simp only [State.money_queueEntryIn, State.money_enterReel, State.money_leavePrompt, State.money_misplaced, State.money_putCell, State.money_raise, State.money_shelfArrived, State.money_shelfFetch, State.money_updEntry, State.money_updPrompt]
    | rw [State.money_forEach]
    | split
    | rfl

theorem State.money_stillThere (v : Serial) (c : Nat) (s : State) : (s.stillThere v c).money = s.money := by
  unfold State.stillThere
  try dsimp only
  repeat' first
    | with_reducible rfl
    | intro _
    | simp only [State.money_queueEntryIn, State.money_returnPrompt]
    | split
    | rfl

theorem State.money_labelApply (c : Nat) (content : CellContent) (s : State) : (s.labelApply c content).money = s.money := by
  unfold State.labelApply
  try dsimp only
  repeat' first
    | with_reducible rfl
    | intro _
    | simp only [State.andThen, State.money_settle, State.money_cellFoundEmpty, State.money_cellFoundOther, State.money_emptyCell, State.money_expectationDisplaced, State.money_putCell, State.money_reelBack, State.money_shelfReported, State.money_stillThere, State.money_unexpected]
    | split
    | rfl

theorem State.money_foundHome (v : Serial) (s : State) : (s.foundHome v).money = s.money := by
  unfold State.foundHome
  try dsimp only
  repeat' first
    | with_reducible rfl
    | intro _
    | simp only [State.money_plan, State.money_push, State.money_updEntry]
    | split
    | rfl

theorem State.money_slotApply (n : Nat) (content : SlotContent) (s : State) : (s.slotApply n content).money = s.money := by
  unfold State.slotApply
  try dsimp only
  repeat' first
    | with_reducible rfl
    | intro _
    | simp only [State.andThen, State.money_settle, State.money_addEntry, State.money_foundHome, State.money_misplaced, State.money_plan, State.money_push, State.money_reelMissing]
    | split
    | rfl

theorem State.money_driveLostPutAway (d : Nat) (s : State) : (s.driveLostPutAway d).money = s.money := by
  unfold State.driveLostPutAway
  try dsimp only
  repeat' first
    | with_reducible rfl
    | intro _
    | simp only [State.money_modArm, State.money_putAwayMove]
    | split
    | rfl

theorem State.money_otherDrive (r : ReqNo) (q : Request) (s : State) : (s.otherDrive r q).money = s.money := by
  unfold State.otherDrive
  try dsimp only
  repeat' first
    | with_reducible rfl
    | intro _
    | simp only [State.money_reserveDrive, State.money_failRequest]
    | split
    | rfl

theorem State.money_driveTaken (r : ReqNo) (s : State) : (s.driveTaken r).money = s.money := by
  unfold State.driveTaken
  try dsimp only
  repeat' first
    | with_reducible rfl
    | intro _
    | simp only [State.money_backToStandby, State.money_dropAsker, State.money_otherDrive, State.money_removeMoves, State.money_updReq]
    | split
    | rfl

theorem State.balanced_driveOffline (d : Nat) (x : Drive) {s : State} (hb : TotalsAgree s) : TotalsAgree (s.driveOffline d x) := by
  have hb : TotalsAgree (s.withdrawPrompt { cls := .cleanDrive, subject := .drive d }) :=
    balanced_of_money (State.money_withdrawPrompt ..) hb
  have off : ∀ (t : State) l, TotalsAgree t → TotalsAgree (t.driveOff d l) := fun t l ht => balanced_of_money (State.money_driveOff ..) ht
  have put : ∀ t : State, TotalsAgree t → TotalsAgree (t.driveLostPutAway d) := fun t ht => balanced_of_money (State.money_driveLostPutAway ..) ht
  have gone : ∀ (t : State) p, TotalsAgree t → TotalsAgree (t.removeMoves p) := fun t p ht => balanced_of_money (State.money_removeMoves ..) ht
  unfold State.driveOffline
  generalize s.withdrawPrompt { cls := .cleanDrive, subject := .drive d } = u at hb ⊢
  have taken : ∀ t : State, TotalsAgree t → TotalsAgree (match x.serving with
      | some (.request r) => (t.driveTaken r).driveLostPutAway d
      | some .cleaning => (t.removeMoves fun m => decide (m.kind = .clean) && decide (m.dest = .drive d)).driveLostPutAway d
      | none => t) := fun t ht => by
    split
    · exact put _ (balanced_of_money (State.money_driveTaken ..) ht)
    · exact put _ (gone _ _ ht)
    · exact ht
  cases x.state with
  | empty => exact off _ _ hb
  | reserved => exact taken _ (off _ _ hb)
  | loading => exact taken _ (off _ _ hb)
  | mounted =>
    have h := off _ x.loaded (State.balanced_closeSession d 0 .driveLost hb)
    dsimp only
    split
    · exact balanced_of_money (State.money_failRequest ..) h
    · exact h
  | grace => exact off _ _ hb
  | idleLoaded => exact gone _ _ (off _ _ hb)
  | cleaning => exact off _ _ (State.balanced_closeCleaning d true hb)
  | offline => exact hb

theorem State.money_beginPress (b : Button) (s : State) : (s.beginPress b).money = s.money := by
  unfold State.beginPress
  try dsimp only
  repeat' first
    | with_reducible rfl
    | intro _
    | simp only [State.money_modPanel]
    | split
    | rfl

theorem State.money_releaseAck (ms : Nat) (act : Bool → Prompt → State → State) (s : State) (h : ∀ b q t, (act b q t).money = t.money) : (s.releaseAck ms act).money = s.money := by
  unfold State.releaseAck
  try dsimp only
  repeat' first
    | with_reducible rfl
    | intro _
    | simp only [h]
    | simp only [State.money_modPanel, State.money_reach, State.money_settle]
    | split
    | rfl

theorem State.money_releaseNext (ms : Nat) (act : Bool → PromptKey → State → State) (s : State) (h : ∀ b q t, (act b q t).money = t.money) : (s.releaseNext ms act).money = s.money := by
  unfold State.releaseNext
  try dsimp only
  repeat' first
    | with_reducible rfl
    | intro _
    | simp only [h]
    | simp only [State.money_modPanel, State.money_reach]
    | split
    | rfl

theorem State.money_toAcked (k : PromptKey) (wait : Bool) (s : State) : (s.toAcked k wait).money = s.money := by
  unfold State.toAcked
  try dsimp only
  repeat' first
    | with_reducible rfl
    | intro _
    | simp only [State.money_relamp, State.money_updPrompt]
    | split
    | rfl

theorem State.money_ackShelf (p : Prompt) (v : Serial) (s : State) : (s.ackShelf p v).money = s.money := by
  unfold State.ackShelf
  try dsimp only
  repeat' first
    | with_reducible rfl
    | intro _
    | simp only [State.money_putCell, State.money_raise, State.money_toAcked]
    | split
    | rfl

theorem State.money_ackRing (p : Prompt) (v : Serial) (s : State) : (s.ackRing p v).money = s.money := by
  unfold State.ackRing
  try dsimp only
  repeat' first
    | with_reducible rfl
    | intro _
    | simp only [State.money_serveRingIn, State.money_toAcked, State.money_updReq]
    | rw [State.money_forEach]
    | split
    | rfl

theorem State.money_ackRetire (p : Prompt) (v : Serial) (s : State) : (s.ackRetire p v).money = s.money := by
  unfold State.ackRetire
  try dsimp only
  repeat' first
    | with_reducible rfl
    | intro _
    | simp only [State.money_leavePrompt, State.money_retireOut]
    | split
    | rfl

theorem State.money_ackConflict (p : Prompt) (s : State) : (s.ackConflict p).money = s.money := by
  unfold State.ackConflict
  try dsimp only
  repeat' first
    | with_reducible rfl
    | intro _
    | simp only [State.money_endConflict, State.money_leavePrompt, State.money_updRec]
    | split
    | rfl

theorem State.money_dropAsk (res : Resource) (a : Asker) (s : State) : (s.dropAsk res a).money = s.money := State.money_of_kept (State.kept_dropAsk ..)

theorem State.money_ackCradle (p : Prompt) (side : Side) (s : State) : (s.ackCradle p side).money = s.money := by
  unfold State.ackCradle
  try dsimp only
  repeat' first
    | with_reducible rfl
    | intro _
    | simp only [State.money_delEntry, State.money_leavePrompt, State.money_push, State.money_updRec, State.money_dropAsk]
    | rw [State.money_forEach]
    | split
    | rfl

theorem State.money_ackClass (p : Prompt) (s : State) : (s.ackClass p).money = s.money := by
  unfold State.ackClass
  try dsimp only
  repeat' first
    | with_reducible rfl
    | intro _
    | simp only [State.money_ackConflict, State.money_ackCradle, State.money_ackRetire, State.money_ackRing, State.money_ackShelf, State.money_leavePrompt, State.money_push, State.money_shelfFetch, State.money_toAcked, State.money_updDrive]
    | split
    | rfl

theorem State.money_countAck (p : Prompt) (s : State) : (s.countAck p).money = s.money := by
  unfold State.countAck
  try dsimp only
  repeat' first
    | with_reducible rfl
    | intro _
    | simp only [State.money_updPrompt, State.money_updReq]
    | rw [State.money_forEach]
    | split
    | rfl

theorem State.money_ackPrompt (p : Prompt) (s : State) : (s.ackPrompt p).money = s.money := by
  unfold State.ackPrompt
  try dsimp only
  repeat' first
    | with_reducible rfl
    | intro _
    | simp only [State.money_ackClass, State.money_countAck, State.money_reportPrompt]
    | split
    | rfl

theorem State.money_declineClass (p : Prompt) (s : State) : (s.declineClass p).money = s.money := by
  unfold State.declineClass
  try dsimp only
  repeat' first
    | with_reducible rfl
    | intro _
    | simp only [State.money_ackClass, State.money_askEntryIn, State.money_queueEntryIn, State.money_countAck, State.money_declineLinks, State.money_leavePrompt, State.money_reportPrompt, State.money_shelfFetch, State.money_updEntry]
    | split
    | rfl

theorem State.money_declinePrompt (p : Prompt) (s : State) : (s.declinePrompt p).money = s.money := by
  unfold State.declinePrompt
  try dsimp only
  repeat' first
    | with_reducible rfl
    | intro _
    | simp only [State.money_declineClass]
    | split
    | rfl

theorem State.money_setCursor (k : Option PromptKey) (s : State) : (s.setCursor k).money = s.money := by
  unfold State.setCursor
  try dsimp only
  repeat' first
    | with_reducible rfl
    | intro _
    | simp only [State.money_modPanel]
    | split
    | rfl

theorem State.money_openDoor (s : State) : (s.openDoor).money = s.money := by
  unfold State.openDoor
  try dsimp only
  repeat' first
    | with_reducible rfl
    | intro _
    | simp only [State.money_modPanel, State.money_freezeOrder, State.money_report]
    | rw [State.money_modInv]
    | simp only [and_self]
    | split
    | rfl

theorem State.money_doorLongGone (s : State) : (s.doorLongGone).money = s.money := by
  unfold State.doorLongGone
  try dsimp only
  repeat' first
    | with_reducible rfl
    | intro _
    | simp only [State.money_modPanel, State.money_leavePrompt, State.money_withdrawPrompt]
    | split
    | rfl

theorem State.money_closeDoor (s : State) : (s.closeDoor).money = s.money := by
  unfold State.closeDoor
  try dsimp only
  repeat' first
    | with_reducible rfl
    | intro _
    | simp only [State.money_modPanel, State.money_doorLongGone, State.money_issue, State.money_push, State.money_report, State.money_thawOrder]
    | rw [State.money_modInv]
    | simp only [and_self]
    | split
    | rfl

theorem State.money_quietHolds  (s : State) : (s.quietHolds).money = s.money := by
  unfold State.quietHolds
  try dsimp only
  repeat' first
    | with_reducible rfl
    | intro _
    | simp only [State.money_giveUpAll, State.money_modClaim, State.money_withdraw]
    | split
    | rfl

theorem State.money_goAlone (s : State) : (s.goAlone).money = s.money := by
  unfold State.goAlone
  try dsimp only
  repeat' first
    | with_reducible rfl
    | intro _
    | simp only [State.money_modPort, State.money_yieldAlone, State.money_quietHolds]
    | rw [State.money_modSys]
    | rw [State.money_withCondition]
    | split
    | rfl

theorem State.money_countTick (s : State) : (s.countTick).money = s.money := by
  unfold State.countTick
  try dsimp only
  repeat' first
    | with_reducible rfl
    | intro _
    | simp only [State.money_modDrv]
    | rw [State.money_modAcct]
    | simp only [Acct.countBand, bump, apply_ite List.length, List.length_set, ite_self, and_self]
    | split
    | rfl

theorem State.money_tick (s : State) : (s.tick).money = s.money := by
  unfold State.tick
  try dsimp only
  repeat' first
    | with_reducible rfl
    | intro _
    | simp only [State.money_countTick]
    | rw [State.money_modAcct]
    | simp only [and_self]
    | split
    | rfl

theorem State.money_stale (s : State) : (s.stale).money = s.money := by
  unfold State.stale
  try dsimp only
  repeat' first
    | with_reducible rfl
    | intro _
    | simp only [State.money_report]
    | rw [State.money_modAcct]
    | simp only [and_self]
    | split
    | rfl

theorem State.balanced_endCleaning (d : Nat) (x : Drive) {s : State} (hb : TotalsAgree s) : TotalsAgree ((s.endCleaning d x)) := by
  unfold State.endCleaning
  try dsimp only
  repeat' first
    | assumption
    | with_reducible apply State.balanced_closeCleaning
    | with_reducible refine balanced_of_money (State.money_countPass ..) ?_
    | with_reducible refine balanced_of_money (State.money_driveToIdle ..) ?_
    | with_reducible refine balanced_of_money (State.money_updDrive ..) ?_
    | with_reducible intro _
    | split

theorem State.money_becomeLate (q : Request) (s : State) : (s.becomeLate q).money = s.money := by
  unfold State.becomeLate
  try dsimp only
  repeat' first
    | with_reducible rfl
    | intro _
    | simp only [State.money_escalate, State.money_reqReport, State.money_updReq]
    | split
    | rfl

theorem State.money_hopLapse (q : Request) (s : State) : (s.hopLapse q).money = s.money := by
  unfold State.hopLapse
  try dsimp only
  repeat' first
    | with_reducible rfl
    | intro _
    | simp only [State.money_delReq, State.money_dropArrival, State.money_dropAsker, State.money_endReservations, State.money_releaseDrivesOf, State.money_updReq]
    | split
    | rfl

theorem State.money_forward (q : Request) (s : State) : (s.forward q).money = s.money := by
  unfold State.forward
  try dsimp only
  repeat' first
    | with_reducible rfl
    | intro _
    | simp only [State.money_send, State.money_sendRelease, State.money_updReq]
    | split
    | rfl

theorem State.money_slow (o : Order) (s : State) : (s.slow o).money = s.money := by
  unfold State.slow
  try dsimp only
  repeat' first
    | with_reducible rfl
    | intro _
    | simp only [State.money_modArm, State.money_report]
    | split
    | rfl

theorem State.money_timeOut (o : Order) (s : State) : (s.timeOut o).money = s.money := by
  unfold State.timeOut
  try dsimp only
  repeat' first
    | with_reducible rfl
    | intro _
    | simp only [State.money_answered, State.money_orderFails, State.money_slow, State.money_examineAlone]
    | split
    | rfl

theorem State.money_addressed (n : Nat) (act : State → State) (s : State) (h : ∀ t, (act t).money = t.money) : (s.addressed n act).money = s.money := by
  unfold State.addressed
  try dsimp only
  repeat' first
    | with_reducible rfl
    | intro _
    | simp only [h]
    | split
    | rfl

theorem State.money_hearHave (b : HaveBody) (sender : Nat) (s : State) : (s.hearHave b sender).money = s.money := by
  unfold State.hearHave
  try dsimp only
  repeat' first
    | with_reducible rfl
    | intro _
    | simp only [State.money_countStray, State.money_updReq]
    | split
    | rfl

theorem State.money_takePlace (b : PlaceBody) (sender : Nat) (s : State) : (s.takePlace b sender).money = s.money := by
  unfold State.takePlace
  try dsimp only
  repeat' first
    | with_reducible rfl
    | intro _
    | simp only [State.money_hearPlace, State.money_hearViaHatch]
    | split
    | rfl

theorem State.money_waitOver (r : ReqNo) (ph : Phase) (wait : Request → Option Nat) (act : Request → State → State) (s : State) (h : ∀ q t, (act q t).money = t.money) : (s.waitOver r ph wait act).money = s.money := by
  unfold State.waitOver
  try dsimp only
  repeat' first
    | with_reducible rfl
    | intro _
    | simp only [h]
    | simp only [State.money_reach, State.money_settle]
    | split
    | rfl

theorem State.money_settleReseek (r : ReqNo) (s : State) : (s.settleReseek r).money = s.money := by
  unfold State.settleReseek
  try dsimp only
  repeat' first
    | with_reducible rfl
    | intro _
    | simp only [State.money_askSeek, State.money_updReq]
    | split
    | rfl

theorem State.money_followUp (q : Request) (s : State) : (s.followUp q).money = s.money := by
  unfold State.followUp
  try dsimp only
  repeat' first
    | with_reducible rfl
    | intro _
    | simp only [State.money_askSeek, State.money_sendPlace]
    | split
    | rfl

end Sys2Proof.Machine
end

