-- ==== Sys2Proof/Laws/PerInstr.lean ====
section
/-! SUPPORT. What holds of every command as syntax, one lemma for each constructor. HostTransfer: a well-formed host command comes in a
transfer whose Part and count are in their ranges (R179). -/

namespace Sys2Proof.Laws.HostTransfer

/-- The Part and the count of a well-formed host command are in their ranges (R179). -/
def Statement (i : Instr) : Prop := i.wellFormed = true → ∀ x, i.xfer = some x → x.ok = true

theorem powerOnReset : Statement (.powerOnReset) := fun _ _ e => nomatch e
theorem setStartup (x : Xfer) (field : Nat) (value : Option Nat) : Statement (.setStartup x field value) := by
  intro h y e
  cases e
  simp only [Instr.wellFormed, Bool.and_eq_true] at h
  simp_all only
theorem loadDrive (x : Xfer) (address cls : Nat) (position : Option DrivePos) : Statement (.loadDrive x address cls position) := by
  intro h y e
  cases e
  simp only [Instr.wellFormed, Bool.and_eq_true] at h
  simp_all only
theorem loadReel (x : Xfer) (a : LoadReelArgs) : Statement (.loadReel x a) := by
  intro h y e
  cases e
  simp only [Instr.wellFormed, Bool.and_eq_true] at h
  simp_all only
theorem start (x : Xfer) : Statement (.start x) := fun h _ e => Option.some.inj e ▸ h
theorem mount (x : Xfer) (a : MountArgs) : Statement (.mount x a) := by
  intro h y e
  cases e
  simp only [Instr.wellFormed, Bool.and_eq_true] at h
  simp_all only
theorem dismount (x : Xfer) (r : ReqNo) (errors : Nat) : Statement (.dismount x r errors) := by
  intro h y e
  cases e
  simp only [Instr.wellFormed, Bool.and_eq_true] at h
  simp_all only
theorem cancel (x : Xfer) (r : ReqNo) : Statement (.cancel x r) := by
  intro h y e
  cases e
  simp only [Instr.wellFormed, Bool.and_eq_true] at h
  simp_all only
theorem queryRequest (x : Xfer) (r : ReqNo) : Statement (.queryRequest x r) := by
  intro h y e
  cases e
  simp only [Instr.wellFormed, Bool.and_eq_true] at h
  simp_all only
theorem takeOrder (x : Xfer) : Statement (.takeOrder x) := fun h _ e => Option.some.inj e ▸ h
theorem orderDone (x : Xfer) (number : Nat) (ring : Option Bool) : Statement (.orderDone x number ring) := by
  intro h y e
  cases e
  simp only [Instr.wellFormed, Bool.and_eq_true] at h
  simp_all only
theorem orderFault (x : Xfer) (number : Nat) (reason : Option FaultReason) : Statement (.orderFault x number reason) := by
  intro h y e
  cases e
  simp only [Instr.wellFormed, Bool.and_eq_true] at h
  simp_all only
theorem labelRead (x : Xfer) (cell : Nat) (content : Option CellContent) : Statement (.labelRead x cell content) := by
  intro h y e
  cases e
  simp only [Instr.wellFormed, Bool.and_eq_true] at h
  simp_all only
theorem slotReport (x : Xfer) (slot : Nat) (content : Option SlotContent) : Statement (.slotReport x slot content) := by
  intro h y e
  cases e
  simp only [Instr.wellFormed, Bool.and_eq_true] at h
  simp_all only
theorem endAudit (x : Xfer) : Statement (.endAudit x) := fun h _ e => Option.some.inj e ▸ h
theorem driveOffline (x : Xfer) (address : Nat) : Statement (.driveOffline x address) := by
  intro h y e
  cases e
  simp only [Instr.wellFormed, Bool.and_eq_true] at h
  simp_all only
theorem driveOnline (x : Xfer) (address : Nat) : Statement (.driveOnline x address) := by
  intro h y e
  cases e
  simp only [Instr.wellFormed, Bool.and_eq_true] at h
  simp_all only
theorem readReel (x : Xfer) (volume : Option Serial) (slot cell : Option Nat) : Statement (.readReel x volume slot cell) := by
  intro h y e
  cases e
  simp only [Instr.wellFormed, Bool.and_eq_true] at h
  simp_all only
theorem readDrive (x : Xfer) (address : Nat) : Statement (.readDrive x address) := by
  intro h y e
  cases e
  simp only [Instr.wellFormed, Bool.and_eq_true] at h
  simp_all only
theorem takeSession (x : Xfer) : Statement (.takeSession x) := fun h _ e => Option.some.inj e ▸ h
theorem readAccount (x : Xfer) (account : Nat) : Statement (.readAccount x account) := by
  intro h y e
  cases e
  simp only [Instr.wellFormed, Bool.and_eq_true] at h
  simp_all only
theorem clearAccount (x : Xfer) (account : Nat) : Statement (.clearAccount x account) := by
  intro h y e
  cases e
  simp only [Instr.wellFormed, Bool.and_eq_true] at h
  simp_all only
theorem readBands (x : Xfer) : Statement (.readBands x) := fun h _ e => Option.some.inj e ▸ h
theorem readLost (x : Xfer) : Statement (.readLost x) := fun h _ e => Option.some.inj e ▸ h
theorem readLine (x : Xfer) (station : Option Nat) : Statement (.readLine x station) := by
  intro h y e
  cases e
  simp only [Instr.wellFormed, Bool.and_eq_true] at h
  simp_all only
theorem clearRetry (x : Xfer) : Statement (.clearRetry x) := fun h _ e => Option.some.inj e ▸ h
theorem takeReport (x : Xfer) : Statement (.takeReport x) := fun h _ e => Option.some.inj e ▸ h
theorem readStatus (x : Xfer) : Statement (.readStatus x) := fun h _ e => Option.some.inj e ▸ h
theorem resume (x : Xfer) : Statement (.resume x) := fun h _ e => Option.some.inj e ▸ h
theorem restart (x : Xfer) : Statement (.restart x) := fun h _ e => Option.some.inj e ▸ h
theorem undefinedCommandCode (x : Xfer) (code : Nat) : Statement (.undefinedCommandCode x code) := by
  intro h y e
  cases e
  simp only [Instr.wellFormed, Bool.and_eq_true] at h
  simp_all only
theorem faultedTransfer : Statement (.faultedTransfer) := fun _ _ e => nomatch e
theorem silenceTimerExpiry : Statement (.silenceTimerExpiry) := fun _ _ e => nomatch e
theorem buttonPress (b : Button) : Statement (.buttonPress b) := fun _ _ e => nomatch e
theorem ackShort : Statement (.ackShort) := fun _ _ e => nomatch e
theorem ackLong : Statement (.ackLong) := fun _ _ e => nomatch e
theorem nextShort : Statement (.nextShort) := fun _ _ e => nomatch e
theorem nextLong : Statement (.nextLong) := fun _ _ e => nomatch e
theorem doorChange (isOpen : Bool) : Statement (.doorChange isOpen) := fun _ _ e => nomatch e
theorem doorLimitExpiry : Statement (.doorLimitExpiry) := fun _ _ e => nomatch e
theorem secondTick : Statement (.secondTick) := fun _ _ e => nomatch e
theorem graceExpiry (drive : Nat) : Statement (.graceExpiry drive) := fun _ _ e => nomatch e
theorem cleaningEnd (drive : Nat) : Statement (.cleaningEnd drive) := fun _ _ e => nomatch e
theorem deadlinePassed (r : ReqNo) : Statement (.deadlinePassed r) := fun _ _ e => nomatch e
theorem hopExpiry (r : ReqNo) : Statement (.hopExpiry r) := fun _ _ e => nomatch e
theorem forwardCheck (r : ReqNo) : Statement (.forwardCheck r) := fun _ _ e => nomatch e
theorem promptAgeEscalation (cls : PromptClass) (subject : Subject) : Statement (.promptAgeEscalation cls subject) := fun _ _ e => nomatch e
theorem staleTimerExpiry : Statement (.staleTimerExpiry) := fun _ _ e => nomatch e
theorem reservationExpiry (volume : Serial) : Statement (.reservationExpiry volume) := fun _ _ e => nomatch e
theorem orderSlow : Statement (.orderSlow) := fun _ _ e => nomatch e
theorem orderTimeout : Statement (.orderTimeout) := fun _ _ e => nomatch e
theorem retryPauseEnd : Statement (.retryPauseEnd) := fun _ _ e => nomatch e
theorem settleEnd (cls : PromptClass) (subject : Subject) : Statement (.settleEnd cls subject) := fun _ _ e => nomatch e
theorem frameSendStart : Statement (.frameSendStart) := fun _ _ e => nomatch e
theorem contentionLost : Statement (.contentionLost) := fun _ _ e => nomatch e
theorem transmitFault : Statement (.transmitFault) := fun _ _ e => nomatch e
theorem attemptWitnessed : Statement (.attemptWitnessed) := fun _ _ e => nomatch e
theorem attemptUnwitnessed : Statement (.attemptUnwitnessed) := fun _ _ e => nomatch e
theorem detachedRecovery : Statement (.detachedRecovery) := fun _ _ e => nomatch e
theorem badFrame : Statement (.badFrame) := fun _ _ e => nomatch e
theorem brokenOffFrame : Statement (.brokenOffFrame) := fun _ _ e => nomatch e
theorem presenceHeard (sender : Nat) (b : PresenceBody) : Statement (.presenceHeard sender b) := fun _ _ e => nomatch e
theorem peerAbsent (station : Nat) : Statement (.peerAbsent station) := fun _ _ e => nomatch e
theorem presenceTimerExpiry : Statement (.presenceTimerExpiry) := fun _ _ e => nomatch e
theorem seekHeard (sender : Nat) (b : SeekBody) : Statement (.seekHeard sender b) := fun _ _ e => nomatch e
theorem haveHeard (sender : Nat) (b : HaveBody) : Statement (.haveHeard sender b) := fun _ _ e => nomatch e
theorem windowClose (r : ReqNo) : Statement (.windowClose r) := fun _ _ e => nomatch e
theorem settleReseek (r : ReqNo) : Statement (.settleReseek r) := fun _ _ e => nomatch e
theorem placeHeard (sender : Nat) (b : PlaceBody) : Statement (.placeHeard sender b) := fun _ _ e => nomatch e
theorem viaHatchPlaceHeard (sender : Nat) (b : PlaceBody) : Statement (.viaHatchPlaceHeard sender b) := fun _ _ e => nomatch e
theorem placedHeard (sender : Nat) (b : PlacedBody) : Statement (.placedHeard sender b) := fun _ _ e => nomatch e
theorem refusedHeard (sender : Nat) (b : RefusedBody) : Statement (.refusedHeard sender b) := fun _ _ e => nomatch e
theorem placeWaitEnd (r : ReqNo) : Statement (.placeWaitEnd r) := fun _ _ e => nomatch e
theorem followUpWaitEnd (r : ReqNo) : Statement (.followUpWaitEnd r) := fun _ _ e => nomatch e
theorem hopPlaceWaitEnd (r : ReqNo) : Statement (.hopPlaceWaitEnd r) := fun _ _ e => nomatch e
theorem outcomeHeard (sender : Nat) (b : OutcomeBody) : Statement (.outcomeHeard sender b) := fun _ _ e => nomatch e
theorem releaseHeard (sender : Nat) (b : ReleaseBody) : Statement (.releaseHeard sender b) := fun _ _ e => nomatch e
theorem askHeard (sender : Nat) (b : AskBody) : Statement (.askHeard sender b) := fun _ _ e => nomatch e
theorem stateHeard (sender : Nat) (b : StateBody) : Statement (.stateHeard sender b) := fun _ _ e => nomatch e
theorem holdHeard (sender : Nat) (b : HoldBody) : Statement (.holdHeard sender b) := fun _ _ e => nomatch e
theorem yieldHeard (sender : Nat) (b : YieldBody) : Statement (.yieldHeard sender b) := fun _ _ e => nomatch e
theorem handoffHeard (sender : Nat) (b : HandoffBody) : Statement (.handoffHeard sender b) := fun _ _ e => nomatch e
theorem listenTimerExpiry : Statement (.listenTimerExpiry) := fun _ _ e => nomatch e
theorem resetRelease : Statement (.resetRelease) := fun _ _ e => nomatch e

end Sys2Proof.Laws.HostTransfer
end

