-- ==== Sys2Proof/Laws/Port.lean ====
section
/-! SUPPORT. What the Local Port does with a transfer, said once: the heartbeat and Frame Fault (`accepted_eq`), a command refused
(`host_refused`, `host_short`, `host_error`), and a command taken (`host_ok`, `host_earlier`, `host_beyond`). -/

namespace Sys2Proof.Machine

open Sys2Proof.Certificates

/-- What every accepted transfer does before its command is looked at (R181, R184). -/
theorem State.accepted_eq (x : Xfer) (s : State) : s.accepted x =
    { s with port :=
      { s.port with
        frameFault := false
        lastHeartbeat := some x.heartbeat
        silenceEnd := if s.port.lastHeartbeat = some (!x.heartbeat)
          then s.port.silenceEnd.map fun _ => s.sys.clock + 1000 * s.sys.startup.silenceLimit
          else s.port.silenceEnd } } := by
  unfold State.accepted State.heartbeat
  split
  · next h => simp [State.modPort, h]
  · next h =>
    simp only [State.modPort, State.silenceFull, State.cfg]
    rcases hl : s.port.lastHeartbeat with _ | b
    · simp
    · cases b <;> cases hx : x.heartbeat <;> simp_all

@[simp] theorem State.accepted_sys (x : Xfer) (s : State) : (s.accepted x).sys = s.sys := by rw [State.accepted_eq]
@[simp] theorem State.accepted_agenda (x : Xfer) (s : State) : (s.accepted x).agenda = s.agenda := by rw [State.accepted_eq]

/-- An accepted transfer and its reply. -/
theorem State.accepted_reply (x : Xfer) (c : ReplyCode) (w : List Data) (s : State) :
    (s.accepted x).reply x c w = Certificates.answered x c w s := by
  rw [State.accepted_eq]; rfl

@[simp] theorem answered_agenda (x : Xfer) (c : ReplyCode) (w : List Data) (s : State) : (Certificates.answered x c w s).agenda = s.agenda := rfl

/-- A command that its mode refuses (R183). -/
theorem State.host_refused {x : Xfer} {least : Nat} {k : Kind} {f : State → Answered} {s : State} {c : ReplyCode}
    (h : Ready x least s) (hm : modeCheck k s.sys.mode = some c) : s.hostCommand x least k f = Certificates.answered x c [] s := by
  obtain ⟨h1, h2, h3⟩ := h
  have e : s.execute x least k f = Certificates.answered x c [] s := by
    unfold State.execute
    simp only [State.accepted_sys, hm, Nat.not_lt.mpr h3, if_false]
    exact State.accepted_reply ..
  unfold State.hostCommand
  rw [if_neg (by simp [h1]), e, State.settle_of_agenda (by simpa using h2)]

/-- A command with too few words (R180). -/
theorem State.host_short {x : Xfer} {least : Nat} {k : Kind} {f : State → Answered} {s : State} (h1 : s.sys.resetHeld = false)
    (h2 : s.agenda = []) (h3 : x.count < least) : s.hostCommand x least k f = Certificates.answered x .badValue [] s := by
  have e : s.execute x least k f = Certificates.answered x .badValue [] s := by
    unfold State.execute
    simp only [h3, if_true]
    exact State.accepted_reply ..
  unfold State.hostCommand
  rw [if_neg (by simp [h1]), e, State.settle_of_agenda (by simpa using h2)]

/-- A command that its owning rule refuses with no change of state. -/
theorem State.host_error {x : Xfer} {least : Nat} {k : Kind} {f : State → Answered} {s : State} {c : ReplyCode}
    (h : Ready x least s) (hm : modeCheck k s.sys.mode = none) (hf : f (s.accepted x) = .error c) :
    s.hostCommand x least k f = Certificates.answered x c [] s := by
  obtain ⟨h1, h2, h3⟩ := h
  have e : s.execute x least k f = Certificates.answered x c [] s := by
    unfold State.execute
    simp only [State.accepted_sys, hm, Nat.not_lt.mpr h3, if_false, hf]
    exact State.accepted_reply ..
  unfold State.hostCommand
  rw [if_neg (by simp [h1]), e, State.settle_of_agenda (by simpa using h2)]

/-- A command taken, at the last part of its reply: its effect, its reply, and its consequences (R181). -/
theorem State.host_ok {x : Xfer} {least : Nat} {k : Kind} {f : State → Answered} {s t : State} {fields : List Field}
    (h : Ready x least s) (hm : modeCheck k s.sys.mode = none) (hf : f (s.accepted x) = .ok (fields, t)) (hp : AsksLast x fields) :
    s.hostCommand x least k f = (t.reply x .ok (partOf fields x.part)).settle := by
  obtain ⟨h1, h2, h3⟩ := h
  unfold AsksLast at hp
  have e : s.execute x least k f = t.reply x .ok (partOf fields x.part) := by
    unfold State.execute
    simp only [State.accepted_sys, hm, Nat.not_lt.mpr h3, if_false, hf, State.replyPart]
    rw [if_neg (by omega), if_neg (by omega)]
  unfold State.hostCommand
  rw [if_neg (by simp [h1]), e]

/-- A part of the reply before the last: no effect (R181). -/
theorem State.host_earlier {x : Xfer} {least : Nat} {k : Kind} {f : State → Answered} {s t : State} {fields : List Field}
    (h : Ready x least s) (hm : modeCheck k s.sys.mode = none) (hf : f (s.accepted x) = .ok (fields, t))
    (hp : x.part + 1 < (packParts fields).length) : s.hostCommand x least k f = Certificates.answered x .ok (partOf fields x.part) s := by
  obtain ⟨h1, h2, h3⟩ := h
  have e : s.execute x least k f = Certificates.answered x .ok (partOf fields x.part) s := by
    unfold State.execute
    simp only [State.accepted_sys, hm, Nat.not_lt.mpr h3, if_false, hf, State.replyPart]
    rw [if_neg (by omega), if_pos hp]
    exact State.accepted_reply ..
  unfold State.hostCommand
  rw [if_neg (by simp [h1]), e, State.settle_of_agenda (by simpa using h2)]

/-- A part beyond the reply's last: BAD_VALUE, and no effect (R181). -/
theorem State.host_beyond {x : Xfer} {least : Nat} {k : Kind} {f : State → Answered} {s t : State} {fields : List Field}
    (h : Ready x least s) (hm : modeCheck k s.sys.mode = none) (hf : f (s.accepted x) = .ok (fields, t))
    (hp : (packParts fields).length ≤ x.part) : s.hostCommand x least k f = Certificates.answered x .badValue [] s := by
  obtain ⟨h1, h2, h3⟩ := h
  have e : s.execute x least k f = Certificates.answered x .badValue [] s := by
    unfold State.execute
    simp only [State.accepted_sys, hm, Nat.not_lt.mpr h3, if_false, hf, State.replyPart]
    rw [if_pos hp]
    exact State.accepted_reply ..
  unfold State.hostCommand
  rw [if_neg (by simp [h1]), e, State.settle_of_agenda (by simpa using h2)]

/-- A command that only answers: every part of its reply leaves the rest as it is. -/
theorem State.host_read {x : Xfer} {least : Nat} {k : Kind} {f : State → Answered} {s : State} {fields : List Field}
    (h : Ready x least s) (hm : modeCheck k s.sys.mode = none) (hf : f (s.accepted x) = .ok (fields, s.accepted x))
    (hp : x.part < (packParts fields).length) : s.hostCommand x least k f = Certificates.answered x .ok (partOf fields x.part) s := by
  by_cases hl : x.part + 1 < (packParts fields).length
  · exact State.host_earlier h hm hf hl
  · rw [State.host_ok h hm hf (by unfold AsksLast; omega), State.accepted_reply, State.settle_of_agenda (by simpa using h.2.1)]

end Sys2Proof.Machine
end

