-- ==== Sys2Proof/Tests/Slice0.lean ====
section
/-! SUPPORT. Tests. A theorem met_<statement> shows concrete states and operands that meet the hypotheses of that statement of
Certificates/Slice0/Obligations.lean together, clause by clause, and checks a field or two of what the command leaves; a theorem
test_<what> checks one thing the spec says on one small state. Expected values come from the rules named. -/

open Sys2Proof Sys2Proof.Machine Sys2Proof.Certificates

namespace Sys2Proof.Tests

/-! ## Small states -/

/-- The state a command leaves. -/
def after (c : Instr) (s : State) : State :=
  match exec c s with
  | .next t => t
  | .fault _ => s
  | .refused _ => s

/-- A transfer with 15 data words that asks part `n`. -/
def xfer (n : Nat) : Xfer := { heartbeat := true, part := n, count := 15 }

def volA : Serial := ['A', '0', '0', '0', '0', '1']
def volB : Serial := ['B', '2', ' ', ' ', ' ', ' ']

/-- Station 2, with both hatches, in ACTIVE on a CLEAR line. -/
def served : State :=
  { State.reset with
    sys := { State.reset.sys with
      mode := .active
      startup := { StartUp.powerOn with stationNumber := 2, leftHatch := true, rightHatch := true } }
    line := { State.reset.line with state := .clear, presenceEnd := some 4000 }
    acct := { State.reset.acct with stationTime := 100, nextSecond := some 1000 }
    port := { State.reset.port with lastHeartbeat := some false, silenceEnd := some 5000 } }

def alone : State := { served with sys := { served.sys with mode := .standalone } }
def joining : State :=
  { served with sys := { served.sys with mode := .joining, listenEnd := some 8000 }, line := { served.line with state := .listen } }
def audit : State := { served with inv := { served.inv with bay := .audit } }
def duplicated : State := { joining with line := { joining.line with state := .duplicate } }

/-- A homed entry in slot 10. -/
def reel : Entry :=
  { volume := volA, home := .here, slot := some 10, cls := 1, ring := true, pool := none, passes := 7, errors := 0, retired := false,
    unrecorded := false, exitPending := false, state := .home, reservation := none }

/-- An EMPTY local drive. -/
def drive : Drive :=
  { address := 0, cls := 1, position := .loc, state := .empty, loaded := none, serving := none, graceExpiry := none, cleaningEnd := none,
    cleaningReel := none, cleanDue := false, mounts := 0, mountedSeconds := 0, passesSince := 0, cleanings := 0, session := none,
    cleaningStart := none, parked := false }

def mountA : MountArgs :=
  { jobTag := 5, volume := some volA, pool := none, access := some .read, classWish := none, priority := 3, account := 9, minutes := none }

/-- The request that MOUNT of `volA` makes: 2.001, WAITING. -/
def asked : Request := served.newRequest mountA (.volume volA) .read

def r1 : ReqNo := { origin := 2, seq := 1 }
/-- A request of station 1. -/
def r9 : ReqNo := { origin := 1, seq := 9 }

def withReq (q : Request) (s : State) : State := { s with rm := { s.rm with queue := [q] } }
def withReel (e : Entry) (s : State) : State := { s with inv := { s.inv with entries := [e] } }
def withDrive (d : Drive) (s : State) : State := { s with drv := { s.drv with drives := [d] } }
def withCell (c : CellState) (s : State) : State := { s with inv := { s.inv with cells := [c, .empty, .empty, .empty] } }
def withPrompt (p : Prompt) (s : State) : State := { s with panel := { s.panel with prompts := [p], cursor := some p.key } }

def entryFull : Prompt :=
  { cls := .entryFull, subject := .volume volA, detail := some .cell, links := [], state := .settling, raised := 100,
    settleEnd := some 5000, escalated := false, acks := 0, cellWait := false }
def shownFull : Prompt := { entryFull with state := .shown, settleEnd := none }

/-- A PRESENCE body of station 1. -/
def presenceA : PresenceBody :=
  { condition := .active, period := 4, free1 := 1, free2 := 0, free3 := 0, free4 := 0, queueRoom := 32, leftHatch := true,
    rightHatch := true, accepts := true }

def presentA : RosterEntry := { state := .present, presence := some presenceA, lastHeard := some 90, absentAt := some 9000 }

/-- Station 1 is PRESENT, with the power-on Presence Period. -/
def peered : State := { served with line := { served.line with roster := served.line.roster.set 1 presentA } }

theorem hears_peered : HearsPeer 1 peered := ⟨rfl, .inl rfl, by decide, rfl, rfl⟩

/-- The left hatch of station 2, HATCH(1). -/
def rec1 : ClaimRec :=
  { res := .hatch 1, neighbour := 1, holder := .none, own := .none, asks := [], dropped := false, dispute := .none, conflictAcked := false,
    conflictGone := false, cradle := .empty, handoffDue := none, owed := none, concede := false, alone := false }
def withRec (c : ClaimRec) (s : State) : State := { s with claim := { s.claim with records := [c] } }
def handoffA : HandoffBody :=
  { boundary := 1, volume := volA, cls := 1, ring := false, retired := false, pool := 0, passes := 0, errors := 0, home := 1, req := none }

/-! ## Queue, reset, mode table -/

theorem met_EveryCommandRunsToItsEnd : State.reset.agenda = [] := by decide

theorem met_IdleStepPassesOneMillisecond :
    (served.pending = [] ∧ served.sys.resetHeld = false) ∧
    ((after .powerOnReset served).pending = [] ∧ (after .powerOnReset served).sys.resetHeld = true) := by decide

/-- At the second, the tick joins the queue. -/
theorem test_idle_queues_the_tick :
    ({ served with sys := { served.sys with clock := 999 } } : State).idle.pending = [.secondTick] := by decide

theorem met_PowerOnResetAndItsRelease :
    atThePins (.buttonPress .ack) = true ∧ atThePins (.start (xfer 0)) = true ∧ (after .powerOnReset served).sys.resetHeld = true := by decide

theorem test_start_in_reset_is_not_taken :
    after (.start (xfer 0)) (after .powerOnReset served) = after .powerOnReset served := by decide

theorem met_TheModeTableRefuses :
    (Instr.start (xfer 0)).xfer = some (xfer 0) ∧ Ready (xfer 0) (leastWords (.start (xfer 0))) served ∧
    initOnly (.start (xfer 0)) = true ∧ served.sys.mode ≠ .init ∧
    (Instr.readBands (xfer 0)).xfer = some (xfer 0) ∧ Ready (xfer 0) (leastWords (.readBands (xfer 0))) alone ∧
    initOnly (.readBands (xfer 0)) = false ∧ takenAlone (.readBands (xfer 0)) = false ∧ unnamed (.readBands (xfer 0)) = false ∧
    alone.sys.mode = .standalone ∧
    (after (.start (xfer 0)) served).port.reply.code = .locked ∧ (after (.readBands (xfer 0)) alone).port.reply.code = .notNow := by decide

/-- One word short: MOUNT needs 11. -/
theorem met_BadTransfersChangeNothingElse :
    (Instr.mount { xfer 0 with count := 10 } mountA).xfer = some { xfer 0 with count := 10 } ∧
    unnamed (.mount { xfer 0 with count := 10 } mountA) = false ∧ served.sys.resetHeld = false ∧ served.agenda = [] ∧
    ({ xfer 0 with count := 10 } : Xfer).count < leastWords (.mount { xfer 0 with count := 10 } mountA) ∧
    (after (.mount { xfer 0 with count := 10 } mountA) served).port.reply.code = .badValue ∧
    (after .faultedTransfer served).port.frameFault = true := by decide

/-- R64: a MOUNTED report's fields, the last of them a volume, make 15 words, so two parts. -/
def mountedReport : Report := { time := 100, body := .request r1 5 (.mounted (.own 2 0) (some volA)) }
def reported : State := { served with port := { served.port with reports := [mountedReport] } }

theorem met_PartsCarryTheFieldsInOrder : ∀ f ∈ wReport mountedReport, f.length ≤ 14 := by decide

def closed1 : ClosedSession :=
  { req := some r1, origin := 2, account := 9, volume := volA, drive := .own 2 0, start := 10, finish := 20, t0 := 10, t1 := 0, t2 := 0,
    t3 := 0, charge := 1100, errors := 0, promptAcks := 0, write := false, hopped := false, remount := false, cleaning := false,
    restartClosed := false, driveLost := false, timeSaturated := false, chargeSaturated := false }
def charged : State := { served with acct := { served.acct with closed := [closed1] } }

theorem met_OnlyTheLastPartTakesEffect :
    (packParts (wReport mountedReport)).length = 2 ∧ reported.port.reports = mountedReport :: [] ∧
    Ready (xfer 0) 0 reported ∧ (xfer 0).part + 1 < 2 ∧ Ready (xfer 2) 0 reported ∧ 2 ≤ (xfer 2).part ∧
    (after (.takeReport (xfer 0)) reported).port.reports = [mountedReport] ∧
    (after (.takeReport (xfer 1)) reported).port.reports = [] ∧
    (after (.takeReport (xfer 2)) reported).port.reply.code = .badValue ∧
    Ready (xfer 0) 0 charged ∧ InService charged ∧ charged.acct.closed = closed1 :: [] ∧
    (packParts (w1 1 :: wSession closed1)).length = 3 ∧ (after (.takeSession (xfer 0)) charged).acct.closed = [closed1] ∧
    (after (.takeSession (xfer 3)) charged).port.reply.code = .badValue := by decide

/-! ## Start-up -/

theorem met_SetStartupStoresOrReads :
    Ready (xfer 0) 4 State.reset ∧ State.reset.sys.mode = .init ∧ (xfer 0).part = 0 ∧
    (after (.setStartup (xfer 0) 38 none) State.reset).port.reply.code = .ok ∧
    (after (.setStartup (xfer 0) 1 (some 65535)) State.reset).sys.startup.stationNumber = 7 ∧
    (after (.setStartup (xfer 0) 0 (some 1)) State.reset).port.reply.code = .badValue ∧
    (after (.setStartup (xfer 0) 39 (some 1)) State.reset).port.reply.code = .badValue ∧
    (after (.setStartup (xfer 0) 1 (some 65536)) State.reset).port.reply.code = .badValue := by decide

/-- R194: B1 = 7 over 4 and 6 leaves 7, 7, 7; B3 = 1 under 2 and 4 leaves 2, 4, 4. -/
theorem test_thresholds_in_order :
    (let c := StartUp.powerOn.put 12 7
     (c.b1, c.b2, c.b3) = (7, 7, 7)) ∧
    (let c := StartUp.powerOn.put 14 1
     (c.b1, c.b2, c.b3) = (2, 4, 4)) := by decide

/-- R194: 120 ms of Seek Window is a step of 100; 15 s between 2, 5, 15 and 60; a flag; 4,687 midway of the lower two line rates. -/
theorem test_values_made_legal :
    (StartUp.powerOn.put 7 120).seekWindow = 100 ∧ (StartUp.powerOn.put 31 10).retryPause = 5 ∧
    (StartUp.powerOn.put 3 9).leftHatch = true ∧ (StartUp.powerOn.put 5 4687).lineRate = 3125 ∧
    (StartUp.powerOn.put 5 4688).lineRate = 6250 := by decide

theorem met_SetStartupWritesOneField :
    (11 ≠ 12 ∧ ¬(12 ≤ 11 ∧ 11 ≤ 14 ∧ 12 ≤ 12 ∧ 12 ≤ 14)) ∧ (14 ≠ 15 ∧ ¬(12 ≤ 14 ∧ 14 ≤ 14 ∧ 12 ≤ 15 ∧ 15 ≤ 14)) := by decide

theorem met_LoadDriveMakesTheRecord :
    Ready (xfer 0) 3 State.reset ∧ State.reset.sys.mode = .init ∧ (xfer 0).part = 0 ∧
    (after (.loadDrive (xfer 0) 7 4 (some (.boundary .left 1))) State.reset).drv.drives.length = 1 ∧
    (after (.loadDrive (xfer 0) 8 1 (some .loc)) State.reset).port.reply.code = .badValue ∧
    (after (.loadDrive (xfer 0) 0 1 (some .loc)) (withDrive drive State.reset)).port.reply.code = .badValue ∧
    (after (.loadDrive (xfer 0) 0 0 (some .loc)) State.reset).port.reply.code = .badValue ∧
    (after (.loadDrive (xfer 0) 0 5 (some .loc)) State.reset).port.reply.code = .badValue ∧
    (after (.loadDrive (xfer 0) 0 1 (some (.boundary .left 2))) State.reset).port.reply.code = .badValue ∧
    served.sys.mode ≠ .init ∧ (after (.loadDrive (xfer 0) 0 1 none) served).port.reply.code = .locked := by decide

def loadA : LoadReelArgs :=
  { volume := volA, slot := 511, cls := 4, ring := some true, pool := 0, passes := 65535, errors := 255, retired := some false }
def full : State :=
  { State.reset with inv := { State.reset.inv with
    entries := List.replicate 600 { reel with volume := volB, slot := none, home := .station 1, state := .onDrive 0 } } }

theorem met_LoadReelAddsTheEntry :
    Ready (xfer 0) 11 State.reset ∧ State.reset.sys.mode = .init ∧ loadA.ring = some true ∧ loadA.retired = some false ∧
    0 < State.reset.tableRoom ∧ (after (.loadReel (xfer 0) loadA) State.reset).inv.entries.map Entry.slot = [some 511] ∧
    (after (.loadReel (xfer 0) { loadA with slot := 512 }) State.reset).port.reply.code = .badValue ∧
    (after (.loadReel (xfer 0) { loadA with ring := none }) State.reset).port.reply.code = .badValue ∧
    served.sys.mode ≠ .init ∧ (after (.loadReel (xfer 0) loadA) served).port.reply.code = .locked := by decide

theorem met_LoadReelAddsTheEntry_full : Ready (xfer 0) 11 full ∧ full.sys.mode = .init ∧ full.tableRoom = 0 ∧
    (after (.loadReel (xfer 0) loadA) full).port.reply.code = .full := by decide +kernel

theorem met_StartJoins :
    Ready (xfer 0) 0 State.reset ∧ State.reset.sys.mode = .init ∧ State.reset.panel.doorIsOpen = false ∧
    (after (.start (xfer 0)) State.reset).sys.mode = .joining ∧
    (let s : State := { State.reset with sys := { State.reset.sys with startup := { StartUp.powerOn with leftHatch := true } } }
     Ready (xfer 0) 0 s ∧ s.sys.mode = .init ∧ s.sys.startup.stationNumber = 0 ∧ s.sys.startup.leftHatch = true ∧
     (after (.start (xfer 0)) s).port.reply.code = .notNow) := by decide

/-! ## Requests of the host -/

theorem met_MountEntersTheRequest :
    (Ready (xfer 0) 11 served ∧ InService served ∧ served.sys.mode ≠ .init ∧ (xfer 0).part = 0 ∧ mountWant mountA = some (.volume volA) ∧
      mountA.access = some .read ∧ mountInRange mountA = true ∧ served.rm.queue.length < 32) ∧
    (after (.mount (xfer 0) mountA) served).rm.lastSeq = 1 ∧ (after (.mount (xfer 0) mountA) served).port.reply.code = .ok ∧
    (Ready (xfer 0) 11 joining ∧ InService joining ∧ joining.sys.mode = .joining ∧
      (after (.mount (xfer 0) mountA) joining).rm.queue.map Request.state = [.waiting]) := by decide

theorem test_mount_out_of_range_priority :
    (after (.mount (xfer 0) { mountA with priority := 8 }) served).port.reply.code = .badValue := by decide

def crowded : State := { served with rm := { served.rm with queue := List.replicate 32 asked } }

theorem met_MountEntersTheRequest_refused :
    (Ready (xfer 0) 11 State.reset ∧ InService State.reset ∧ State.reset.sys.mode = .init ∧
      (after (.mount (xfer 0) mountA) State.reset).port.reply.code = .notNow) ∧
    (7 < ({ mountA with priority := 8 } : MountArgs).priority ∧
      (after (.mount (xfer 0) { mountA with priority := 8 }) served).port.reply.code = .badValue ∧
      (after (.mount (xfer 0) { mountA with pool := some 14 }) served).port.reply.code = .badValue ∧
      (after (.mount (xfer 0) { mountA with minutes := some 0 }) served).port.reply.code = .badValue) ∧
    (32 ≤ crowded.rm.queue.length ∧ (after (.mount (xfer 0) mountA) crowded).port.reply.code = .full) := by decide

/-- After 255 comes 1, and 1 is passed over while 2.001 is there (R42). -/
theorem met_NewNumberIsTheFirstFree :
    (let s := withReq asked { served with rm := { served.rm with lastSeq := 255 } }
     s.rm.queue.length ≤ 32 ∧ s.newSeq = 2) := by decide

def session1 : Session :=
  { req := r1, account := 9, volume := volA, drive := .own 2 0, start := 10, t0 := 60, t1 := 0, t2 := 0, t3 := 0, write := false,
    hopped := false, remount := false, timeSaturated := false }

/-- 2.001 MOUNTED on drive 0. -/
def mounted : State :=
  withReq { asked with state := .mounted, reel := some volA, drive := some 0 }
    (withDrive { drive with state := .mounted, loaded := some volA, serving := some (.request r1), session := some session1 }
      (withReel { reel with state := .onDrive 0, reservation := some { req := r1, kind := .held } } served))

/-- 60 seconds at 600 milliunits a minute and the Mount Fee: 1,600 (R167, R168). -/
theorem met_DismountClosesAndChargesTheSession :
    (Ready (xfer 0) 3 mounted ∧ InService mounted ∧ (xfer 0).part = 0 ∧ 255 ≤ 255 ∧ reqOk r1 = true) ∧
    ((mounted.findReq r1).map Request.role = some .own ∧ (mounted.findReq r1).map Request.state = some .mounted ∧
      (mounted.findReq r1).bind Request.drive = some 0 ∧ (mounted.findDrive 0).bind Drive.session = some session1 ∧ session1.req = r1) ∧
    (after (.dismount (xfer 0) r1 255) mounted).acct.closed.map ClosedSession.charge = [1600] ∧
    (after (.dismount (xfer 0) r1 255) mounted).acct.total.units = 1 ∧ (after (.dismount (xfer 0) r1 255) mounted).acct.total.milli = 600 ∧
    (after (.dismount (xfer 0) r1 255) mounted).drv.drives.map Drive.state = [.grace] := by decide

theorem holds_nothing_waiting : HoldsNothing r1 (withReq asked served) := by
  constructor <;> simp [withReq, served, State.reset]

def proxy : Request := { asked with role := .proxy, state := .forwarded, server := some 1, forwardDue := some 130 }

theorem met_CancelAndReleaseByState :
    (let s := withReq asked served
     Ready (xfer 0) 2 s ∧ InService s ∧ (xfer 0).part = 0 ∧ reqOk r1 = true ∧ s.findReq r1 = some asked ∧ asked.cancelPending = false ∧
     asked.role = .own ∧ r1.origin = s.sys.startup.stationNumber ∧ asked.state = .waiting ∧ (after (.cancel (xfer 0) r1) s).rm.queue = []) ∧
    (let s := withReq proxy served
     s.findReq r1 = some proxy ∧ proxy.cancelPending = false ∧ proxy.role = .proxy ∧ proxy.state = .forwarded ∧
     proxy.server = some 1 ∧ CanQueue .release s ∧ (after (.cancel (xfer 0) r1) s).rm.queue.map Request.state = [.cancelling]) ∧
    (let q := { proxy with state := .cancelling }
     let s := withReq q served
     Ready (xfer 0) 2 s ∧ s.findReq r1 = some q ∧ q.role = .proxy ∧ q.state = .cancelling ∧ (after (.cancel (xfer 0) r1) s).rm.queue = [q]) ∧
    (let q := { proxy with state := .remoteMounted }
     let s := withReq q served
     3 ≤ (xfer 0).count ∧ s.findReq r1 = some q ∧ q.role = .proxy ∧ q.state = .remoteMounted ∧ q.release = none ∧ q.server = some 1 ∧
     CanQueue .release s ∧ (after (.dismount (xfer 0) r1 255) s).line.txq.length = 1) := by decide

theorem met_CancelAndReleaseByState_ends :
    (served.drv.drives.map Drive.address).Nodup ∧ r1.origin = served.sys.startup.stationNumber ∧
    (∀ st ∈ [ReqState.standby, .claiming, .operator, .locating],
      let q := { asked with state := st }
      let s := withReq q served
      Ready (xfer 0) 2 s ∧ reqOk r1 = true ∧ s.findReq r1 = some q ∧ q.phase ≠ .placing ∧ q.cancelPending = false ∧
      (after (.cancel (xfer 0) r1) s).rm.queue = [] ∧ (after (.cancel (xfer 0) r1) s).port.reports.length = 1) ∧
    (let q := { asked with state := .hopping, hopExpiry := some 200 }
     (withReq q served).findReq r1 = some q ∧ q.hopExpiry.isSome = true ∧ (after (.cancel (xfer 0) r1) (withReq q served)).rm.queue = []) ∧
    (let q := { asked with state := .moving }
     let s := withReq q served
     s.findReq r1 = some q ∧ (∀ m, s.arm.current = some m → m.req ≠ some r1) ∧ (after (.cancel (xfer 0) r1) s).rm.queue = []) ∧
    (let q := { asked with state := .locating, phase := .placing, placeTarget := some 1 }
     let s := withReq q served
     s.findReq r1 = some q ∧ CanQueue .release s ∧ (after (.cancel (xfer 0) r1) s).line.txq.map TxMsg.msg =
       [.release { server := 1, req := r1, kind := .cancel }]) := by decide

theorem met_RequestsTheHostMayNotName :
    (Ready (xfer 0) 3 served ∧ InService served ∧ served.findReq r1 = none ∧
      (after (.queryRequest (xfer 0) r1) served).port.reply.code = .unknownRequest) ∧
    (let q := { asked with role := .takenIn, req := r9 }
     let s := withReq q served
     Ready (xfer 0) 3 s ∧ InService s ∧ s.findReq r9 = some q ∧ q.role = .takenIn ∧
     (after (.cancel (xfer 0) r9) s).port.reply.code = .unknownRequest) ∧
    (let s := withReq asked served
     Ready (xfer 0) 3 s ∧ InService s ∧ s.findReq r1 = some asked ∧ asked.role ≠ .takenIn ∧ asked.state ≠ .mounted ∧
     asked.state ≠ .remoteMounted ∧ (after (.dismount (xfer 0) r1 0) s).port.reply.code = .notNow) := by decide

theorem met_RequestsTheHostMayNotName_range :
    (7 < ({ origin := 8, seq := 1 } : ReqNo).origin ∧ reqOk r1 = true ∧ reqOk r9 = true) ∧
    (∀ r ∈ [({ origin := 8, seq := 1 } : ReqNo), { origin := 2, seq := 0 }, { origin := 2, seq := 256 }],
      (after (.dismount (xfer 0) r 0) served).port.reply.code = .badValue ∧ (after (.cancel (xfer 0) r) served).port.reply.code = .badValue ∧
      (after (.queryRequest (xfer 0) r) served).port.reply.code = .badValue) ∧
    reqOk { origin := 7, seq := 255 } = true := by decide

/-! ## Orders -/

def stow : Move :=
  { kind := .stow, req := none, volume := volA, source := .drive 0, dest := .slot 10, purpose := none, stage := .put, entered := 50,
    priority := 8, afterFailure := false }
def fetch : Move := { stow with kind := .retireOut, source := .slot 10, dest := .entry 0, stage := .get }
def order (k : OrderKind) (l : Loc) : Order :=
  { number := 7, kind := k, loc := l, volume := volA, route := .slotDrive, taken := true, counted := 0, runFrom := some 0, slow := false }
def arm (o : Order) (m : Move) (s : State) : State :=
  { s with arm := { s.arm with inFlight := some o, current := some m, lastOrder := 7 } }
def getting : State := arm (order .get (.slot 10)) fetch (withReel reel (withCell (.expecting volA .retire) served))
def putting : State := arm (order .put (.slot 10)) stow (withReel { reel with state := .inGripper } served)

/-- The move that fetches `volA` for 2.001, with the reel in the gripper. -/
def carrying : State :=
  let s := arm (order .get (.slot 10)) { stow with kind := .mount, req := some r1, source := .slot 10, dest := .drive 0, stage := .putNext }
    (withReq { asked with state := .moving, reel := some volA, drive := some 0 }
      (withDrive { drive with state := .loading, serving := some (.request r1) }
        (withReel { reel with state := .inGripper, reservation := some { req := r1, kind := .held } } served)))
  { s with arm := { s.arm with inFlight := none } }

theorem met_CancelAndReleaseByState_pends :
    (Ready (xfer 0) 2 carrying ∧ (carrying.findReq r1).map Request.state = some .moving ∧
      carrying.arm.current.map Move.stage = some .putNext ∧ carrying.arm.current.map Move.source = some (.slot 10) ∧
      (carrying.findEntry volA).bind Entry.slot = some 10 ∧ (carrying.drv.drives.map Drive.address).Nodup ∧
      (after (.cancel (xfer 0) r1) carrying).arm.current.map Move.dest = some (.slot 10) ∧
      (after (.cancel (xfer 0) r1) carrying).rm.queue.map Request.cancelPending = [true]) ∧
    (let m := { stow with kind := .mount, req := some r1, dest := .drive 0, stage := .get }
     let s := { carrying with arm := { carrying.arm with current := some m } }
     s.arm.current = some m ∧ m.req = some r1 ∧ m.stage ≠ .putNext ∧
     (after (.cancel (xfer 0) r1) s).rm.queue.map Request.cancelPending = [true]) ∧
    (let q := { asked with state := .hopping, hopTo := some 1 }
     let s := withReq q served
     s.findReq r1 = some q ∧ q.hopExpiry = none ∧ (after (.cancel (xfer 0) r1) s).rm.queue.map Request.cancelPending = [true]) ∧
    (let q := { asked with state := .moving, cancelPending := true }
     let s := withReq q served
     s.findReq r1 = some q ∧ (after (.cancel (xfer 0) r1) s).rm.queue = [q]) ∧
    ((mounted.findReq r1).map Request.cancelPending = some false ∧ (mounted.findReq r1).map Request.state = some .mounted ∧
      (mounted.findDrive 0).bind Drive.session = some session1 ∧
      (after (.cancel (xfer 0) r1) mounted).acct.closed.map ClosedSession.charge = [1600]) ∧
    (let q := { proxy with state := .remoteMounted, release := some (.dismount 255) }
     let s := withReq q served
     s.findReq r1 = some q ∧ q.release = some (.dismount 255) ∧ (after (.cancel (xfer 0) r1) s).port.reply.code = .notNow) := by decide

theorem met_TakeOrderHandsOutTheOrder :
    (let o := { order .get (.slot 10) with taken := false, runFrom := none }
     let s := arm o fetch served
     Ready (xfer 0) 0 s ∧ s.sys.mode ≠ .init ∧ s.arm.inFlight = some o ∧ o.taken = false ∧
     (after (.takeOrder (xfer 0)) s).arm.inFlight.map Order.taken = some true) ∧
    (Ready (xfer 0) 0 getting ∧ getting.sys.mode ≠ .init ∧ getting.arm.inFlight = some (order .get (.slot 10)) ∧
      (order .get (.slot 10)).taken = true) := by decide

theorem met_OrderDoneOnAGet :
    (Ready (xfer 0) 2 getting ∧ getting.sys.mode = .active ∧ (xfer 0).part = 0 ∧ 1 ≤ (order .get (.slot 10)).number ∧
      (order .get (.slot 10)).number ≤ 255 ∧ getting.arm.inFlight = some (order .get (.slot 10)) ∧ getting.arm.current = some fetch ∧
      fetch.source = .slot 10 ∧ fetch.req = none ∧ getting.destStands fetch = true) ∧
    (after (.orderDone (xfer 0) 7 (some true)) getting).inv.entries.map Entry.state = [.inGripper] := by decide

/-- The move that fetches `volA` for 2.001 from its slot. -/
def fetchMount : Move := { stow with kind := .mount, req := some r1, source := .slot 10, dest := .drive 0, stage := .get }

def fetching : State :=
  arm (order .get (.slot 10)) fetchMount
    (withReq { asked with state := .moving, reel := some volA, drive := some 0 }
      (withDrive { drive with state := .reserved, serving := some (.request r1) }
        (withReel { reel with reservation := some { req := r1, kind := .held } } served)))

theorem met_OrderDoneOnAGet_request :
    Ready (xfer 0) 2 fetching ∧ fetching.arm.inFlight = some (order .get (.slot 10)) ∧ fetching.arm.current = some fetchMount ∧
    fetchMount.source = .slot 10 ∧ fetching.moveCancelled fetchMount = false ∧ fetching.destStands fetchMount = true ∧
    asked.access = .read ∧ (∀ q, fetching.findReq r1 = some q → q.access = .read) ∧
    (after (.orderDone (xfer 0) 7 (some false)) fetching).arm.inFlight.map Order.loc = some (.drive 0) := by
  refine ⟨by decide, by decide, by decide, by decide, by decide, by decide, by decide, ?_, by decide⟩
  intro q h
  have : fetching.findReq r1 = some { asked with state := .moving, reel := some volA, drive := some 0 } := by decide
  rw [this] at h
  cases h
  rfl

theorem met_OrderDoneOnAPutToASlot :
    (Ready (xfer 0) 2 putting ∧ putting.sys.mode = .active ∧ (order .put (.slot 10)).loc = .slot 10 ∧
      putting.arm.inFlight = some (order .put (.slot 10)) ∧ putting.arm.current = some stow ∧ stow.dest = .slot 10 ∧ stow.req = none ∧
      ∀ c ∈ putting.claim.records, Asker.move volA ∉ c.asks) ∧
    (after (.orderDone (xfer 0) 7 none) putting).inv.entries.map Entry.state = [.home] ∧
    (after (.orderDone (xfer 0) 7 none) putting).arm.current = none := by decide

/-- R25: the 500th pass since the last cleaning is the Clean Limit. -/
def delivering : State :=
  { arm (order .put (.drive 0)) { fetchMount with stage := .put } fetching with
    drv := { fetching.drv with drives := [{ drive with state := .loading, serving := some (.request r1), passesSince := 499 }] }
    inv := { fetching.inv with entries := [{ reel with state := .inGripper, reservation := some { req := r1, kind := .held } }] } }

theorem met_OrderDoneOnAPutToASlot_drive :
    Ready (xfer 0) 2 delivering ∧ delivering.sys.mode = .active ∧ delivering.arm.inFlight = some (order .put (.drive 0)) ∧
    delivering.arm.current = some { fetchMount with stage := .put } ∧ fetchMount.dest = .drive 0 ∧ fetchMount.kind ≠ .clean ∧
    (delivering.findReq r1).map Request.cancelPending = some false ∧ (delivering.findDrive 0).isSome = true ∧
    (∀ c ∈ delivering.claim.records, c.concede = false ∧ c.dispute ≠ .conflict ∧ Asker.move volA ∉ c.asks) ∧
    (let t := after (.orderDone (xfer 0) 7 none) delivering
     t.drv.drives.map Drive.cleanDue = [true] ∧ t.drv.drives.map Drive.state = [.mounted] ∧ t.inv.entries.map Entry.passes = [8] ∧
     t.rm.queue.map Request.state = [.mounted] ∧ t.port.reports.length = 1) := by decide

/-- The taken-in request's OUTCOME MOUNTED. -/
theorem met_OrderDoneOnAPutToASlot_taken_in :
    (let q := { asked with req := r9, role := .takenIn, state := .moving, reel := some volA, drive := some 0 }
     let s := { arm (order .put (.drive 0)) { fetchMount with stage := .put, req := some r9 } (withReq q peered) with
       drv := { peered.drv with drives := [{ drive with state := .loading, serving := some (.request r9) }] }
       inv := { peered.inv with entries := [{ reel with state := .inGripper }] } }
     Ready (xfer 0) 2 s ∧ s.findReq r9 = some q ∧ q.role = .takenIn ∧ CanQueue .outcome s ∧
     (after (.orderDone (xfer 0) 7 none) s).line.txq.map TxMsg.msg = [.outcome { req := r9, event := .mounted (.own 2 0) }]) := by decide

theorem met_RetryableFaultStartsThePause :
    (let s := { getting with arm := { getting.arm with retryCounter := 15 } }
     Ready (xfer 0) 2 s ∧ s.sys.mode = .active ∧ s.arm.inFlight = some (order .get (.slot 10)) ∧ s.arm.current = some fetch ∧
     s.moveCancelled fetch = false ∧ s.arm.retryCounter < 16 ∧
     (after (.orderFault (xfer 0) 7 (some .blocked)) s).arm.retryEnd = some 5000 ∧
     (after (.orderFault (xfer 0) 7 (some .blocked)) s).port.reports.length = 1) := by decide

theorem met_AnswersThatAreRefused :
    (Ready (xfer 0) 2 getting ∧ getting.sys.mode ≠ .init ∧ (∀ o ∈ getting.arm.inFlight, o.number ≠ 255) ∧
      (after (.orderDone (xfer 0) 255 none) getting).port.reply.code = .staleOrder ∧
      (after (.orderDone (xfer 0) 255 none) getting).arm.stale = 1 ∧
      (after (.orderDone (xfer 0) 0 none) getting).port.reply.code = .badValue ∧
      (after (.orderDone (xfer 0) 256 none) getting).port.reply.code = .badValue) ∧
    (getting.arm.inFlight = some (order .get (.slot 10)) ∧ (order .get (.slot 10)).kind = .get ∧
      (after (.orderDone (xfer 0) 7 none) getting).port.reply.code = .badValue) ∧
    (Ready (xfer 0) 2 putting ∧ putting.arm.inFlight = some (order .put (.slot 10)) ∧ (order .put (.slot 10)).kind = .put ∧
      (after (.orderFault (xfer 0) 7 (some .emptySource)) putting).port.reply.code = .badValue) := by decide

/-- SLOT-DRIVE: Expected Time 20 s, Limit 30 s with the 50 % Slow Margin (R71). -/
theorem met_OrderTimers :
    (getting.agenda = [] ∧ getting.arm.inFlight = some (order .get (.slot 10)) ∧ getting.arm.current = some fetch ∧
      (order .get (.slot 10)).runFrom = some 0 ∧ (order .get (.slot 10)).slow = false ∧ (after .orderSlow getting).sys.clock = 20000) ∧
    (let o := { order .get (.slot 10) with slow := true }
     let s := arm o fetch (withReel reel served)
     s.agenda = [] ∧ s.arm.inFlight = some o ∧ o.slow = true ∧ o.runFrom = some 0 ∧ o.loc = .slot 10 ∧ s.moveCancelled fetch = false ∧
     s.arm.retryCounter < 15 ∧ s.sys.mode = .active ∧ (after .orderTimeout s).sys.clock = 30000 ∧
     (after .orderTimeout s).arm.retryEnd = some 35000) ∧
    (let s := { getting with arm := { getting.arm with inFlight := none, retryEnd := some 35000, lastOrder := 255 } }
     s.agenda = [] ∧ s.arm.retryEnd = some 35000 ∧ s.arm.inFlight = none ∧ s.arm.current = some fetch ∧ fetch.stage = .get ∧
     fetch.source = .slot 10 ∧ s.sys.mode = .active ∧ s.inv.bay = .normal ∧ fetch.dest = .entry 0 ∧
     (after .retryPauseEnd s).arm.inFlight.map Order.number = some 1) := by decide

/-! ## Cells, slots, reels, drives -/

theorem met_LabelReadByCell :
    (Ready (xfer 0) 5 served ∧ InService served ∧ served.sys.mode ≠ .init ∧ (xfer 0).part = 0 ∧ 3 ≤ 3 ∧ served.cellAt 3 = .empty ∧
      (after (.labelRead (xfer 0) 3 (some .noLabel)) served).cellAt 3 = .occupied none) ∧
    (let s := withCell (.occupied none) served
     Ready (xfer 0) 5 s ∧ s.cellAt 0 = .occupied none ∧ (after (.labelRead (xfer 0) 0 (some .noLabel)) s).cellAt 0 = .occupied none) ∧
    (let s := withCell (.expecting volA .retire) served
     Ready (xfer 0) 5 s ∧ s.cellAt 0 = .expecting volA .retire ∧ serialOk volA = true ∧
     (after (.labelRead (xfer 0) 0 (some .empty)) s).cellAt 0 = .expecting volA .retire ∧
     (after (.labelRead (xfer 0) 0 (some (.volume volA))) s).cellAt 0 = .occupied (some volA)) ∧
    (serialOk volA = true ∧ served.cellAt 0 = .empty ∧ served.findEntry volA = none) := by decide

theorem met_LabelReadByCell_stranger :
    served.lowestFreeSlot = some 0 ∧ 1 ≤ served.tableRoom ∧
    (after (.labelRead (xfer 0) 0 (some (.volume volA))) served).inv.entries.map Entry.slot = [some 0] := by decide +kernel

def atEntry0 : Entry := { reel with state := .atEntry 0 }

theorem met_LabelReadByCell_occupied :
    (let s := withReel atEntry0 (withCell (.occupied (some volA)) served)
     Ready (xfer 0) 5 s ∧ InService s ∧ s.cellAt 0 = .occupied (some volA) ∧ s.findEntry volA = some atEntry0 ∧
     atEntry0.state = .atEntry 0 ∧ atEntry0.retired = false ∧ (∀ m ∈ s.arm.queue, m.kind = .entryIn → m.purpose = none) ∧
     (after (.labelRead (xfer 0) 0 (some .empty)) s).cellAt 0 = .expecting volA .ret ∧
     (after (.labelRead (xfer 0) 0 (some .noLabel)) s).inv.entries.map Entry.state = [.missing]) ∧
    (let e := { atEntry0 with retired := true }
     let s := withPrompt { shownFull with cls := .retireReel, detail := none } (withReel e (withCell (.occupied (some volA)) served))
     s.findEntry volA = some e ∧ s.promptStands .retireReel (.volume volA) = true ∧
     (after (.labelRead (xfer 0) 0 (some .empty)) s).inv.entries = [] ∧
     (after (.labelRead (xfer 0) 0 (some .empty)) s).panel.prompts = [] ∧
     (after (.labelRead (xfer 0) 0 (some .noLabel)) s).inv.entries = [] ∧
     (after (.labelRead (xfer 0) 0 (some .noLabel)) s).cellAt 0 = .occupied none) ∧
    (let s := withPrompt { shownFull with links := [r1] } (withReq { asked with state := .operator } (withCell (.occupied (some volA)) served))
     s.cellAt 0 = .occupied (some volA) ∧ s.findEntry volA = none ∧
     s.findPrompt { cls := .entryFull, subject := .volume volA } = some { shownFull with links := [r1] } ∧
     (∀ m ∈ s.arm.queue, m.req ≠ some r1) ∧ (after (.labelRead (xfer 0) 0 (some .empty)) s).rm.queue = [] ∧
     (after (.labelRead (xfer 0) 0 (some .empty)) s).cellAt 0 = .empty) := by decide +kernel

theorem met_LabelReadByCell_known :
    (let e := { reel with state := .missing }
     let s := withReel e served
     serialOk volA = true ∧ s.cellAt 3 = .empty ∧ s.findEntry volA = some e ∧ e.slot = some 10 ∧ s.hasEntryIn volA 3 = false ∧
     s.arm.queue.length < 8 ∧ (after (.labelRead (xfer 0) 3 (some (.volume volA))) s).inv.entries.map Entry.state = [.atEntry 3]) ∧
    (let s := withReel reel served
     s.findEntry volA = some reel ∧ reel.state ≠ .missing ∧ s.panel.prompts.length < 16 ∧
     (after (.labelRead (xfer 0) 3 (some (.volume volA))) s).panel.prompts.map Prompt.cls = [.misplaced]) := by decide

theorem can_raise (e : Entry) (k : PromptClass) : CanRaise k (.volume volA) (withReel e served) := by
  constructor <;> simp [withReel, served, State.reset, State.findPrompt, StartUp.powerOn]

/-- The table is full, so a stranger has no slot or no room. -/
theorem met_LabelReadByCell_no_room :
    (let s := { served with inv := { served.inv with entries := full.inv.entries } }
     s.findEntry volA = none ∧ s.tableRoom = 0 ∧ s.panel.prompts.length < 16 ∧ s.sys.startup.promptSettle ≠ 0 ∧
     (after (.labelRead (xfer 0) 0 (some (.volume volA))) s).panel.prompts.map Prompt.detail = [some (.noSlot 0)]) := by decide +kernel

/-- R13: the ENTRY_IN is queued though another cell expects the volume, or another move of it stands. -/
theorem met_LabelReadByCell_elsewhere :
    (let s := { served with inv := { served.inv with cells := [.expecting volA .shelf, .empty, .empty, .empty] } }
     s.cellAt 3 = .empty ∧ (after (.labelRead (xfer 0) 3 (some (.volume volA))) s).inv.entries.map Entry.state = [.atEntry 3] ∧
     (after (.labelRead (xfer 0) 3 (some (.volume volA))) s).arm.inFlight.map Order.loc = some (.entry 3)) ∧
    (let m := { stow with kind := .clean, source := .slot 10, dest := .drive 0, stage := .queued }
     let s := withReel { reel with state := .missing } { served with arm := { served.arm with queue := [m] } }
     s.hasEntryIn volA 3 = false ∧
     (after (.labelRead (xfer 0) 3 (some (.volume volA))) s).moves.map Move.kind = [.entryIn, .clean]) ∧
    (let m := { stow with kind := .entryIn, source := .entry 0, dest := .slot 10, stage := .get }
     let s := arm (order .get (.entry 0)) m (withReel { reel with state := .missing } served)
     s.hasEntryIn volA 3 = false ∧
     (after (.labelRead (xfer 0) 3 (some (.volume volA))) s).moves.map Move.source = [.entry 3, .entry 0]) := by decide +kernel

/-- R13: with the only slot taken, a retired reel on its way out is displaced by a third reel, B2: its slot goes to the reel that waits in
cell 1 first, and B2 meets no free slot. -/
theorem test_a_displaced_retired_reel_frees_its_slot_first :
    let waiting : Serial := ['C', '0', '0', '0', '0', '3']
    let s := { withReel { atEntry0 with retired := true, slot := some 0 } served with
      sys := { served.sys with startup := { served.sys.startup with slotCount := 1 } }
      inv := { (withReel { atEntry0 with retired := true, slot := some 0 } served).inv with
        cells := [.occupied (some volA), .occupied (some waiting), .empty, .empty] }
      panel := { served.panel with prompts := [{ shownFull with cls := .retireReel, detail := none },
        { shownFull with subject := .volume waiting, detail := some (.noSlot 1) }] } }
    let t := after (.labelRead (xfer 0) 0 (some (.volume volB))) s
    t.inv.entries.map Entry.volume = [waiting] ∧ t.panel.prompts.map Prompt.key = [{ cls := .entryFull, subject := .volume volB }] ∧
    t.cellAt 0 = .occupied (some volB) := by decide +kernel

theorem met_LabelReadByCell_shelf :
    (let q := { asked with state := .operator }
     let k := { shownFull with cls := .shelfFetch, links := [r1], detail := none }
     let s := withReq q (withPrompt k (withCell (.expecting volA .shelf) served))
     s.cellAt 0 = .expecting volA .shelf ∧ s.findEntry volA = none ∧ s.lowestFreeSlot = some 0 ∧
     s.findPrompt { cls := .shelfFetch, subject := .volume volA } = some k ∧ k.links = [q.req] ∧ s.findReq q.req = some q ∧
     s.hasEntryIn volA 0 = false ∧ s.arm.queue.length < 8 ∧
     (after (.labelRead (xfer 0) 0 (some (.volume volA))) s).inv.entries.map Entry.slot = [some 0] ∧
     (after (.labelRead (xfer 0) 0 (some (.volume volA))) s).panel.prompts = []) := by decide +kernel

theorem met_LabelReadByCell_back :
    (let s := withReel atEntry0 { served with inv := { served.inv with
       cells := [.expecting volA .ret, .expecting volA .ret, .empty, .empty] } }
     s.cellAt 0 = .expecting volA .ret ∧ s.findEntry volA = some atEntry0 ∧ s.findPrompt { cls := .ringIn, subject := .volume volA } = none ∧
     s.promptDue .retireReel (.volume volA) = false ∧ s.cellWaited volA = false ∧ s.hasEntryIn volA 0 = false ∧ s.arm.queue.length < 8 ∧
     (after (.labelRead (xfer 0) 0 (some (.volume volA))) s).cellAt 0 = .occupied (some volA) ∧
     (after (.labelRead (xfer 0) 0 (some (.volume volA))) s).arm.inFlight.map Order.loc = some (.entry 0)) ∧
    (let q := { asked with state := .standby, reel := some volA, access := .write, promptPending := some (.prompt .ringIn (.volume volA) none) }
     let s := withReq q (withReel atEntry0 (withCell (.expecting volA .ret) served))
     s.cellAt 0 = .expecting volA .ret ∧ s.cellWaited volA = true ∧ s.findPrompt { cls := .ringIn, subject := .volume volA } = none ∧
     (∀ z ∈ s.rm.queue, z.roomWait ≠ some .entryIn) ∧
     (after (.labelRead (xfer 0) 0 (some (.volume volA))) s).cellAt 0 = .occupied (some volA) ∧
     (after (.labelRead (xfer 0) 0 (some (.volume volA))) s).moves = []) ∧
    (let q := { asked with state := .standby, reel := some volA, access := .write, roomWait := some .entryIn }
     let s := withReq q (withReel atEntry0 (withCell (.expecting volA .ret) served))
     s.rm.queue.filter (fun z => decide (z.reel = some volA) && decide (z.roomWait = some .entryIn)) = [q] ∧ s.findReq q.req = some q ∧
     s.promptDue .retireReel (.volume volA) = false ∧ s.arm.queue.length < 8 ∧
     (s.push .room).settle.moves = [] ∧
     (after (.labelRead (xfer 0) 0 (some (.volume volA))) s).moves.map Move.req = [some r1]) ∧
    (let q := { asked with state := .operator, reel := some volA, access := .write }
     let k := { shownFull with cls := .ringIn, links := [r1], state := .acked, detail := none }
     let s := withReq q (withPrompt k (withReel atEntry0 (withCell (.expecting volA .ring) served)))
     s.cellAt 0 = .expecting volA .ring ∧ s.findPrompt { cls := .ringIn, subject := .volume volA } = some k ∧ k.state = .acked ∧
     k.links = [q.req] ∧ s.findReq q.req = some q ∧ q.reel = some volA ∧
     (after (.labelRead (xfer 0) 0 (some (.volume volA))) s).panel.prompts = [] ∧
     (after (.labelRead (xfer 0) 0 (some (.volume volA))) s).arm.inFlight.map Order.loc = some (.entry 0)) := by decide +kernel

theorem met_LabelReadByCell_again :
    (let s := withReel atEntry0 (withCell (.occupied (some volA)) served)
     s.cellAt 0 = .occupied (some volA) ∧ serialOk volA = true ∧ volA ∉ s.inv.entryInFailed ∧
     (∀ p, s.findPrompt { cls := .entryFull, subject := .volume volA } = some p → p.state ≠ .acked) ∧
     (after (.labelRead (xfer 0) 0 (some (.volume volA))) s).inv.cells = s.inv.cells) ∧
    (let e := { atEntry0 with volume := volB, slot := some 11 }
     let s := { served with inv := { served.inv with cells := [.occupied (some volB), .empty, .empty, .empty], entries := [e, reel] } }
     s.cellAt 0 = .occupied (some volB) ∧ volA ≠ volB ∧ s.findEntry volB = some e ∧ e.state = .atEntry 0 ∧ e.retired = false ∧
     let z := (({ s with inv := { s.inv with cells := [.occupied none, .empty, .empty, .empty] } } : State).cellFoundOther volB 0).settle
     s.arm.queue = [] ∧ z.findEntry volA = some reel ∧ reel.state ≠ .missing ∧ z.sys.mode ≠ .init ∧ z.panel.prompts = [] ∧
     z.sys.startup.promptSettle ≠ 0 ∧
     (after (.labelRead (xfer 0) 0 (some (.volume volA))) s).inv.entries.map Entry.state = [.missing, .home] ∧
     (after (.labelRead (xfer 0) 0 (some (.volume volA))) s).panel.prompts.map Prompt.key = [{ cls := .misplaced, subject := .volume volA }]) ∧
    (3 < 4 ∧ serialOk ['a'] = false ∧ (after (.labelRead (xfer 0) 4 (some .empty)) served).port.reply.code = .badValue ∧
     (after (.labelRead (xfer 0) 0 (some (.volume ['a']))) served).port.reply.code = .badValue) := by decide +kernel

theorem met_LabelReadByCell_displaced :
    (let s := withCell (.expecting volA .ret) served
     s.lowestEmptyCell = some 1 ∧ (∀ o, s.arm.inFlight = some o → o.loc ≠ .entry 0) ∧
     (after (.labelRead (xfer 0) 0 (some .noLabel)) s).inv.cells = [.occupied none, .expecting volA .ret, .empty, .empty]) ∧
    (let k := { shownFull with cls := .shelfFetch, state := .acked, detail := none }
     let s := withPrompt k { served with inv := { served.inv with
       cells := [.expecting volA .shelf, .occupied none, .occupied none, .occupied none] } }
     s.cellAt 0 = .expecting volA .shelf ∧ s.lowestEmptyCell = none ∧ s.findPrompt { cls := .shelfFetch, subject := .volume volA } = some k ∧
     s.acct.stationTime - k.raised < 60 * s.sys.startup.escalateTime ∧
     (after (.labelRead (xfer 0) 0 (some .noLabel)) s).panel.prompts.map Prompt.state = [.shown]) := by decide

/-- R3, R13: the arrival reservation of a displaced shelf fetch still holds the last room when the reel in its cell is handled. -/
theorem met_LabelReadByCell_shelf_displaced :
    let other : Serial := ['C', '0', '0', '0', '0', '3']
    let k := { shownFull with cls := .shelfFetch, state := .acked, detail := none }
    let s := withPrompt k { served with inv := { served.inv with
      cells := [.expecting volA .shelf, .occupied none, .occupied none, .occupied none]
      entries := full.inv.entries.drop 1 } }
    s.cellAt 0 = .expecting volA .shelf ∧ s.lowestEmptyCell = none ∧ s.findEntry other = none ∧ s.tableRoom = 0 ∧
    s.sys.mode ≠ .init ∧ s.panel.prompts.length < 16 ∧ s.findPrompt { cls := .entryFull, subject := .volume other } = none ∧
    s.sys.startup.promptSettle ≠ 0 ∧ s.findPrompt { cls := .shelfFetch, subject := .volume volA } = some k ∧
    s.acct.stationTime - k.raised < 60 * s.sys.startup.escalateTime ∧
    (after (.labelRead (xfer 0) 0 (some (.volume other))) s).panel.prompts.map (fun p => (p.cls, p.state)) =
      [(.shelfFetch, .shown), (.entryFull, .settling)] := by decide +kernel

/-- R13, R44: the requests of a reel displaced from its cell fail before the reel in its place is handled. -/
theorem test_a_displaced_reel_fails_its_request_first :
    let e := { atEntry0 with reservation := some { req := r1, kind := .held } }
    let s := { withReq { asked with state := .standby, reel := some volA } served with
      sys := { served.sys with startup := { served.sys.startup with promptSettle := 0 } }
      inv := { served.inv with cells := [.occupied (some volA), .empty, .empty, .empty],
                               entries := [e, { reel with volume := volB, slot := some 11 }] } }
    (after (.labelRead (xfer 0) 0 (some (.volume volB))) s).port.reports.map Report.body =
      [.request r1 5 (.failed .reelMissing), .prompt .raised .misplaced (.volume volB) [] none] := by decide +kernel

theorem met_TheAuditAndItsEnd :
    (Ready (xfer 0) 5 served ∧ InService served ∧ served.sys.mode ≠ .init ∧ (xfer 0).part = 0 ∧ served.inv.bay ≠ .audit ∧
      (after (.slotReport (xfer 0) 511 (some .empty)) served).port.reply.code = .notNow) ∧
    (Ready (xfer 0) 5 audit ∧ InService audit ∧ audit.inv.bay = .audit ∧ (after (.endAudit (xfer 0)) audit).inv.bay = .normal) ∧
    (511 < audit.sys.startup.slotCount ∧ audit.slotEntry 511 = none ∧ serialOk volA = true ∧ audit.findEntry volA = none ∧
      1 ≤ audit.tableRoom ∧ (after (.slotReport (xfer 0) 511 (some (.volume volA))) audit).inv.entries.map Entry.slot = [some 511]) ∧
    (let s := withReel reel audit
     Ready (xfer 0) 5 s ∧ s.inv.bay = .audit ∧ 10 < s.sys.startup.slotCount ∧ s.slotEntry 10 = some reel ∧ reel.state = .home ∧
     serialOk reel.volume = true ∧ s.rm.queue = [] ∧
     (after (.slotReport (xfer 0) 10 (some .empty)) s).inv.entries.map Entry.state = [.missing]) := by decide

/-- R15: the requests of a reel not found in its slot fail before the reel found there is handled. -/
theorem met_TheAuditAndItsEnd_displaced :
    (let s := withReel reel audit
     s.slotEntry 10 = some reel ∧ serialOk volB = true ∧ volB ≠ reel.volume ∧ s.rm.queue = [] ∧ s.panel.prompts = [] ∧
     s.sys.startup.promptSettle ≠ 0 ∧
     (after (.slotReport (xfer 0) 10 (some (.volume volB))) s).panel.prompts.map Prompt.cls = [.misplaced]) ∧
    (let s := withReq { asked with state := .standby, reel := some volA } (withReel reel { audit with
       sys := { audit.sys with startup := { audit.sys.startup with promptSettle := 0 } } })
     (after (.slotReport (xfer 0) 10 (some (.volume volB))) s).port.reports.map Report.body =
       [.request r1 5 (.failed .reelMissing), .prompt .raised .misplaced (.volume volB) [] none]) := by decide +kernel

theorem test_slot_report_of_a_foreign_volume_shape :
    (after (.slotReport (xfer 0) 10 (some (.volume ['a']))) audit).port.reply.code = .badValue := by decide

theorem met_DrivesGoOfflineAndOnline :
    (let s := arm (order .put (.drive 0)) { stow with source := .slot 10, dest := .drive 0 } (withDrive drive served)
     Ready (xfer 0) 1 s ∧ InService s ∧ s.sys.mode ≠ .init ∧ (xfer 0).part = 0 ∧ 0 ≤ 7 ∧ s.findDrive 0 = some drive ∧
     s.arm.inFlight = some (order .put (.drive 0)) ∧ (order .put (.drive 0)).loc = .drive 0 ∧
     (after (.driveOffline (xfer 0) 0) s).port.reply.code = .notNow) ∧
    (let s := withDrive drive served
     Ready (xfer 0) 1 s ∧ s.findDrive 0 = some drive ∧ s.arm.inFlight = none ∧ drive.state = .empty ∧
     (∀ c ∈ s.claim.records, Asker.driveUnit 0 ∉ c.asks) ∧ s.promptStands .cleanDrive (.drive 0) = false ∧ drive.position = .loc ∧
     (after (.driveOffline (xfer 0) 0) s).drv.drives.map Drive.state = [.offline] ∧
     drive.state ≠ .offline ∧ (after (.driveOnline (xfer 0) 0) s).port.reply.code = .notNow) ∧
    (let y := { drive with state := .grace, loaded := some volA, graceExpiry := some 130 }
     let s := withDrive y served
     s.findDrive 0 = some y ∧ y.state = .grace ∧ y.loaded ≠ none ∧ (after (.driveOffline (xfer 0) 0) s).drv.drives.map Drive.loaded = [some volA]) ∧
    (let y := { drive with state := .offline }
     let s := withDrive y served
     s.findDrive 0 = some y ∧ y.state = .offline ∧ y.loaded = none ∧
     (after (.driveOnline (xfer 0) 0) s).drv.drives.map Drive.state = [.empty]) := by decide

/-- An EMPTY boundary drive, held: its use ends with DRIVE OFFLINE (R22), and the YIELD is asked. -/
theorem met_DrivesGoOfflineAndOnline_held :
    (let y := { drive with position := .boundary .right 1 }
     let c := { rec1 with res := .bdrive 2 1, neighbour := 3, holder := .self, own := .held }
     let s := withRec c (withDrive y served)
     Ready (xfer 0) 1 s ∧ InService s ∧ s.findDrive 0 = some y ∧ y.state = .empty ∧ s.posRes y.position = some (.bdrive 2 1) ∧
     s.findRec (.bdrive 2 1) = some c ∧ c.holder = .self ∧ c.own = .held ∧ (∀ z ∈ s.claim.records, Asker.driveUnit 0 ∉ z.asks) ∧
     CanQueue .yield s ∧ (after (.driveOffline (xfer 0) 0) s).claim.records.map ClaimRec.own = [.yielding] ∧
     (after (.driveOffline (xfer 0) 0) s).line.txq.map TxMsg.msg = [.yield { resource := .bdrive 2 1, cradle := none }]) ∧
    (let y := { drive with position := .boundary .right 1, state := .offline }
     let c := { rec1 with res := .bdrive 2 1, neighbour := 3, holder := .self, own := .held, asks := [.move volA] }
     let s := withRec c (withDrive y served)
     (after (.driveOnline (xfer 0) 0) s).claim.records.map ClaimRec.own = [.yielding]) := by decide

theorem met_DrivesGoOfflineAndOnline_serving :
    (let q := { asked with state := .moving, reel := some volA, drive := some 0 }
     let y := { drive with state := .reserved, serving := some (.request r1) }
     let s := { withReq q (withDrive y (withReel { reel with state := .inGripper } served)) with
       arm := { served.arm with current := some { fetchMount with stage := .putNext } } }
     Ready (xfer 0) 1 s ∧ InService s ∧ s.findDrive 0 = some y ∧ y.state = .reserved ∧ y.serving = some (.request r1) ∧ s.findReq r1 = some q ∧
     q.hopExpiry = none ∧ q.cancelPending = false ∧
     s.arm.current = some { fetchMount with stage := .putNext } ∧ (s.findEntry volA).map Entry.home = some .here ∧
     (after (.driveOffline (xfer 0) 0) s).drv.drives.map Drive.state = [.offline] ∧
     (after (.driveOffline (xfer 0) 0) s).arm.current.map Move.dest = some (.slot 10) ∧
     (after (.driveOffline (xfer 0) 0) s).arm.current.bind Move.req = some r1) ∧
    (let y := { drive with state := .reserved, serving := some .cleaning, cleaningReel := some volA }
     let s := withDrive y served
     s.findDrive 0 = some y ∧ y.state = .reserved ∧ y.serving = some .cleaning ∧
     (after (.driveOffline (xfer 0) 0) s).drv.drives.map Drive.state = [.offline]) ∧
    (let y := { drive with state := .cleaning, loaded := some volA, serving := some .cleaning, cleaningStart := some 10, cleaningEnd := some 130 }
     let s := withDrive y served
     s.findDrive 0 = some y ∧ y.state = .cleaning ∧ y.loaded = some volA ∧ y.cleaningStart = some 10 ∧
     (after (.driveOffline (xfer 0) 0) s).acct.closed.map ClosedSession.driveLost = [true]) := by decide

/-- R53: the TAKE_IN of a request whose drive went OFFLINE stays, queued or waiting for room, and the request is in STANDBY. -/
theorem met_DrivesGoOfflineAndOnline_takeIn :
    let q := { asked with state := .moving, reel := some volA, drive := some 0 }
    let y := { drive with state := .reserved, serving := some (.request r1) }
    let m := { fetchMount with kind := .takeIn, source := .hatch .left, stage := .queued }
    let s := withReq q (withDrive y (withReel { reel with state := .inHatch .left, reservation := some { req := r1, kind := .held } } served))
    let t := { s with arm := { s.arm with queue := [m] } }
    let w := withReq { q with state := .standby, roomWait := some .takeIn } { s with arm := { s.arm with queue := List.replicate 8 stow } }
    t.findReq r1 = some q ∧ q.hopExpiry = none ∧ q.cancelPending = false ∧ t.arm.current = none ∧
    (after (.driveOffline (xfer 0) 0) t).arm.queue.map Move.kind = [.takeIn] ∧
    (after (.driveOffline (xfer 0) 0) t).rm.queue.map Request.drive = [none] ∧
    w.findDrive 0 = some y ∧ (after (.driveOffline (xfer 0) 0) w).rm.queue.map Request.roomWait = [some .takeIn] ∧
    (after (.driveOffline (xfer 0) 0) w).rm.queue.map Request.drive = [none] := by decide

theorem met_DrivesGoOfflineAndOnline_loaded :
    (let y := { drive with state := .idleLoaded, loaded := some volA }
     let s := withDrive y served
     s.findDrive 0 = some y ∧ y.state = .idleLoaded ∧ (after (.driveOffline (xfer 0) 0) s).drv.drives.map Drive.loaded = [some volA]) ∧
    ((mounted.findDrive 0).bind Drive.session = some session1 ∧ (mounted.findDrive 0).bind Drive.loaded ≠ none ∧ session1.req = r1 ∧ (mounted.findReq r1).map Request.role = some .own ∧
      r1.origin = mounted.sys.startup.stationNumber ∧
      (∀ w ∈ mounted.drv.drives, w.serving = some (.request r1) → w.address = 0) ∧
      (after (.driveOffline (xfer 0) 0) mounted).acct.closed.map ClosedSession.driveLost = [true] ∧
      (after (.driveOffline (xfer 0) 0) mounted).drv.drives.map Drive.state = [.offline]) ∧
    (let y := { drive with state := .offline, loaded := some volA }
     let e := { reel with state := .onDrive 0 }
     let s := withDrive y (withReel e served)
     s.findDrive 0 = some y ∧ y.state = .offline ∧ y.loaded = some volA ∧ y.position = .loc ∧ s.findEntry volA = some e ∧ e.home = .here ∧
     e.slot = some 10 ∧ e.retired = false ∧ s.hasMove volA = false ∧ s.arm.queue.length < 8 ∧
     (after (.driveOnline (xfer 0) 0) s).drv.drives.map Drive.state = [.idleLoaded]) ∧
    (let s := withDrive { drive with state := .offline } served
     s.promptStands .cleanDrive (.drive 0) = false ∧ after (.driveOffline (xfer 0) 0) s =
       { s with port := (after (.driveOffline (xfer 0) 0) s).port }) := by decide

/-- R25, R34: a CLEAN move that fails on a held boundary drive leaves it EMPTY with CLEAN_DRIVE and its YIELD asked, though a reel stands
free. -/
theorem test_failed_cleaning_of_a_boundary_drive :
    let y := { drive with position := .boundary .right 1, state := .reserved, serving := some .cleaning, cleaningReel := some volA,
                          cleanDue := true }
    let c := { rec1 with res := .bdrive 2 1, neighbour := 3, holder := .self, own := .held }
    let e := { reel with pool := some 15 }
    let s := arm (order .get (.slot 10)) { fetch with kind := .clean, dest := .drive 0 } (withRec c (withDrive y
      { served with inv := { served.inv with entries := [e, { e with volume := volB, slot := some 11 }] },
                    arm := { served.arm with retryCounter := 16 } }))
    let t := after (.orderFault (xfer 0) 7 (some .gripper)) s
    t.drv.drives.map Drive.state = [.empty] ∧ t.claim.records.map ClaimRec.own = [.yielding] ∧ t.claim.records.map ClaimRec.asks = [[]] ∧
    t.panel.prompts.map Prompt.cls = [.cleanDrive, .armAttention] ∧ t.arm.queue = [] := by decide +kernel

/-- R138: an answered order in STANDALONE gives up a hatch that was kept for it, and none that a HANDOFF brought since (R135). -/
theorem test_answers_in_standalone :
    let c := { rec1 with holder := .self, own := .held, cradle := .volume volB }
    let s := fun k => withRec { c with alone := k } { putting with sys := alone.sys }
    (after (.orderDone (xfer 0) 7 none) (s false)).claim.records.map ClaimRec.own = [.held] ∧
    (after (.orderDone (xfer 0) 7 none) (s true)).claim.records.map ClaimRec.own = [.yielding] := by decide +kernel

theorem met_RecordsAreRead :
    (let s := withReel reel served
     s.sys.resetHeld = false ∧ s.agenda = [] ∧ InService s ∧ 7 ≤ (xfer 0).count ∧ serialOk volA = true ∧
     0 < (packParts (w1 1 :: wEntry reel)).length ∧ s.findEntry volA = some reel ∧
     (after (.readReel (xfer 0) (some volA) none none) s).port.reply.code = .ok) ∧
    (511 < served.sys.startup.slotCount ∧ 511 ≤ 511) ∧
    (3 ≤ 3 ∧ 0 < (packParts (wCell (served.cellAt 3))).length ∧
      (after (.readReel (xfer 0) none none (some 3)) served).port.reply.code = .ok) ∧
    (let s := withDrive drive served
     1 ≤ (xfer 1).count ∧ 7 ≤ 7 ∧ 1 < (packParts (w1 1 :: wDrive drive ++ [w3 0, w3 0])).length ∧ s.findDrive 0 = some drive ∧
     (after (.readDrive (xfer 1) 0) s).port.reply.code = .ok) ∧
    (let s := withReq asked served
     2 ≤ (xfer 0).count ∧ reqOk r1 = true ∧ s.findReq r1 = some asked ∧ 0 < (packParts (wRequest asked ++ [w1 1])).length ∧
     (after (.queryRequest (xfer 0) r1) s).port.reply.code = .ok) := by decide

theorem met_RecordsAreRead_slot :
    (after (.readReel (xfer 0) none (some 511) none) served).port.reply.code = .ok := by decide +kernel

/-- A volume alone, or a slot alone, or a cell alone (R18; log entry 27). -/
theorem test_read_reel_names_one_thing :
    (after (.readReel (xfer 0) (some volA) (some 10) none) served).port.reply.code = .badValue := by decide

/-- R67, R75: a PUT redirected by DRIVE OFFLINE still serves its request, which fails ARM_FAULT with it. -/
theorem test_a_redirected_put_fails_its_request :
    (let s := after (.driveOffline (xfer 0) 0) carrying
     let t := after (.orderFault (xfer 0) 8 (some .gripper)) { s with arm := { s.arm with retryCounter := 16 } }
     s.arm.inFlight.map Order.loc = some (.slot 10) ∧ s.rm.queue.map Request.state = [.standby] ∧
     t.port.reports.map Report.body = [.request r1 5 (.failed .armFault)]) := by decide +kernel

/-- R11: a retired reel that waits in the hatch leaves by a cell. -/
theorem test_a_retired_reel_is_taken_in_to_a_cell :
    (let q := { asked with state := .standby, reel := some volA, roomWait := some .takeIn }
     let s := withReq q (withReel { reel with retired := true, state := .inHatch .left } served)
     let t := s.startMove r1 .takeIn
     t.moves.map Move.dest = [.entry 0] ∧ t.inv.cells = [.expecting volA .retire, .empty, .empty, .empty]) := by decide

/-- R12: a PUT to one cell leaves the volume's expectation of another purpose. -/
theorem test_a_put_leaves_the_shelf_expectation :
    (let s := { served with inv := { served.inv with cells := [.expecting volA .shelf, .expecting volA .ring, .empty, .empty] } }
     (s.putToCell { fetch with dest := .entry 1, purpose := some .ring } 1).inv.cells =
       [.expecting volA .shelf, .occupied (some volA), .empty, .empty]) := by decide

/-- R13: a slot that becomes free enters the volume in its cell, whatever the detail of its ENTRY_FULL prompt. -/
theorem test_a_free_slot_enters_the_reel :
    (let s := withPrompt shownFull (withCell (.occupied (some volA)) served)
     s.serveSlots.inv.entries.map Entry.state = [.atEntry 0] ∧ s.serveSlots.panel.prompts = []) := by decide +kernel

/-- R4, R180: a homed reel in the gripper has no location detail; a visiting one has. -/
theorem test_a_reel_in_the_gripper_has_no_detail :
    wLocation { reel with state := .inGripper } = w1 0 ++ w1 0 ∧
    wLocation { reel with home := .station 1, state := .inGripper } = w1 2 ++ w1 0 := by decide

/-- R180: a list value is sent as its place, counted from 1: Prompt Pending clear, then PROMPT. -/
theorem test_prompt_pending_is_a_place :
    let place := fun (c : Option PendCause) => (wRequest { asked with promptPending := c }).getD (18 + (wWant asked.want).length) (w1 0)
    place none = w1 1 ∧ place (some .cell) = w1 2 ∧ place (some (.prompt .ringIn (.volume volA) none)) = w1 3 := by decide

/-- R35: a CLEAN_DRIVE prompt is withdrawn as the drive becomes RESERVED for cleaning. -/
theorem test_cleaning_withdraws_its_prompt :
    let k := { shownFull with cls := .cleanDrive, subject := .drive 0, detail := none }
    let t := (withPrompt k (withDrive { drive with cleanDue := true } (withReel { reel with pool := some 15 } served))).beginCleaning 0
    t.panel.prompts = [] ∧ t.drv.drives.map Drive.state = [.reserved] := by decide

/-- R57, R106: a request whose SEEK met a full queue waits with Line Wait at a planning pass in STANDALONE. -/
theorem test_a_seek_not_sent_waits_for_the_line :
    ((withReq { asked with state := .locating } alone).planLine).rm.queue.map Request.lineWait = [true] := by decide

/-- R68: a CLEAN that waited for room and whose reel is MISSING by then is not queued; the drive is EMPTY again, and is cleaned by hand. -/
theorem test_a_changed_clean_is_not_asked :
    let d := { drive with cleanDue := true, state := .reserved, serving := some .cleaning, cleaningReel := some volA }
    let t := ((withDrive d (withReel { reel with pool := some 15, state := .missing } served)).cleanMove 0).settle
    t.arm.queue = [] ∧ t.drv.drives.map Drive.state = [.empty] ∧ t.panel.prompts.map Prompt.cls = [.cleanDrive] := by decide

/-- R68: a MOUNT that waited for room and whose reel a RETIRE_OUT took gives up its drive. -/
theorem test_a_changed_mount_is_not_asked :
    let q := { asked with state := .standby, reel := some volA, drive := some 0, roomWait := some .mount }
    let t := (withReq q (withDrive { drive with state := .reserved, serving := some (.request r1) }
      (arm (order .get (.slot 10)) fetch (withReel { reel with state := .inGripper } served)))).startMove r1 .mount
    t.rm.queue.map Request.drive = [none] ∧ t.drv.drives.map Drive.state = [.empty] ∧ t.arm.queue = [] := by decide

/-- R76, R150: a MISPLACED prompt on a slot asks the ENTRY_IN of the slot's reel only where that reel waits for it. -/
theorem test_a_slot_prompt_asks_only_what_waits :
    let p := { shownFull with cls := .misplaced, subject := .slot 10, detail := none }
    let s := withReel atEntry0 (withCell (.occupied (some volA)) served)
    (s.promptLeft p).moves = [] ∧
    ({ s with inv := { s.inv with slotWaits := [volA] } }.promptLeft p).moves.map Move.kind = [.entryIn] := by decide

/-- R1: the Reel state, the Reservation and the Location detail close a record, in that order. -/
theorem test_the_last_fields_of_a_reel :
    (wEntry { atEntry0 with reservation := some { req := r1, kind := .held } }).drop 11 =
      [w1 5, w1 2 ++ w1 1 ++ w1 2 ++ w3 0, w1 4 ++ w1 0] := by decide

/-! ## Accounts -/

theorem met_ClosedSessionsAreTaken :
    (Ready (xfer 2) 0 charged ∧ InService charged ∧ charged.acct.closed = closed1 :: [] ∧ AsksLast (xfer 2) (w1 1 :: wSession closed1) ∧
      (after (.takeSession (xfer 2)) charged).acct.closed = []) ∧
    (Ready (xfer 0) 0 served ∧ InService served ∧ (xfer 0).part = 0 ∧ served.acct.closed = [] ∧
      (after (.takeSession (xfer 0)) served).port.reply.code = .ok) ∧
    (let s := { charged with acct := { charged.acct with staleLeft := 0, sessionsLost := 255, lostOverflow := true } }
     s.acct.closed = closed1 :: [] ∧ s.acct.staleLeft = 0 ∧ (after .staleTimerExpiry s).acct.staleLeft = 900 ∧
     (after (.readLost (xfer 0)) s).acct.sessionsLost = 0) := by decide

/-- Account 17 at 1,222.866 and the station at 5,000.100. -/
def banked : State :=
  { served with acct := { served.acct with
    accounts := served.acct.accounts.set 17 { units := 1222, milli := 866, sessions := 2, seconds := 754, saturated := false }
    total := { units := 5000, milli := 100, sessions := 9, seconds := 4000, saturated := false } } }

/-- Chapter 9's clearing: 5,000.100 less 1,222.866 is 3,777.234. -/
theorem met_AccountsAreReadAndCleared :
    (Ready (xfer 0) 1 banked ∧ InService banked ∧ 17 ≤ 63 ∧ 63 ≤ 63 ∧ (xfer 0).part = 0 ∧
      (packParts (wAccount (banked.acct.accounts.getD 17 .zero) ++ wAccount banked.acct.total)).length = 2 ∧
      (after (.readAccount (xfer 0) 17) banked).port.reply.code = .ok) ∧
    (AsksLast (xfer 1) (wAccount (banked.acct.accounts.getD 17 .zero) ++ wAccount banked.acct.total) ∧
      (after (.clearAccount (xfer 1) 17) banked).acct.total.units = 3777 ∧
      (after (.clearAccount (xfer 1) 17) banked).acct.total.milli = 234 ∧
      (after (.clearAccount (xfer 1) 17) banked).acct.total.sessions = 9) ∧
    (63 < 64 ∧ (after (.readAccount (xfer 0) 64) banked).port.reply.code = .badValue) ∧
    (Ready (xfer 0) 1 alone ∧ alone.sys.mode = .standalone ∧ (after (.readBands (xfer 0)) alone).port.reply.code = .notNow) ∧
    (after (.readBands (xfer 2)) banked).port.reply.code = .ok := by decide

/-- Chapter 9's worked charge: 1,204.875 and 17,991 milliunits are 1,222.866. -/
theorem test_charge_added :
    (let a : Account := { units := 1204, milli := 875, sessions := 1, seconds := 0, saturated := false }
     let b := a.addSession 17991 754
     (b.units, b.milli, b.sessions, b.seconds) = (1222, 866, 2, 754)) := by decide

/-- The greatest value, and one more milliunit. -/
theorem met_ChargesAddExactly :
    (let a : Account := { units := 4294967295, milli := 998, sessions := 0, seconds := 0, saturated := false }
     a.milli ≤ 999 ∧ a.saturated = false ∧ Account.value a + 1 < 4294967296000 ∧ 4294967296000 ≤ Account.value a + 2 ∧
     (a.addSession 1 0).saturated = false ∧ (a.addSession 2 0).saturated = true) ∧
    (let a : Account := { units := 4294967295, milli := 999, sessions := 0, seconds := 0, saturated := true }
     a.milli ≤ 999 ∧ a.saturated = true) ∧
    63 < served.acct.accounts.length := by decide

/-- Chapter 9's worked charge: 120, 300 and 334 seconds at 640, 950 and 1,475, WRITE, one prompt. -/
theorem test_worked_charge :
    charge { StartUp.powerOn with rate0 := 640, rate1 := 950, rate2 := 1475, rate3 := 2400, mountFee := 2000, ringFee := 500, operatorFee := 1250 }
      { session1 with t0 := 120, t1 := 300, t2 := 334, t3 := 0, write := true } 1 = 17991 := by decide

/-- Chapter 9's session at the limits: both cases of the limit are met. -/
theorem met_ChargeOfASession :
    (let c := { StartUp.powerOn with rate0 := 65535, rate1 := 65535, rate2 := 65535, rate3 := 65535 }
     charge c { session1 with t0 := 0, t2 := 16777215 } 0 = 4294967295 ∧
     chargeSaturated c { session1 with t0 := 0, t2 := 16777215 } 0 = true ∧ chargeSaturated c session1 0 = false) := by decide

theorem met_SecondTickCounts :
    (State.reset.acct.nextSecond = none ∧ served.acct.nextSecond = some 1000 ∧ served.sys.mode ≠ .init ∧
      (after .secondTick served).acct.stationTime = 101 ∧ (after .secondTick served).acct.bandEntries = [1, 0, 0, 0]) ∧
    (let s := { served with sys := { served.sys with mode := .init }, acct := { served.acct with stationTime := 4294967295 } }
     s.acct.nextSecond = some 1000 ∧ s.sys.mode = .init ∧ (after .secondTick s).acct.stationTime = 4294967295 ∧
     (after .secondTick s).acct.bandTicks = [0, 0, 0, 0]) ∧
    (session1.t0 ≤ 16777215 ∧ session1.t1 ≤ 16777215 ∧ session1.t2 ≤ 16777215 ∧ session1.t3 ≤ 16777215) := by decide

/-! ## The port and the modes -/

theorem met_LineReportsAndStatusAreRead :
    (let s := { served with line := { served.line with errors := 255, errOverflow := true } }
     Ready (xfer 0) 2 s ∧ InService s ∧
     AsksLast (xfer 0) ([wLine s.line.state, w1 s.line.score, w1 s.line.errors, wFlag s.line.errOverflow] ++
        (List.range 8).map fun p => wRoster (s.rosterAt p).state) ∧
     (after (.readLine (xfer 0) none) s).line.errors = 0) ∧
    (7 ≤ 7 ∧ (xfer 0).part < (packParts (wRosterEntry (served.rosterAt 7) served.sys.clock)).length ∧ 7 < 8 ∧
      (after (.readLine (xfer 0) (some 7)) served).port.reply.code = .ok ∧
      (after (.readLine (xfer 0) (some 8)) served).port.reply.code = .badValue) ∧
    (Ready (xfer 1) 2 reported ∧ reported.port.reports = mountedReport :: [] ∧ AsksLast (xfer 1) (wReport mountedReport)) ∧
    (Ready (xfer 0) 2 served ∧ served.port.reports = [] ∧ (xfer 0).part = 0 ∧
      (after (.takeReport (xfer 0)) served).port.reply.words = []) ∧
    (let s := { served with port := { served.port with reportsLost := 3 } }
     AsksLast (xfer 1) (answered (xfer 1) .ok [] s).statusFields ∧ (after (.readStatus (xfer 1)) s).port.reportsLost = 0) ∧
    (let s := { served with arm := { served.arm with retryCounter := 16 } }
     Ready (xfer 0) 2 s ∧ InService s ∧ (after (.clearRetry (xfer 0)) s).arm.retryCounter = 0) := by decide

def bare : Xfer := { xfer 0 with count := 0 }

theorem met_TransfersWithoutWords :
    (Ready bare 0 audit ∧ (after (.endAudit bare) audit).inv.bay = .normal) ∧
    (Ready bare 0 banked ∧ (after (.readBands { bare with part := 2 }) banked).port.reply.code = .ok) ∧
    (Ready bare 0 reported ∧ (after (.takeReport { bare with part := 1 }) reported).port.reports = []) ∧
    (after (.readStatus { bare with part := 1 }) served).port.reply.code = .ok ∧
    (let s := { served with arm := { served.arm with retryCounter := 16 } }
     Ready bare 0 s ∧ (after (.clearRetry bare) s).arm.retryCounter = 0) ∧
    (let x := { bare with part := 1, count := 1 }
     x.count = 1 ∧ (after (.clearAccount x 17) banked).acct.total.units = 3777) := by decide

theorem met_ResumeEntersActive :
    (Ready (xfer 0) 0 served ∧ (xfer 0).part = 0 ∧ served.sys.mode ≠ .standalone ∧
      (after (.resume (xfer 0)) served).port.reply.code = .notNow) ∧
    (Ready (xfer 0) 0 alone ∧ alone.sys.mode = .standalone ∧ (after (.resume (xfer 0)) alone).sys.mode = .active) := by decide

theorem met_RestartLeavesOrEnds :
    (Ready (xfer 0) 0 duplicated ∧ duplicated.sys.mode = .joining ∧ duplicated.sys.restartPending = false ∧
      duplicated.line.state = .duplicate ∧ (∀ d ∈ duplicated.drv.drives, d.session = none) ∧
      (after (.restart (xfer 0)) duplicated).sys.mode = .init ∧ (after (.restart (xfer 0)) duplicated).port.reportsLost = 0) ∧
    (let s := { duplicated with port := { duplicated.port with reports := List.replicate 32 mountedReport } }
     Ready (xfer 0) 0 s ∧ s.line.state = .duplicate ∧ (after (.restart (xfer 0)) s).port.reportsLost = 1) ∧
    (Ready (xfer 0) 0 served ∧ (xfer 0).part = 0 ∧ served.sys.mode = .active ∧ served.sys.restartPending = false ∧
      served.line.state ≠ .detached ∧ served.line.state ≠ .duplicate ∧ (∀ m ∈ served.line.txq, isPresence m.msg = false) ∧
      served.line.txq.length < 16 ∧ (after (.restart (xfer 0)) served).line.txq.map TxMsg.tag = [.leaving]) := by decide

theorem met_RestartLeavesOrEnds_sessions :
    (let s := { mounted with line := { mounted.line with state := .detached } }
     Ready (xfer 0) 0 s ∧ s.sys.mode = .active ∧ s.sys.restartPending = false ∧ s.line.state = .detached ∧
     (s.drv.drives.map Drive.address).Nodup ∧
     (after (.restart (xfer 0)) s).acct.closed.map ClosedSession.restartClosed = [true] ∧
     (after (.restart (xfer 0)) s).acct.closed.map ClosedSession.charge = [1600]) := by decide

/-! ## The clock -/

theorem met_SilenceAndListenExpiry :
    (served.agenda = [] ∧ served.sys.mode = .active ∧ served.port.silenceEnd = some 5000 ∧
      (after .silenceTimerExpiry served).sys.mode = .standalone ∧ (after .silenceTimerExpiry served).sys.clock = 5000) ∧
    (joining.agenda = [] ∧ joining.sys.mode = .joining ∧ joining.sys.listenEnd = some 8000 ∧ CanQueue .presence joining ∧
      (∀ m ∈ joining.line.txq, isPresence m.msg = false) ∧ (∀ c ∈ joining.claim.records, c.own ≠ .yielding) ∧
      (after .listenTimerExpiry joining).line.txq.map TxMsg.tag = [.joining]) ∧
    (duplicated.agenda = [] ∧ duplicated.sys.mode = .joining ∧ duplicated.sys.listenEnd = some 8000 ∧ duplicated.line.state = .duplicate ∧
      (after .listenTimerExpiry duplicated).sys.mode = .active) := by decide

theorem met_DriveAndReservationTimers :
    (let y := { drive with state := .grace, graceExpiry := some 100, loaded := some volA }
     let e := { reel with state := .onDrive 0 }
     let s := withDrive y (withReel e served)
     s.agenda = [] ∧ s.findDrive 0 = some y ∧ y.state = .grace ∧ y.graceExpiry = some 100 ∧ 100 ≤ s.acct.stationTime ∧
     y.position = .loc ∧ y.loaded = some volA ∧ s.findEntry volA = some e ∧ e.home = .here ∧ e.slot = some 10 ∧ e.retired = false ∧
     s.hasMove volA = false ∧ s.arm.queue.length < 8 ∧ (after (.graceExpiry 0) s).drv.drives.map Drive.state = [.idleLoaded] ∧
     (after (.graceExpiry 0) s).arm.inFlight.map Order.loc = some (.drive 0)) ∧
    (let y := { drive with state := .cleaning, cleaningEnd := some 100, cleaningStart := some 10, loaded := some volA, serving := some .cleaning }
     let s := withDrive y (withReel { reel with pool := some 15, state := .onDrive 0 } served)
     s.agenda = [] ∧ s.findDrive 0 = some y ∧ y.state = .cleaning ∧ y.cleaningEnd = some 100 ∧ 100 ≤ s.acct.stationTime ∧
     y.loaded = some volA ∧ y.cleaningStart = some 10 ∧ y.position = .loc ∧
     (after (.cleaningEnd 0) s).acct.closed.map ClosedSession.cleaning = [true]) ∧
    (let e := { reel with reservation := some { req := r9, kind := .timed 700 } }
     let s := withReel e served
     s.findEntry volA = some e ∧ e.reservation = some { req := r9, kind := .timed 700 } ∧
     (after (.reservationExpiry volA) s).inv.entries.map Entry.reservation = [none]) := by decide

theorem met_RequestTimers :
    (let q := { asked with state := .locating, deadline := some 100 }
     let s := withReq q served
     s.agenda = [] ∧ s.findReq r1 = some q ∧ q.armed = true ∧ q.late = false ∧ q.deadline = some 100 ∧ 100 ≤ s.acct.stationTime ∧
     q.role = .own ∧ r1.origin = s.sys.startup.stationNumber ∧ q.lineWait = false ∧ (∀ p ∈ s.panel.prompts, r1 ∉ p.links) ∧
     (after (.deadlinePassed r1) s).rm.queue.map Request.late = [true]) ∧
    (let q := { asked with req := r9, role := .takenIn, state := .hopping, hopExpiry := some 100, drive := some 0 }
     let y := { drive with state := .reserved, serving := some (.request r9) }
     let s := withReq q (withDrive y served)
     s.agenda = [] ∧ s.findReq r9 = some q ∧ q.role = .takenIn ∧ q.state = .hopping ∧ q.hopExpiry = some 100 ∧ 100 ≤ s.acct.stationTime ∧
     (s.drv.drives.filter fun z => decide (z.serving = some (.request r9))) = [y] ∧ y.address = 0 ∧ s.findDrive 0 = some y ∧
     y.state = .reserved ∧ (∀ e ∈ s.inv.entries, e.reservation = none) ∧ (∀ c ∈ s.claim.records, Asker.request r9 ∉ c.asks) ∧
     (after (.hopExpiry r9) s).rm.queue = []) ∧
    (let q := { proxy with forwardDue := some 100 }
     let s := withReq q served
     s.agenda = [] ∧ s.findReq r1 = some q ∧ q.role = .proxy ∧ q.forwardDue = some 100 ∧ 100 ≤ s.acct.stationTime ∧ s.sys.mode = .active ∧
     q.server = some 1 ∧ q.releaseUnsent = false ∧ CanQueue .ask s ∧
     (after (.forwardCheck r1) s).rm.queue.map Request.forwardDue = [some 130]) := by decide

/-! ## The operator -/

theorem met_DoorEvents :
    (served.agenda = [] ∧ served.sys.resetHeld = false ∧ served.panel.doorIsOpen = false ∧
      (after (.doorChange true) served).inv.bay = .doorOpen ∧ (after (.doorChange true) served).panel.doorLimitEnd = some 600000) ∧
    (let s := after (.doorChange true) served
     s.agenda = [] ∧ s.sys.resetHeld = false ∧ s.panel.doorIsOpen = true ∧ (after (.doorChange false) s).inv.bay = .audit) ∧
    (let s := after (.doorChange true) served
     s.panel.doorLimitEnd = some 600000 ∧ s.sys.mode ≠ .init ∧ s.panel.prompts.length < 16 ∧
     s.findPrompt { cls := .doorLong, subject := .door } = none ∧ s.sys.startup.promptSettle ≠ 0 ∧
     (after .doorLimitExpiry s).panel.prompts.map Prompt.cls = [.doorLong]) ∧
    (let s := after (.doorChange true) State.reset
     s.agenda = [] ∧ s.panel.doorLimitEnd = some 600000 ∧ s.sys.mode = .init ∧ (after .doorLimitExpiry s).panel.doorExpired = true) := by
  decide

theorem met_DoorEvents_reports :
    (∀ c ∈ served.claim.records, c.own ≠ .yielding) ∧
    (after (.doorChange true) served).port.reports.map Report.body = [.door true] ∧
    (after (.doorChange false) (after (.doorChange true) served)).port.reports.map Report.body = [.door true, .auditNeeded, .door false] := by
  decide

theorem met_PromptTimers :
    (let s := withPrompt entryFull served
     s.agenda = [] ∧ s.findPrompt entryFull.key = some entryFull ∧ entryFull.state = .settling ∧ entryFull.settleEnd = some 5000 ∧
     (after (.settleEnd .entryFull (.volume volA)) s).panel.prompts.map Prompt.state = [.shown]) ∧
    (let s := { withPrompt shownFull served with acct := { served.acct with stationTime := 700 } }
     s.agenda = [] ∧ s.findPrompt shownFull.key = some shownFull ∧ shownFull.state = .shown ∧ shownFull.escalated = false ∧
     60 * s.sys.startup.escalateTime ≤ s.acct.stationTime - shownFull.raised ∧
     (after (.promptAgeEscalation .entryFull (.volume volA)) s).panel.lamp = .fast) := by decide

def pressed (p : Prompt) : State :=
  { withPrompt p served with panel := { (withPrompt p served).panel with
    ackPress := some { since := 10, target := some p.key }, nextPress := some { since := 20, target := none } } }

theorem met_ButtonsActOnTheirTarget :
    (served.agenda = [] ∧ served.sys.resetHeld = false ∧ served.panel.ackPress = none ∧ served.panel.nextPress = none ∧
      (after (.buttonPress .ack) served).panel.ackPress.map Press.since = some 0 ∧
      (after (.buttonPress .next) served).panel.nextPress.map Press.since = some 0) ∧
    (let s := pressed shownFull
     s.agenda = [] ∧ s.panel.ackPress = some { since := 10, target := some shownFull.key } ∧ s.findPrompt shownFull.key = some shownFull ∧
     shownFull.cls = .entryFull ∧ shownFull.state = .shown ∧ shownFull.links = [] ∧
     (after .ackShort s).panel.prompts.map Prompt.acks = [1] ∧ (after .ackShort s).sys.clock = 40 ∧
     (after .ackLong s).panel.prompts.map Prompt.state = [.acked] ∧ (after .ackLong s).sys.clock = 1510) ∧
    (let p := { shownFull with cls := .cleanDrive, subject := .drive 0, detail := none }
     let s := pressed p
     s.panel.ackPress = some { since := 10, target := some p.key } ∧ s.findPrompt p.key = some p ∧ p.cls = .cleanDrive ∧
     p.state ≠ .settling ∧ (after .ackLong s).panel.prompts = []) ∧
    (let p := { entryFull with cls := .cleanDrive, subject := .drive 0, detail := none }
     let s := pressed p
     s.findPrompt p.key = some p ∧ p.state = .settling ∧ (after .ackLong s).panel.prompts = [p] ∧
     (after .ackLong s).port.reports = [] ∧ (after .ackShort s).panel.prompts = [p]) ∧
    (let s := { pressed shownFull with panel := { (pressed shownFull).panel with prompts := [] } }
     s.panel.ackPress = some { since := 10, target := some shownFull.key } ∧ s.findPrompt shownFull.key = none ∧
     (after .ackShort s).panel.ackPress = none) ∧
    ((pressed shownFull).panel.nextPress = some { since := 20, target := none } ∧
      (pressed shownFull).panel.cursor = some shownFull.key ∧ (after .nextShort (pressed shownFull)).panel.nextPress = none ∧
      (after .nextLong (pressed shownFull)).sys.clock = 1520) := by decide

/-- R151: released at 1,510 ms, 1,500 after its edge, a press is long; at 1,509 ms it has 149 steps. -/
theorem met_ButtonsActOnTheirTarget_judged :
    judgedLong 10 1510 served = true ∧ judgedLong 10 1509 served = false ∧
    (let s := { pressed shownFull with sys := { served.sys with clock := 1510 } }
     (after .ackShort s).port.reports.map Report.body = [.prompt .declined .entryFull (.volume volA) [] none] ∧
     (after .ackLong s).port.reports.length = 1) ∧
    (after .ackShort (pressed shownFull)).port.reports.map Report.body = [.prompt .acked .entryFull (.volume volA) [] (some 1)] ∧
    served.panel.ackPress = none ∧ after .ackLong served = served ∧ after .nextShort served = served ∧
    (let s := { pressed shownFull with panel := { (pressed shownFull).panel with cursor := none } }
     s.panel.nextPress = some { since := 20, target := none } ∧ (after .nextShort s).panel.nextPress = none) := by decide

/-- R11, R13, R147: the ACK of a RETIRE_REEL empties the cell to which the expectation of the reel's return has moved, and keeps the reel that
lies in its old cell. -/
theorem test_retire_acknowledged_while_another_cell_expects_the_reel :
    let p := { shownFull with cls := .retireReel, detail := none }
    let s := { withReel { atEntry0 with retired := true } (pressed p) with
      inv := { (withReel { atEntry0 with retired := true } (pressed p)).inv with
        cells := [.occupied (some volB), .empty, .expecting volA .ret, .empty] } }
    (after .ackShort s).inv.entries = [] ∧ (after .ackShort s).panel.prompts = [] ∧
    (after .ackShort s).inv.cells = [.occupied (some volB), .empty, .empty, .empty] := by decide +kernel

/-! ## The line -/

/-- A PRESENCE body of no byte makes 43 bits, one of two bytes 61 (R82). -/
theorem test_frame_lengths :
    (frameBits .presence 2 []).length = 43 ∧ (frameBits .presence 2 [0x12#8, 0xFF#8]).length = 61 := by decide

/-- The Check is that of the generator with an all-ones start: of the eight zero bits it is E1F0. -/
theorem test_check_of_zeros : checkOf (List.replicate 8 false) = 0xE1F0#16 := by decide

def seekBody : SeekBody := { req := r1, want := .volume volA, access := .read, classWish := none }
def seeking : TxMsg := { msg := .seek seekBody, attempts := 2, onLine := true, withdrawn := false, tag := .plain }
def sending : State :=
  withReq { asked with state := .locating, phase := .seeking }
    { served with line := { served.line with txq := [seeking], score := 24, state := .caution } }

theorem head_on_line : HeadOnLine seeking [] sending := ⟨rfl, rfl, by decide, rfl, rfl⟩

theorem met_AttemptsAtTheHead :
    (let s := { sending with line := { sending.line with txq := [{ seeking with onLine := false }] } }
     s.agenda = [] ∧ (∀ n ∈ s.line.txq, n.onLine = false) ∧ s.sys.mode ≠ .init ∧ s.permits MsgKind.seek = true ∧
     isPresence seeking.msg = false ∧ (after .frameSendStart s).line.txq.map TxMsg.onLine = [true]) ∧
    ((after .contentionLost sending).line.txq.map TxMsg.onLine = [false] ∧
      (after .contentionLost sending).line.txq.map TxMsg.attempts = [2]) ∧
    (seeking.attempts < 3 ∧ Scored sending ∧ lineByScore .caution 32 = .caution ∧ (after .transmitFault sending).line.score = 32 ∧
      (after .transmitFault sending).line.txq.map TxMsg.attempts = [3]) ∧
    ((∀ e ∈ sending.line.roster, e.state ≠ .present) ∧ sending.line.score ≤ 127 ∧ lineByScore .caution 24 = .caution ∧
      (after .attemptUnwitnessed sending).line.score = 24) ∧
    (let s := { sending with line := { sending.line with score := 25 } }
     Scored s ∧ seeking.msg = .seek seekBody ∧ (s.findReq seekBody.req).map Request.phase = some .seeking ∧
     lineByScore .caution 24 = .caution ∧ (after .attemptWitnessed s).rm.queue.map Request.windowEnd = [some 200]) := by decide

/-- A message on the line, alone in the queue of `s`, on a CAUTION line with score 25. -/
def onAir (m : Msg) (s : State) : State :=
  { s with line := { s.line with txq := [{ msg := m, attempts := 3, onLine := true, withdrawn := false, tag := .plain }], score := 25,
                                 state := .caution } }

theorem on_air (m : Msg) (s : State) :
    HeadOnLine { msg := m, attempts := 3, onLine := true, withdrawn := false, tag := .plain } [] (onAir m s) :=
  ⟨rfl, rfl, by simp, rfl, rfl⟩

theorem met_AttemptsAtTheHead_witnessed :
    (let b : HoldBody := { resource := .hatch 1, dispute := false, busy := false }
     let c := { rec1 with own := .wanting, asks := [.claimUnit] }
     let s := onAir (.hold b) (withRec c peered)
     s.agenda = [] ∧ Scored s ∧ lineByScore s.line.state (s.line.score - 1) = s.line.state ∧ s.findRec b.resource = some c ∧
     c.holder = .none ∧ (after .attemptWitnessed s).claim.records.map ClaimRec.holder = [.self] ∧
     (after .attemptWitnessed s).line.txq = []) ∧
    (let b : HoldBody := { resource := .hatch 1, dispute := true, busy := false }
     let c := { rec1 with holder := .self, own := .held, dispute := .sent }
     let s := onAir (.hold b) (withRec c peered)
     s.findRec b.resource = some c ∧ (after .attemptWitnessed s).claim.records = [c]) ∧
    (let b : YieldBody := { resource := .hatch 1, cradle := none }
     let c := { rec1 with holder := .self, own := .yielding }
     let s := onAir (.yield b) (withRec c peered)
     s.findRec b.resource = some c ∧ c.dispute ≠ .conflict ∧ (∀ z ∈ s.claim.records, z.res = b.resource → z = c) ∧
     (after .attemptWitnessed s).claim.records = [rec1]) ∧
    (let b : YieldBody := { resource := .hatch 1, cradle := none }
     let c := { rec1 with holder := .peer }
     let s := onAir (.yield b) (withRec c peered)
     s.findRec b.resource = some c ∧ c.own ≠ .yielding ∧ (after .attemptWitnessed s).claim.records = [c]) ∧
    (let b : PlaceBody := { target := 1, req := r1, want := .volume volA, reel := volA, reelClass := 1, access := .read, classWish := none,
                            priority := 3, account := 9, minutes := 0, late := false, hop := 0, viaHatch := false, promptAcks := 0 }
     let q := { asked with state := .locating, phase := .placing, placeTarget := some 1 }
     let s := onAir (.place b) (withReq q peered)
     s.findReq b.req = some q ∧ (∀ z ∈ s.rm.queue, z.req = b.req → z = q) ∧ q.phase = .placing ∧ q.placeTarget = some b.target ∧
     (after .attemptWitnessed s).rm.queue.map Request.waitEnd = [some 4000]) := by decide

/-- The reel of `e` in the left hatch, its HANDOFF on the line. -/
def handing (e : Entry) (r : Option ReqNo) (q : Request) : State :=
  onAir (.handoff { handoffA with req := r }) (withReq q (withReel e (withRec
    { rec1 with holder := .self, own := .held, asks := r.toList.map Asker.request, cradle := .volume volA, owed := some volA,
                handoffDue := some (match r with
                  | some k => .request k
                  | none => .noRequest) } peered)))

theorem met_AttemptsAtTheHead_handoff :
    (let e := { reel with home := .station 1, slot := none, state := .inHatch .left }
     let s := handing e none asked
     s.agenda = [] ∧ Scored s ∧ (s.findRec (.hatch 1)).isSome = true ∧ s.claim.records.length = 1 ∧ s.findEntry volA = some e ∧
     (∀ z ∈ s.inv.entries, z.volume = volA → z = e) ∧ (after .attemptWitnessed s).inv.entries = [] ∧
     (after .attemptWitnessed s).claim.records.map ClaimRec.holder = [.peer] ∧
     (after .attemptWitnessed s).claim.records.map ClaimRec.handoffDue = [none]) ∧
    (let e := { reel with state := .inHatch .left, reservation := some { req := r1, kind := .held } }
     let q := { asked with state := .hopping, reel := some volA, hopTo := some 1 }
     let s := handing e (some r1) q
     s.findReq r1 = some q ∧ (∀ z ∈ s.rm.queue, z.req = r1 → z = q) ∧ q.state = .hopping ∧ q.hopExpiry = none ∧ q.cancelPending = false ∧
     r1.origin = s.sys.startup.stationNumber ∧ (after .attemptWitnessed s).inv.entries.map Entry.state = [.away 1] ∧
     (after .attemptWitnessed s).inv.entries.map Entry.reservation = [none] ∧
     (after .attemptWitnessed s).rm.queue.map Request.role = [.proxy] ∧ (after .attemptWitnessed s).rm.queue.map Request.server = [some 1] ∧
     (after .attemptWitnessed s).claim.records.map ClaimRec.asks = [[]]) ∧
    (let e := { reel with state := .inHatch .left, reservation := some { req := r9, kind := .held } }
     let q := { asked with req := r9, role := .takenIn, state := .hopping, reel := some volA, hopTo := some 1 }
     let s := handing e (some r9) q
     let w := { s with line := { s.line with txq := [], score := 24 } }
     s.findReq r9 = some q ∧ r9.origin ≠ s.sys.startup.stationNumber ∧ CanQueue .outcome w ∧ (after .attemptWitnessed s).rm.queue = [] ∧
     (after .attemptWitnessed s).px.moved = [(r9, 1)] ∧
     (after .attemptWitnessed s).line.txq.map TxMsg.msg = [.outcome { req := r9, event := .moved 1 }]) := by decide

theorem met_LineStateFollowsTheScore :
    (sending.agenda = [] ∧ sending.sys.mode = .active ∧ sending.sys.restartPending = false ∧ Scored sending ∧ sending.line.score ≤ 127 ∧
      (after .attemptWitnessed sending).line.state = .clear ∧ (after .badFrame sending).line.score = 25) ∧
    (let s := { served with line := { served.line with state := .duplicate, txq := [seeking] } }
     ¬Scored s ∧ s.sys.mode = .active ∧ (after .badFrame s).line.score = 0 ∧ (after .badFrame s).line.errors = 1) ∧
    (let s := { sending with line := { sending.line with state := .muted, score := 95 } }
     Scored s ∧ (after .badFrame s).line.state = .detached) := by decide

theorem met_LineStateFollowsTheScore_errors :
    (let s := { served with line := { served.line with errors := 255 } }
     s.agenda = [] ∧ s.sys.mode = .active ∧ s.sys.restartPending = false ∧ (after .badFrame s).line.errors = 255 ∧
     (after .badFrame s).line.errOverflow = true) ∧
    (after .badFrame { served with line := { served.line with errors := 254 } }).line.errOverflow = false := by decide

theorem head_on_duplicate_line :
    HeadOnLine seeking [] { served with line := { served.line with state := .duplicate, txq := [seeking] } } :=
  ⟨rfl, rfl, by decide, rfl, rfl⟩

theorem met_FramesThatChangeTheLine :
    (let s := { served with line := { served.line with state := .detached, score := 127, quietEnd := some 32000, goodFrames := 31 } }
     s.agenda = [] ∧ s.line.state = .detached ∧ s.line.quietEnd = some 32000 ∧ (after .detachedRecovery s).line.state = .clear ∧
     (after .detachedRecovery s).sys.clock = 32000) ∧
    (presenceOk presenceA = true ∧ served.sys.startup.stationNumber ≤ 7 ∧ served.sys.mode = .active ∧ served.sys.restartPending = false ∧
      (∀ m ∈ served.line.txq, m.onLine = false) ∧ (after (.presenceHeard 2 presenceA) served).line.state = .duplicate) := by decide

theorem met_PeersComeAndGo :
    (presenceOk presenceA = true ∧ presenceA.condition ≠ .leaving ∧ presenceOk { presenceA with condition := .leaving } = true ∧
      ((after (.presenceHeard 1 { presenceA with condition := .leaving }) peered).rosterAt 1).state = .absent ∧
      ((after (.presenceHeard 1 { presenceA with period := 16 }) peered).rosterAt 1).absentAt = some 48000) ∧
    (peered.agenda = [] ∧ (peered.rosterAt 1).state = .present ∧ (peered.rosterAt 1).absentAt = some 9000 ∧
      ((after (.peerAbsent 1) peered).rosterAt 1).state = .absent) ∧
    (served.agenda = [] ∧ served.line.presenceEnd = some 4000 ∧ CanQueue .presence served ∧
      (∀ m ∈ served.line.txq, isPresence m.msg = false) ∧ (∀ c ∈ served.claim.records, c.own ≠ .yielding) ∧
      (after .presenceTimerExpiry served).line.presenceEnd = some 8000) := by decide

/-! ## The exchange with peers -/

def place9 : PlaceBody :=
  { target := 2, req := r9, want := .volume volA, reel := volA, reelClass := 1, access := .read, classWish := none, priority := 3,
    account := 4, minutes := 0, late := false, hop := 0, viaHatch := false, promptAcks := 0 }

theorem met_QuestionsOfPeersAreAnswered :
    (let b : SeekBody := { seekBody with req := r9 }
     let s := withReel reel peered
     s.line.txq.length < 16 ∧ seekOk b = true ∧ b.want = .volume volA ∧ s.findEntry volA = some reel ∧
     (∀ z ∈ s.inv.entries, z.volume = volA → z = reel) ∧ reel.home = .here ∧ reel.state = .home ∧ reel.reservation = none ∧
     (after (.seekHeard 1 b) s).inv.entries.map Entry.reservation = [some { req := r9, kind := .timed 4400 }]) ∧
    (askOk { server := 2, req := r9 } = true ∧ peered.sys.startup.stationNumber = 2 ∧ peered.findReq r9 = none ∧ peered.px.moved = [] ∧
      (after (.askHeard 1 { server := 2, req := r9 }) peered).line.txq.map TxMsg.msg = [.state { req := r9, answer := .unknown }]) ∧
    (let q := { asked with req := r9, role := .takenIn }
     let s := withReq q peered
     placeOk place9 = true ∧ place9.target = 2 ∧ place9.viaHatch = false ∧ s.findReq r9 = some q ∧ q.role = .takenIn ∧
     (after (.placeHeard 1 place9) s).line.txq.map TxMsg.msg = [.placed { target := 1, req := r9 }]) ∧
    (peered.findReq r9 = none ∧ r9.origin ≠ 2 ∧ peered.rm.queue.length < 32 ∧ peered.findEntry volA = none ∧
      (after (.placeHeard 1 place9) peered).line.txq.map TxMsg.msg = [.refused { target := 1, req := r9, reason := .notHere }]) ∧
    (let s := { peered with rm := { peered.rm with queue := List.replicate 32 asked } }
     s.findReq r9 = none ∧ 32 ≤ s.rm.queue.length ∧
     (after (.placeHeard 1 place9) s).line.txq.map TxMsg.msg = [.refused { target := 1, req := r9, reason := .noRoom }]) ∧
    (let s := withReel reel peered
     s.findReq r9 = none ∧ s.rm.queue.length < 32 ∧ s.findEntry volA = some reel ∧ reel.state = .home ∧ reel.retired = false ∧
     reel.reservation = none ∧ s.inv.bay ≠ .audit ∧ (after (.placeHeard 1 place9) s).rm.queue.map Request.req = [r9]) ∧
    (let s := withReel reel { peered with inv := { peered.inv with bay := .audit } }
     s.inv.bay = .audit ∧ s.findEntry volA = some reel ∧ (after (.placeHeard 1 place9) s).rm.queue.map Request.req = [r9]) := by decide

theorem met_HopsAreTakenIn :
    (let b := { place9 with viaHatch := true }
     let s := { peered with inv := { peered.inv with bay := .doorOpen } }
     s.line.txq.length < 16 ∧ placeOk b = true ∧ b.target = s.sys.startup.stationNumber ∧ b.viaHatch = true ∧ s.findReq b.req = none ∧
     b.req.origin ≠ s.sys.startup.stationNumber ∧ s.inv.bay ≠ .normal ∧
     (after (.viaHatchPlaceHeard 1 b) s).line.txq.map TxMsg.msg = [.refused { target := 1, req := r9, reason := .door }]) ∧
    (let b := { place9 with viaHatch := true }
     let s := withDrive drive peered
     s.line.txq.length < 16 ∧ s.findReq b.req = none ∧ s.inv.bay = .normal ∧ s.sideOf 1 = some .left ∧ s.hasHatch .left = true ∧
     s.rm.queue.length < 32 ∧ 1 ≤ s.tableRoom ∧ s.chooseLocal (max (b.classWish.getD 0) b.reelClass) = some drive ∧
     (after (.viaHatchPlaceHeard 1 b) s).rm.queue.map Request.hopExpiry = [some 220]) := by decide

def haveA : HaveBody := { req := r1, volume := volA, status := .home, cls := 1, ring := true, retired := false, freeDrive := true }
def takenIn9 : Request := { asked with req := r9, role := .takenIn }

theorem met_AnswersOfPeersAreTaken :
    (let s := peered
     s.findReq r1 = none ∧ s.findReq r9 = none ∧ haveOk haveA = true ∧ haveA.req = r1 ∧ r1.origin = 2 ∧ r9.origin ≠ 2 ∧
     placedOk { target := 2, req := r9 } = true ∧ refusedOk { target := 2, req := r9, reason := .noRoom } = true ∧
     outcomeOk { req := r1, event := .cancelled } = true ∧ stateOk { req := r1, answer := .pending } = true ∧
     releaseOk { server := 2, req := r9, kind := .cancel } = true ∧ (after (.haveHeard 1 haveA) s).px.stray = 1 ∧
     (after (.placedHeard 1 { target := 2, req := r9 }) { s with px := { s.px with stray := 65535 } }).px.stray = 65535) ∧
    (let q := { asked with state := .locating, phase := .window, windowEnd := some 200 }
     let s := withReq q peered
     s.findReq r1 = some q ∧ q.phase = .window ∧ (∀ a ∈ q.answers, a.station ≠ 1) ∧
     (after (.haveHeard 1 haveA) s).rm.queue.map (fun z => z.answers.length) = [1]) ∧
    (let q := { asked with state := .locating, phase := .placing, placeTarget := some 1, waitEnd := some 4000, placeAttempts := 6 }
     let s := withReq q peered
     s.findReq r1 = some q ∧ placedOk { target := 2, req := r1 } = true ∧ q.role = .own ∧ q.phase = .placing ∧ q.placeTarget = some 1 ∧
     q.placeAttempts < 7 ∧ (after (.placedHeard 1 { target := 2, req := r1 }) s).rm.queue.map Request.state = [.forwarded] ∧
     (after (.refusedHeard 1 { target := 2, req := r1, reason := .noRoom }) s).rm.queue.map Request.placeAttempts = [7]) ∧
    (let s := withReq proxy peered
     s.findReq r1 = some proxy ∧ outcomeOk { req := r1, event := .mounted (.own 1 7) } = true ∧ proxy.role = .proxy ∧
     proxy.server = some 1 ∧ proxy.state = .forwarded ∧ proxy.release = none ∧
     (after (.outcomeHeard 1 { req := r1, event := .mounted (.own 1 7) }) s).rm.queue.map Request.state = [.remoteMounted] ∧
     (after (.stateHeard 1 { req := r1, answer := .pending }) s).rm.queue = [proxy]) ∧
    (let s := withReq takenIn9 peered
     s.findReq r9 = some takenIn9 ∧ releaseOk { server := 2, req := r9, kind := .cancel } = true ∧ 1 = r9.origin ∧
     takenIn9.role = .takenIn ∧ takenIn9.state = .waiting ∧ takenIn9.cancelPending = false ∧ s.line.txq.length < 16 ∧
     (after (.releaseHeard 1 { server := 2, req := r9, kind := .cancel }) s).rm.queue = []) := by decide

theorem holds_nothing_taken_in : HoldsNothing r9 (withReq takenIn9 peered) := by
  constructor <;> simp [withReq, peered, served, State.reset]

theorem met_WaitsOfAnExchangeEnd :
    (let q := { asked with want := .pool 14, state := .locating, phase := .window, windowEnd := some 200 }
     let s := withReq q served
     s.agenda = [] ∧ s.findReq r1 = some q ∧ q.windowEnd = some 200 ∧ q.phase = .window ∧ q.settleReseek = false ∧ q.answers = [] ∧
     q.want = .pool 14 ∧ s.scratchPick 14 = none ∧ q.role = .own ∧ r1.origin = s.sys.startup.stationNumber ∧ q.state = .locating ∧
     (after (.windowClose r1) s).rm.queue = []) ∧
    (let q := { asked with state := .operator, reseekDue := some 2500 }
     let p := { entryFull with cls := .shelfFetch, links := [r1], detail := none }
     let s := withReq q (withPrompt p served)
     s.agenda = [] ∧ s.findReq r1 = some q ∧ q.reseekDue = some 2500 ∧ s.promptOf r1 = some p ∧ p.state = .settling ∧ s.sys.mode = .active ∧
     CanQueue .seek s ∧ (after (.settleReseek r1) s).rm.queue.map Request.settleReseek = [true]) ∧
    (let q := { asked with state := .locating, phase := .placing, placeTarget := some 1, waitEnd := some 4000, placeAttempts := 6 }
     let s := withReq q peered
     s.findReq r1 = some q ∧ q.phase = .placing ∧ q.waitEnd = some 4000 ∧ q.placeTarget = some 1 ∧ (s.rosterAt 1).state = .present ∧
     q.placeAttempts < 7 ∧ (after (.placeWaitEnd r1) s).rm.queue.map Request.followUp = [some .placeAgain]) ∧
    (let q := { asked with state := .locating, phase := .followUp, waitEnd := some 4000, followUp := some .seekAgain }
     let s := withReq q served
     s.findReq r1 = some q ∧ q.phase = .followUp ∧ q.waitEnd = some 4000 ∧ q.lineWait = false ∧ q.followUp = some .seekAgain ∧
     s.sys.mode = .active ∧ CanQueue .seek s ∧ (after (.followUpWaitEnd r1) s).rm.queue.map Request.phase = [.seeking]) ∧
    (let q := { asked with state := .standby, phase := .hopPlacing, waitEnd := some 4000, placeTarget := some 1 }
     let s := withReq q peered
     s.findReq r1 = some q ∧ q.phase = .hopPlacing ∧ q.waitEnd = some 4000 ∧ q.placeTarget = some 1 ∧ s.sideOf 1 = some .left ∧
     (after (.hopPlaceWaitEnd r1) s).rm.queue.map Request.skipLeft = [true]) := by decide

theorem holds_nothing_locating :
    HoldsNothing r1 (withReq { asked with want := .pool 14, state := .locating, phase := .window, windowEnd := some 200 } served) := by
  constructor <;> simp [withReq, served, State.reset]

/-- R131, R94, R95, R137: a Dispute HOLD cleared at entry to DETACHED or DUPLICATE leaves its resource to the neighbour, and no hold is dropped. -/
theorem test_a_dispute_is_lost_before_the_holds_are_dropped :
    let s := onAir (.hold { resource := .hatch 1, dispute := true, busy := false })
      (withRec { rec1 with holder := .self, own := .held, dispute := .sent } peered)
    let u := { s with line := { s.line with score := 95, txq := s.line.txq.map fun m => { m with onLine := false } } }
    let gone := fun (c : Instr) => (after c u).claim.records = [{ rec1 with holder := .peer }] ∧ (after c u).line.txq = []
    gone .badFrame ∧ gone (.presenceHeard 2 presenceA) := by decide +kernel

/-- R134: a HANDOFF given up is asked again when its Neighbour becomes PRESENT, and not when another station does. -/
theorem test_a_handoff_waits_for_its_own_neighbour :
    let s := handing { reel with home := .station 1, slot := none, state := .inHatch .left } none asked
    let t := { s with line := { s.line with txq := [], roster := List.replicate 8 .unknown } }
    (after (.presenceHeard 3 presenceA) { t with line := { t.line with roster := s.line.roster } }).line.txq = [] ∧
    (after (.presenceHeard 1 presenceA) t).line.txq.length = 1 := by decide +kernel

/-- R126, R134: an ask for a hatch already held obtains no hold, so that no HANDOFF is asked for it. -/
theorem test_an_ask_for_a_held_hatch_asks_no_handoff :
    let s := handing { reel with home := .station 1, slot := none, state := .inHatch .left } none asked
    let t := { s with line := { s.line with txq := [] } }
    ((t.addAsk (.hatch 1) (.move volB)).settle.line.txq = []) ∧
    (t.addAsk (.hatch 1) (.move volB)).settle.claim.records.map ClaimRec.asks = [[.move volB]] ∧
    (t.push (.obtained (.hatch 1))).settle.line.txq.length = 1 := by decide +kernel

theorem met_ClaimFramesOfTheNeighbour :
    (let s := withRec rec1 peered
     s.findRec (.hatch 1) = some rec1 ∧ rec1.neighbour = 1 ∧ (∀ z ∈ s.claim.records, z.res = .hatch 1 → z = rec1) ∧
     holdOk { resource := .hatch 1, dispute := false, busy := false } = true ∧ rec1.holder = .none ∧ rec1.own = .none ∧
     (after (.holdHeard 1 { resource := .hatch 1, dispute := false, busy := false }) s).claim.records.map ClaimRec.holder = [.peer]) ∧
    (let c := { rec1 with holder := .peer }
     let s := withRec c peered
     s.findRec (.hatch 1) = some c ∧ yieldOk { resource := .hatch 1, cradle := some volA } = true ∧ c.holder = .peer ∧ c.dispute = .none ∧
     c.conflictGone = false ∧
     (after (.yieldHeard 1 { resource := .hatch 1, cradle := some volA }) s).claim.records.map ClaimRec.cradle = [.volume volA]) ∧
    (let c := { rec1 with holder := .peer }
     let s := withRec c peered
     handoffOk handoffA = true ∧ s.resSide (.hatch 1) = some .left ∧ handoffA.req = none ∧ handoffA.home = 1 ∧
     s.findEntry handoffA.volume = none ∧ 1 ≤ s.tableRoom ∧ s.line.txq = [] ∧
     (after (.handoffHeard 1 handoffA) s).inv.entries.map Entry.home = [.station 1]) ∧
    (let c := { rec1 with holder := .self, own := .held, dispute := .conflict, conflictAcked := true }
     let s := withRec c (withPrompt { shownFull with cls := .hatchConflict, subject := .hatch .left, detail := none } peered)
     s.findRec (.hatch 1) = some c ∧ (∀ z ∈ s.claim.records, z.res = .hatch 1 → z = c) ∧ s.resSide (.hatch 1) = some .left ∧
     s.findEntry handoffA.volume = none ∧ 1 ≤ s.tableRoom ∧ s.line.txq = [] ∧
     (after (.handoffHeard 1 handoffA) s).panel.prompts = [] ∧
     (after (.handoffHeard 1 handoffA) s).claim.records.map ClaimRec.dispute = [.none]) := by decide

/-- A frame of station 1 is taken in every state that this section uses. -/
theorem hears_in_each (q : Request) (e : Entry) (d : Drive) (c : ClaimRec) (b : Bay) (l : List Request) :
    HearsPeer 1 (withReq q peered) ∧ HearsPeer 1 (withReel e peered) ∧ HearsPeer 1 (withDrive d peered) ∧ HearsPeer 1 (withRec c peered) ∧
    HearsPeer 1 { peered with inv := { peered.inv with bay := b } } ∧
    HearsPeer 1 (withReel e { peered with inv := { peered.inv with bay := b } }) ∧
    HearsPeer 1 { peered with rm := { peered.rm with queue := l } } := by
  refine ⟨?_, ?_, ?_, ?_, ?_, ?_, ?_⟩ <;> exact ⟨rfl, .inl rfl, show 1 ≤ 7 ∧ 1 ≠ 2 from by decide, rfl, rfl⟩

/-- R133: a move held back for a cradle that is not EMPTY asks for the hatch, and a HOLD is sent for it once the neighbour has yielded. -/
theorem test_a_full_cradle_leaves_an_ask :
    (let m := { stow with kind := .ret, dest := .hatch .left, stage := .queued }
     let s := withRec { rec1 with holder := .self, own := .held, cradle := .volume volB } { peered with arm := { served.arm with queue := [m] } }
     let t := withRec { rec1 with holder := .peer, asks := [.move volA] } s
     s.issue.claim.records.map ClaimRec.asks = [[.move volA]] ∧
     (after (.yieldHeard 1 { resource := .hatch 1, cradle := none }) t).claim.records.map ClaimRec.own = [.wanting]) := by decide +kernel

/-- R22, R131: after a lost dispute the hold of a drive OFFLINE with its reel is asked again. -/
theorem test_the_hold_of_an_offline_drive_is_asked_again :
    (let y := { drive with position := .boundary .left 0, state := .offline, loaded := some volA }
     let s := withRec { rec1 with res := .bdrive 1 0, holder := .self, own := .held } (withDrive y peered)
     (after (.holdHeard 1 { resource := .bdrive 1 0, dispute := true, busy := true }) s).claim.records.map ClaimRec.asks =
       [[.driveUnit 0]]) := by decide +kernel

/-- R134: with the home station ABSENT, the HANDOFF of a visiting reel leaves the Transmit Queue and stays owed. -/
theorem test_the_handoff_of_a_visitor_waits :
    (let s := handing { reel with home := .station 1, slot := none, state := .inHatch .left } none asked
     let t := { s with line := { s.line with txq := s.line.txq.map fun m => { m with onLine := false } } }
     (after (.peerAbsent 1) t).line.txq = [] ∧ (after (.peerAbsent 1) s).line.txq.map TxMsg.withdrawn = [true] ∧
     (after (.peerAbsent 1) t).claim.records.map ClaimRec.handoffDue = [some .noRequest]) := by decide +kernel

/-- R129: a YIELD whose cancelling ask has ended is asked again when its attempt fails. -/
theorem test_a_kept_hold_without_asks_is_yielded :
    (let s := onAir (.yield { resource := .hatch 1, cradle := none }) (withRec { rec1 with holder := .self, own := .yielding } peered)
     let t := { s with line := { s.line with txq := s.line.txq.map fun m => { m with withdrawn := true } } }
     (after .attemptUnwitnessed t).claim.records.map ClaimRec.own = [.yielding] ∧
     (after .attemptUnwitnessed t).line.txq.map TxMsg.onLine = [false]) := by decide +kernel

/-! ## Invariants -/

theorem met_EveryStepKeepsALegalStartUp : StartUp.Legal State.reset.sys.startup := by constructor <;> decide
theorem met_EveryStepKeepsTheTables : State.reset.FixedTables := by constructor <;> decide

theorem met_EveryStepKeepsTheTables_bounded : State.reset.Bounded ∧ mounted.Bounded := by
  constructor <;> constructor <;> decide
theorem met_EveryStepKeepsTheLineAndItsCounters : sending.CountersFit ∧ sending.LineFits := by
  constructor <;> constructor <;> decide

theorem met_EveryStepKeepsTheTotalsInAgreement : TotalsAgree State.reset := by
  unfold TotalsAgree
  decide

/-! ## Well-formed commands, transfers, and what the table spells -/

/-- One ill-formed command for each check of WellFormed.lean. -/
theorem test_ill_formed_transfers_and_words :
    Instr.wellFormed (.start { xfer 8 with part := 8 }) = false ∧ Instr.wellFormed (.start { xfer 0 with count := 16 }) = false ∧
    Instr.wellFormed (.readAccount (xfer 0) 32768) = false ∧ Instr.wellFormed (.setStartup (xfer 0) 1 (some 1073741824)) = false ∧
    Instr.wellFormed (.readLine (xfer 0) (some 32768)) = false ∧
    Instr.wellFormed (.loadReel (xfer 0) { loadA with volume := ['A'] }) = false ∧
    Instr.wellFormed (.mount (xfer 0) { mountA with volume := some ['A'] }) = false ∧
    Instr.wellFormed (.labelRead (xfer 0) 0 (some (.volume ['A']))) = false ∧
    Instr.wellFormed (.slotReport (xfer 0) 0 (some (.volume ['A']))) = false ∧
    Instr.wellFormed (.cancel (xfer 0) { origin := 32768, seq := 1 }) = false ∧
    Instr.wellFormed (.loadDrive (xfer 0) 0 1 (some (.boundary .left 2))) = false ∧
    Instr.wellFormed (.undefinedCommandCode (xfer 0) 29) = false := by decide

theorem test_ill_formed_events :
    Instr.wellFormed (.settleEnd .doorLong (.drive 0)) = false ∧ Instr.wellFormed (.graceExpiry 8) = false ∧
    Instr.wellFormed (.deadlinePassed { origin := 2, seq := 0 }) = false ∧ Instr.wellFormed (.reservationExpiry ['a']) = false ∧
    Instr.wellFormed (.peerAbsent 8) = false ∧ Instr.wellFormed (.presenceHeard 1 { presenceA with period := 0 }) = false ∧
    Instr.wellFormed (.placeHeard 1 { place9 with viaHatch := true }) = false ∧
    Instr.wellFormed (.viaHatchPlaceHeard 1 place9) = false ∧
    Instr.wellFormed (.holdHeard 1 { resource := .hatch 7, dispute := false, busy := false }) = false ∧
    Instr.wellFormed (.holdHeard 1 { resource := .hatch 1, dispute := false, busy := true }) = false := by decide

theorem test_well_formed :
    Instr.wellFormed (.mount (xfer 0) mountA) = true ∧ Instr.wellFormed (.handoffHeard 1 handoffA) = true ∧
    Instr.wellFormed (.undefinedCommandCode (xfer 7) 127) = true := by decide

/-- The opcode table gives no bits. -/
theorem test_the_table_spells_nothing : decodeTableWord 16 0 = none ∧ State.reset.withFetchWord 16 0 = State.reset := by decide

/-- Bits of a word, the first on the left. -/
def word (l : List Nat) : List Bool := l.map fun n => decide (n = 1)

/-- Status words from the layout of R179, bit 15 on the left: echo 1, BAD_VALUE, a report waiting, STANDALONE, MUTED, two reply words; and
echo 0, Frame Fault, STALE_ORDER, an order waiting, DUPLICATE, no reply words. -/
theorem met_WordsHaveOddParity :
    (let s := { alone with
       line := { alone.line with state := .muted }
       port := { alone.port with reply := { heartbeat := true, code := .badValue, words := [5#15, 16384#15] },
                                 reports := [{ time := 1, body := .auditNeeded }] } }
     s.statusWord = 0b1010010110001001#16 ∧ (s.shiftOut 4).drop 1 = [0b1011#16, 0b1000000000000000#16, 1#16] ∧ s.attn = true ∧
     s.port.reply.words.length ≤ 15) ∧
    (let s := arm { order .get (.slot 10) with taken := false } fetch { served with
       line := { served.line with state := .duplicate }
       port := { served.port with reply := { heartbeat := false, code := .staleOrder, words := [] }, frameFault := true } }
     s.statusWord = 0b0111001011000001#16 ∧ s.attn = true) ∧
    served.attn = false ∧ (after .powerOnReset served).attn = false := by decide

/-- READ ACCOUNT 17, code 20, part 1, Heartbeat 1: the words of R179 with odd parity. -/
def readAccount17 : List Bool :=
  word [1, 0, 0, 1, 0, 1, 0, 0, 0, 0, 0, 1, 0, 0, 1, 0] ++ word [0, 0, 0, 0, 0, 0, 0, 0, 0, 0, 1, 0, 0, 0, 1, 1]

theorem test_transfer_decoded :
    decodeTransfer readAccount17 = some (.readAccount { heartbeat := true, part := 1, count := 1 } 17) := by decide

/-- A wrong parity, and a word too few, are faulted transfers (R178). -/
theorem test_transfer_faulted :
    decodeTransfer (readAccount17.take 31 ++ [false]) = some .faultedTransfer ∧
    decodeTransfer (readAccount17.take 16) = some .faultedTransfer ∧ decodeTransfer [] = none := by decide

/-- TAKE ORDER, code 9: an even number of ones before the parity bit, which is then 1. -/
theorem test_transfer_without_data :
    decodeTransfer (word [0, 0, 0, 0, 1, 0, 0, 1, 0, 0, 0, 0, 0, 0, 0, 1]) =
      some (.takeOrder { heartbeat := false, part := 0, count := 0 }) := by decide

end Sys2Proof.Tests
end

/-! SUPPORT. LOAD REEL (R17): what its owning rule answers, said once for each kind of answer, and the obligation on the command. -/

namespace Sys2Proof.Machine

open Sys2Proof.Certificates

/-! ## The guards of LOAD REEL -/

theorem State.findEntry_isSome_iff (v : Serial) (s : State) :
    (s.findEntry v).isSome = true ↔ ∃ e ∈ s.inv.entries, e.volume = v := by
  simp [State.findEntry, List.find?_isSome]

theorem State.slotNamed_iff (n : Nat) (s : State) : s.slotNamed n = true ↔ ∃ e ∈ s.inv.entries, e.slot = some n := by
  simp [State.slotNamed]

theorem classOk_eq_false_iff (k : Nat) : classOk k = false ↔ k < 1 ∨ 4 < k := by
  simp only [classOk, Bool.and_eq_false_iff, decide_eq_false_iff_not, Nat.not_le]

/-- A command that INIT alone takes is LOCKED in every other mode (R183). -/
theorem modeCheck_initOnly {m : Mode} (h : m ≠ .init) : modeCheck .initOnly m = some .locked := by
  cases m with
  | init => exact absurd rfl h
  | _ => rfl

/-! ## What an accepted transfer leaves of the inventory -/

@[simp] theorem State.accepted_inv (x : Xfer) (s : State) : (s.accepted x).inv = s.inv := by rw [State.accepted_eq]

@[simp] theorem State.accepted_tableRoom (x : Xfer) (s : State) : (s.accepted x).tableRoom = s.tableRoom := by
  simp only [State.tableRoom, State.shelfArrivals, State.accepted_inv]

theorem State.addEntry_accepted (e : Entry) (x : Xfer) (s : State) : (s.accepted x).addEntry e = (s.addEntry e).accepted x := by
  rw [State.accepted_eq, State.accepted_eq]; rfl

/-! ## The answers of the owning rule -/

/-- The loaded values of an entry cannot be taken: one is out of its range, or the table already has the volume or the slot (R17). -/
def State.LoadReelBad (a : LoadReelArgs) (s : State) : Prop :=
  serialOk a.volume = false ∨ (∃ e ∈ s.inv.entries, e.volume = a.volume) ∨ 511 < a.slot ∨
    (∃ e ∈ s.inv.entries, e.slot = some a.slot) ∨ a.cls < 1 ∨ 4 < a.cls ∨ 15 < a.pool ∨ 65535 < a.passes ∨ 255 < a.errors

theorem State.loadReelBad_accepted (a : LoadReelArgs) (x : Xfer) (s : State) : (s.accepted x).LoadReelBad a ↔ s.LoadReelBad a := by
  simp only [State.LoadReelBad, State.accepted_inv]

/-- The guard that the model tests is `LoadReelBad`. -/
theorem State.loadReel_guard_iff (a : LoadReelArgs) (s : State) :
    (serialOk a.volume = false ∨ (s.findEntry a.volume).isSome = true ∨ 511 < a.slot ∨ s.slotNamed a.slot = true ∨
      classOk a.cls = false ∨ 15 < a.pool ∨ Config.max16 < a.passes ∨ Config.max8 < a.errors) ↔ s.LoadReelBad a := by
  simp only [State.findEntry_isSome_iff, State.slotNamed_iff, classOk_eq_false_iff, State.LoadReelBad, Config.max16, Config.max8, or_assoc]

theorem State.loadReel_no_flag {a : LoadReelArgs} (h : a.ring = none ∨ a.retired = none) (s : State) :
    s.loadReel a = .error .badValue := by
  unfold State.loadReel
  rcases h with h | h
  · rw [h]
  · rw [h]; cases a.ring <;> rfl

section

variable {a : LoadReelArgs} {ring retired : Bool} {s : State}

theorem State.loadReel_bad (hr : a.ring = some ring) (ht : a.retired = some retired) (hb : s.LoadReelBad a) :
    s.loadReel a = .error .badValue := by
  simp only [State.loadReel, hr, ht]
  rw [if_pos ((State.loadReel_guard_iff a s).mpr hb)]

theorem State.loadReel_full (hr : a.ring = some ring) (ht : a.retired = some retired) (hb : ¬s.LoadReelBad a) (h0 : s.tableRoom = 0) :
    s.loadReel a = .error .full := by
  simp only [State.loadReel, hr, ht]
  rw [if_neg (mt (State.loadReel_guard_iff a s).mp hb), if_pos h0]

theorem State.loadReel_ok (hr : a.ring = some ring) (ht : a.retired = some retired) (hb : ¬s.LoadReelBad a) (h0 : 0 < s.tableRoom) :
    s.loadReel a = .ok ([], s.addEntry (loadedEntry a ring retired)) := by
  simp only [State.loadReel, hr, ht]
  rw [if_neg (mt (State.loadReel_guard_iff a s).mp hb), if_neg h0.ne']

end

/-! ## The command -/

/-- A command without reply words whose only effect is a new entry: no consequence follows. -/
theorem State.host_addEntry {x : Xfer} {least : Nat} {k : Kind} {f : State → Answered} {s : State} {e : Entry} (h : Ready x least s)
    (hp : x.part = 0) (hm : modeCheck k s.sys.mode = none) (hf : f (s.accepted x) = .ok ([], (s.accepted x).addEntry e)) :
    s.hostCommand x least k f = Certificates.answered x .ok [] (s.addEntry e) := by
  have hlast : AsksLast x [] := by rw [AsksLast, hp]; rfl
  have hwords : partOf [] x.part = [] := rfl
  rw [State.host_ok h hm hf hlast, hwords, State.addEntry_accepted, State.accepted_reply]
  obtain ⟨-, hagenda, -⟩ := h
  exact State.settle_of_agenda hagenda

theorem exec_loadReel (x : Xfer) (a : LoadReelArgs) (s : State) :
    exec (.loadReel x a) s = .next (s.hostCommand x 11 .initOnly fun s => s.loadReel a) := rfl

/-- Settles O14: outside INIT the mode check refuses; in INIT the answer is that of the owning rule, by its three guards in turn. -/
theorem loadReelAddsTheEntry : Obligations.LoadReelAddsTheEntry := by
  intro x a s hready hpart
  have hcheck (hmode : s.sys.mode = .init) : modeCheck .initOnly s.sys.mode = none := by rw [hmode]; rfl
  have hgood : ¬s.LoadReelBad a → ¬(s.accepted x).LoadReelBad a := mt (State.loadReelBad_accepted a x s).mp
  have hroom : (s.accepted x).tableRoom = s.tableRoom := State.accepted_tableRoom x s
  simp only [exec_loadReel, Host.Outcome.next.injEq]
  refine ⟨fun hmode => ?locked, fun hmode hflag => ?noFlag,
    fun ring retired hmode hr ht => ⟨fun hbad => ?bad, fun hbad hnone => ?full, fun hbad hsome => ?taken⟩⟩
  case locked => exact State.host_refused hready (modeCheck_initOnly hmode)
  case noFlag => exact State.host_error hready (hcheck hmode) (State.loadReel_no_flag hflag _)
  case bad =>
    exact State.host_error hready (hcheck hmode) (State.loadReel_bad hr ht ((State.loadReelBad_accepted a x s).mpr hbad))
  case full => exact State.host_error hready (hcheck hmode) (State.loadReel_full hr ht (hgood hbad) (hroom ▸ hnone))
  case taken => exact State.host_addEntry hready hpart (hcheck hmode) (State.loadReel_ok hr ht (hgood hbad) (hroom ▸ hsome))

end Sys2Proof.Machine

/-! SUPPORT. LOAD DRIVE (R21): what its owning rule answers, said once for each kind of answer, and the obligation on the command. -/

namespace Sys2Proof.Machine

open Sys2Proof.Certificates

/-! ## The guards of LOAD DRIVE -/

theorem State.findDrive_isSome_iff (d : Nat) (s : State) : (s.findDrive d).isSome = true ↔ ∃ y ∈ s.drv.drives, y.address = d := by
  simp [State.findDrive, List.find?_isSome]

/-- A position that no new drive takes: a boundary index above 1, or a boundary position of another drive (R21). Any number of drives
stand at LOCAL. -/
def State.PositionBad (p : DrivePos) (s : State) : Prop :=
  ∃ side i, p = .boundary side i ∧ (1 < i ∨ ∃ y ∈ s.drv.drives, y.position = p)

theorem State.positionBad_iff (p : DrivePos) (s : State) :
    (positionOk p = false ∨ (p ≠ .loc ∧ (s.drv.drives.any fun y => decide (y.position = p)) = true)) ↔ s.PositionBad p := by
  cases p <;> simp [State.PositionBad, positionOk]

/-- The loaded values of a drive cannot be taken: one is out of its range, or the table already has the address or the boundary position
(R21). -/
def State.LoadDriveBad (address cls : Nat) (p : DrivePos) (s : State) : Prop :=
  7 < address ∨ (∃ y ∈ s.drv.drives, y.address = address) ∨ cls < 1 ∨ 4 < cls ∨ s.PositionBad p

/-- The guard that the model tests is `LoadDriveBad`. -/
theorem State.loadDrive_guard_iff (address cls : Nat) (p : DrivePos) (s : State) :
    (7 < address ∨ (s.findDrive address).isSome = true ∨ classOk cls = false ∨ positionOk p = false ∨
      (p ≠ .loc ∧ (s.drv.drives.any fun y => decide (y.position = p)) = true)) ↔ s.LoadDriveBad address cls p := by
  rw [State.positionBad_iff, State.findDrive_isSome_iff, classOk_eq_false_iff, or_assoc, State.LoadDriveBad]

/-! ## What an accepted transfer leaves of the drives -/

@[simp] theorem State.accepted_drv (x : Xfer) (s : State) : (s.accepted x).drv = s.drv := by rw [State.accepted_eq]

theorem State.loadDriveBad_accepted (address cls : Nat) (p : DrivePos) (x : Xfer) (s : State) :
    (s.accepted x).LoadDriveBad address cls p ↔ s.LoadDriveBad address cls p := by
  simp only [State.LoadDriveBad, State.PositionBad, State.accepted_drv]

theorem State.modDrv_accepted (f : Drv → Drv) (x : Xfer) (s : State) : (s.accepted x).modDrv f = (s.modDrv f).accepted x := by
  rw [State.accepted_eq, State.accepted_eq]; rfl

/-! ## The answers of the owning rule -/

/-- A drive record joins the Drive Table in its place by address (R20). -/
def State.addDrive (y : Drive) (s : State) : State := s.modDrv fun u => { u with drives := insertDrive y u.drives }

@[simp] theorem State.addDrive_agenda (y : Drive) (s : State) : (s.addDrive y).agenda = s.agenda := rfl

theorem State.addDrive_accepted (y : Drive) (x : Xfer) (s : State) : (s.accepted x).addDrive y = (s.addDrive y).accepted x :=
  State.modDrv_accepted ..

theorem State.loadDrive_no_position (address cls : Nat) (s : State) : s.loadDrive address cls none = .error .badValue := rfl

section

variable {address cls : Nat} {p : DrivePos} {s : State}

theorem State.loadDrive_bad (hb : s.LoadDriveBad address cls p) : s.loadDrive address cls (some p) = .error .badValue :=
  if_pos ((State.loadDrive_guard_iff address cls p s).mpr hb)

theorem State.loadDrive_ok (hb : ¬s.LoadDriveBad address cls p) :
    s.loadDrive address cls (some p) = .ok ([], s.addDrive (newDrive address cls p)) :=
  if_neg (mt (State.loadDrive_guard_iff address cls p s).mp hb)

end

/-! ## The command -/

/-- A command taken without reply words, and no consequence waits after its effect: its answer is the effect and the reply alone. -/
theorem State.host_silent {x : Xfer} {least : Nat} {k : Kind} {f : State → Answered} {s t : State} (h : Ready x least s)
    (hp : x.part = 0) (hm : modeCheck k s.sys.mode = none) (hf : f (s.accepted x) = .ok ([], t.accepted x)) (ht : t.agenda = []) :
    s.hostCommand x least k f = Certificates.answered x .ok [] t := by
  have hlast : AsksLast x [] := by rw [AsksLast, hp]; rfl
  have hwords : partOf [] x.part = [] := rfl
  rw [State.host_ok h hm hf hlast, hwords, State.accepted_reply]
  exact State.settle_of_agenda ht

theorem exec_loadDrive (x : Xfer) (address cls : Nat) (p : Option DrivePos) (s : State) :
    exec (.loadDrive x address cls p) s = .next (s.hostCommand x 3 .initOnly fun s => s.loadDrive address cls p) := rfl

/-- Settles O13: outside INIT the mode check refuses; in INIT the answer is that of the owning rule, which needs a position and tests the
loaded values in one guard. -/
theorem loadDriveMakesTheRecord : Obligations.LoadDriveMakesTheRecord := by
  intro x address cls p s hready hpart
  have hcheck (hmode : s.sys.mode = .init) : modeCheck .initOnly s.sys.mode = none := by rw [hmode]; rfl
  have hsame := State.loadDriveBad_accepted address cls p x s
  have ⟨_, hagenda, _⟩ := hready
  simp only [exec_loadDrive, Host.Outcome.next.injEq]
  refine ⟨fun hmode _ => ?locked, ⟨fun hmode hbad => ?bad, fun hmode hgood => ?taken⟩, fun hmode => ?noPosition⟩
  case locked => exact State.host_refused hready (modeCheck_initOnly hmode)
  case bad => exact State.host_error hready (hcheck hmode) (State.loadDrive_bad (hsame.mpr hbad))
  case taken =>
    have hanswer : (s.accepted x).loadDrive address cls (some p) = .ok ([], (s.addDrive (newDrive address cls p)).accepted x) := by
      rw [State.loadDrive_ok (mt hsame.mp hgood), State.addDrive_accepted]
    exact State.host_silent hready hpart (hcheck hmode) hanswer ((State.addDrive_agenda ..).trans hagenda)
  case noPosition => exact State.host_error hready (hcheck hmode) (State.loadDrive_no_position address cls _)

end Sys2Proof.Machine

/-! SUPPORT. The number of a new request (R42): the search for the first sequence not in use, the entry of a MOUNT that takes it, and the
end of a RESTART, which keeps Last Sequence. -/

namespace Sys2Proof.Machine

open Sys2Proof.Certificates

/-! ## The candidates -/

/-- The candidates after `n` run through 1 to 255 in a cycle. -/
theorem iterate_nextSeq (n k : Nat) : nextSeq^[k + 1] n = (nextSeq n - 1 + k) % 255 + 1 := by
  have hfirst : 1 ≤ nextSeq n ∧ nextSeq n ≤ 255 := by unfold nextSeq; split <;> omega
  induction k with
  | zero => rw [zero_add, Function.iterate_one]; omega
  | succ k ih => rw [Function.iterate_succ_apply', ih, nextSeq]; split <;> omega

/-- Of up to 255 candidates in a row no two are the same. -/
theorem nodup_candidates {m : Nat} (hm : m ≤ 255) (n : Nat) : ((List.range m).map fun j => nextSeq^[j + 1] n).Nodup := by
  refine List.nodup_range.map_on fun i hi j hj hij => ?_
  rw [List.mem_range] at hi hj
  rw [iterate_nextSeq, iterate_nextSeq] at hij
  omega

/-! ## The search -/

/-- If one of the candidates that `freshSeq` may look at is free, it gives the first free one. -/
theorem freshSeq_firstFree {used : Nat → Bool} {fuel n : Nat} (hfree : ∃ j ≤ fuel, used (nextSeq^[j + 1] n) = false) :
    ∃ k ≤ fuel, freshSeq used fuel n = nextSeq^[k + 1] n ∧ used (nextSeq^[k + 1] n) = false ∧
      ∀ j < k, used (nextSeq^[j + 1] n) = true := by
  induction fuel generalizing n with
  | zero =>
    obtain ⟨j, hj, hu⟩ := hfree
    obtain rfl : j = 0 := Nat.le_zero.mp hj
    exact ⟨0, le_rfl, rfl, hu, fun _ h => absurd h (Nat.not_lt_zero _)⟩
  | succ fuel ih =>
    cases hnext : used (nextSeq n) with
    | false => exact ⟨0, Nat.zero_le _, by simp [freshSeq, hnext], hnext, fun _ h => absurd h (Nat.not_lt_zero _)⟩
    | true =>
      have hlater : ∃ j ≤ fuel, used (nextSeq^[j + 1] (nextSeq n)) = false := by
        obtain ⟨j, hj, hu⟩ := hfree
        cases j with
        | zero => exact absurd (hnext.symm.trans hu) Bool.noConfusion
        | succ j => exact ⟨j, Nat.le_of_succ_le_succ hj, hu⟩
      obtain ⟨k, hk, heq, hu, hbefore⟩ := ih hlater
      refine ⟨k + 1, Nat.succ_le_succ hk, by rw [freshSeq, if_pos hnext, heq]; rfl, hu, fun j hj => ?_⟩
      cases j with
      | zero => exact hnext
      | succ j => exact hbefore j (Nat.lt_of_succ_lt_succ hj)

/-- A record of this origin carries the sequence (R42). -/
def State.seqUsed (s : State) (n : Nat) : Bool :=
  s.rm.queue.any fun q => decide (q.req = { origin := s.self, seq := n })

theorem State.newSeq_eq (s : State) : s.newSeq = freshSeq s.seqUsed s.rm.queue.length s.rm.lastSeq := rfl

theorem State.mem_of_seqUsed {s : State} {n : Nat} (h : s.seqUsed n = true) : n ∈ s.rm.queue.map fun q => q.req.seq := by
  obtain ⟨q, hq, heq⟩ := List.any_eq_true.mp h
  exact List.mem_map.mpr ⟨q, hq, congrArg ReqNo.seq (of_decide_eq_true heq)⟩

/-- The records of the queue cannot carry one candidate more than there are records. -/
theorem State.exists_freeSeq {s : State} (hlen : s.rm.queue.length < 255) :
    ∃ j ≤ s.rm.queue.length, s.seqUsed (nextSeq^[j + 1] s.rm.lastSeq) = false := by
  by_contra! hused
  have hsub : ((List.range (s.rm.queue.length + 1)).map fun j => nextSeq^[j + 1] s.rm.lastSeq) ⊆ s.rm.queue.map fun q => q.req.seq := by
    intro n hn
    obtain ⟨j, hj, rfl⟩ := List.mem_map.mp hn
    exact State.mem_of_seqUsed (Bool.eq_true_of_not_eq_false (hused j (Nat.le_of_lt_succ (List.mem_range.mp hj))))
  have hcount := (List.subperm_of_subset (nodup_candidates hlen _) hsub).length_le
  simp only [List.length_map, List.length_range] at hcount
  omega

/-! ## An accepted MOUNT -/

theorem modeCheck_other {m : Mode} (h : m ≠ .standalone) : modeCheck .other m = none := by
  cases m with
  | standalone => exact absurd rfl h
  | _ => rfl

theorem State.lastSeq_of_kept {s t : State} (h : t.kept = s.kept) : t.rm.lastSeq = s.rm.lastSeq := congrArg Kept.lastSeq h

@[simp] theorem State.accepted_rm (x : Xfer) (s : State) : (s.accepted x).rm = s.rm := by rw [State.accepted_eq]

@[simp] theorem State.accepted_newSeq (x : Xfer) (s : State) : (s.accepted x).newSeq = s.newSeq := by rw [State.accepted_eq]; rfl

@[simp] theorem State.reply_rm (x : Xfer) (c : ReplyCode) (w : List Data) (s : State) : (s.reply x c w).rm = s.rm := rfl

theorem State.kept_firstLook (r : ReqNo) (s : State) : (s.firstLook r).kept = s.kept := by
  unfold State.firstLook
  split
  · rfl
  split
  · exact State.kept_push ..
  · rw [State.kept_push, State.kept_lookup]

theorem State.enterRequest_lastSeq (q : Request) (s : State) : (s.enterRequest q).rm.lastSeq = q.req.seq := by
  rw [State.enterRequest, State.lastSeq_of_kept (State.kept_reqReport ..), State.lastSeq_of_kept (State.kept_addReq ..), State.modRm_rm]

section

variable {x : Xfer} {a : MountArgs} {want : Want} {access : Access} {s : State}

theorem State.mount_taken (hmode : s.sys.mode ≠ .init) (hwant : mountWant a = some want) (haccess : a.access = some access)
    (hrange : mountInRange a = true) (hroom : s.rm.queue.length < 32) :
    s.mount a = .ok ([wReq (s.newRequest a want access).req],
      (s.enterRequest (s.newRequest a want access)).firstLook (s.newRequest a want access).req) := by
  simp only [State.mount, if_neg hmode, hwant, haccess, hrange, Bool.true_eq_false, if_false]
  exact if_neg (Nat.not_le.mpr hroom)

theorem exec_mount (x : Xfer) (a : MountArgs) (s : State) :
    exec (.mount x a) s = .next (s.hostCommand x 11 .other fun s => s.mount a) := rfl

/-- An accepted MOUNT gives Last Sequence the number of its request (R42). -/
theorem exec_mount_lastSeq (hready : Ready x 11 s) (hservice : InService s) (hmode : s.sys.mode ≠ .init) (hpart : x.part = 0)
    (hwant : mountWant a = some want) (haccess : a.access = some access) (hrange : mountInRange a = true)
    (hroom : s.rm.queue.length < 32) : ∃ t, exec (.mount x a) s = .next t ∧ t.rm.lastSeq = s.newSeq := by
  have htaken := State.mount_taken (s := s.accepted x) (by rwa [State.accepted_sys]) hwant haccess hrange (by rwa [State.accepted_rm])
  set q := (s.accepted x).newRequest a want access
  have hlast : AsksLast x [wReq q.req] := by rw [AsksLast, hpart]; rfl
  refine ⟨_, exec_mount x a s, ?_⟩
  rw [State.host_ok hready (modeCheck_other hservice) htaken hlast]
  calc (((((s.accepted x).enterRequest q).firstLook q.req).reply x .ok (partOf [wReq q.req] x.part)).settle).rm.lastSeq
      = ((((s.accepted x).enterRequest q).firstLook q.req).reply x .ok (partOf [wReq q.req] x.part)).rm.lastSeq :=
        State.lastSeq_of_kept (State.kept_settle _)
    _ = (((s.accepted x).enterRequest q).firstLook q.req).rm.lastSeq := by rw [State.reply_rm]
    _ = ((s.accepted x).enterRequest q).rm.lastSeq := State.lastSeq_of_kept (State.kept_firstLook ..)
    _ = (s.accepted x).newSeq := State.enterRequest_lastSeq ..
    _ = s.newSeq := State.accepted_newSeq ..

end

/-! ## The end of a RESTART -/

/-- A part of the state that no step of a fold changes. -/
theorem State.forEach_unchanged {α β : Type} (g : State → β) {f : α → State → State} (h : ∀ a t, g (f a t) = g t) (l : List α) (s : State) :
    g (State.forEach l f s) = g s := by
  unfold State.forEach
  induction l generalizing s with
  | nil => rfl
  | cons a l ih => rw [List.foldl_cons, ih, h]

theorem State.offerClosed_rm (c : ClosedSession) (s : State) : (s.offerClosed c).rm = s.rm := by
  unfold State.offerClosed
  dsimp only
  repeat' split
  all_goals rfl

theorem State.closeSession_rm (d errors : Nat) (cause : CloseCause) (s : State) : (s.closeSession d errors cause).rm = s.rm := by
  unfold State.closeSession
  split
  · rfl
  · rw [State.offerClosed_rm]; rfl

theorem State.closeAll_rm (s : State) : s.closeAll.rm = s.rm :=
  State.forEach_unchanged State.rm (fun d t => State.closeSession_rm d 0 .restart t) _ s

theorem State.reportListen_rm (s : State) : s.reportListen.rm = s.rm := by
  unfold State.reportListen
  split <;> rfl

theorem State.completeRestart_lastSeq (s : State) : s.completeRestart.rm.lastSeq = s.rm.lastSeq := by
  calc s.completeRestart.rm.lastSeq
      = s.closeAll.reportListen.rm.lastSeq := rfl
    _ = s.rm.lastSeq := by rw [State.reportListen_rm, State.closeAll_rm]

/-! ## The obligation -/

/-- Settles O17: among one candidate more than there are records one is free, so the search ends at the first free one; MOUNT enters the
request with that number; and neither the consequences of MOUNT nor a RESTART touch Last Sequence. -/
theorem newNumberIsTheFirstFree : Obligations.NewNumberIsTheFirstFree := by
  refine ⟨fun n => rfl, fun s hlen => ?search, fun x a want access s => exec_mount_lastSeq, rfl, State.completeRestart_lastSeq⟩
  case search =>
    have hfree := State.exists_freeSeq (s := s) (hlen.trans_lt (by decide))
    obtain ⟨k, hk, heq, hu, hbefore⟩ := freshSeq_firstFree hfree
    exact ⟨k, hk.trans hlen, s.newSeq_eq.trans heq, hu, hbefore⟩

end Sys2Proof.Machine

/-! SUPPORT. A charge added to an account (R169) and the charge of a session (R167, R168): the cases of an addition, the close's totals, and
the one rounding with its limit, with the two obligations on them. -/

namespace Sys2Proof.Machine

open Sys2Proof.Certificates

/-! ## An addition to an account -/

section

variable {C secs : Nat} {a : Account}

theorem Account.addTotal_of_saturated (hs : a.saturated = true) : a.addTotal C = a := if_pos hs

/-- The units carried by R169's steps 1 and 2 are the whole units of the value and the charge together. -/
theorem Account.units_with_carry (C : Nat) (a : Account) :
    a.units + C / 1000 + (a.milli + C % 1000) / 1000 = (Account.value a + C) / 1000 := by
  unfold Account.value
  omega

theorem Account.addTotal_of_overflow (hs : a.saturated = false) (h : 4294967296000 ≤ Account.value a + C) :
    a.addTotal C = { a with units := 4294967295, milli := 999, saturated := true } := by
  have hunits : ¬a.units + C / 1000 + (a.milli + C % 1000) / 1000 ≤ 4294967295 := by
    rw [Account.units_with_carry]
    omega
  unfold Account.addTotal
  rw [hs]
  exact if_neg hunits

theorem Account.value_of_greatest (hunits : a.units = 4294967295) (hmilli : a.milli = 999) : Account.value a = 4294967295999 := by
  rw [Account.value, hunits, hmilli]

theorem Account.addSession_eq (C secs : Nat) (a : Account) :
    a.addSession C secs = { a.addTotal C with
      sessions := min 4294967295 (a.sessions + 1), seconds := min 4294967295 (a.seconds + secs) } := rfl

theorem Account.addSession_of_saturated (hs : a.saturated = true) :
    (a.addSession C secs).milli = a.milli ∧ Account.value (a.addSession C secs) = Account.value a ∧
      (a.addSession C secs).saturated = true := by
  rw [Account.addSession_eq, Account.addTotal_of_saturated hs]
  exact ⟨rfl, rfl, hs⟩

theorem Account.addSession_of_overflow (hs : a.saturated = false) (h : 4294967296000 ≤ Account.value a + C) :
    (a.addSession C secs).milli = 999 ∧ Account.value (a.addSession C secs) = 4294967295999 ∧
      (a.addSession C secs).saturated = true := by
  rw [Account.addSession_eq, Account.addTotal_of_overflow hs h]
  exact ⟨rfl, Account.value_of_greatest rfl rfl, rfl⟩

theorem Account.addSession_of_fits (hm : a.milli ≤ 999) (hs : a.saturated = false) (h : Account.value a + C < 4294967296000) :
    (a.addSession C secs).milli ≤ 999 ∧ Account.value (a.addSession C secs) = Account.value a + C ∧
      (a.addSession C secs).saturated = false := by
  have hkept := addSession_sound (secs := secs) hs hm h
  obtain ⟨-, hvalue, hmilli, -⟩ := addSession_unsaturated hm hkept
  exact ⟨hmilli, hvalue, hkept⟩

theorem Account.addSession_milli_le (hm : a.milli ≤ 999) : (a.addSession C secs).milli ≤ 999 := by
  by_cases hs : a.saturated = true
  · obtain ⟨hmilli, -⟩ := Account.addSession_of_saturated (C := C) (secs := secs) hs
    exact hmilli.trans_le hm
  · rw [Bool.not_eq_true] at hs
    rcases Nat.lt_or_ge (Account.value a + C) 4294967296000 with hfits | hover
    · obtain ⟨hmilli, -⟩ := Account.addSession_of_fits (secs := secs) hm hs hfits
      exact hmilli
    · obtain ⟨hmilli, -⟩ := Account.addSession_of_overflow (secs := secs) hs hover
      exact hmilli.le

end

/-! ## The totals of a close -/

theorem State.addCharge_eq {n : Nat} {s : State} (h : n < s.acct.accounts.length) (C secs : Nat) :
    s.addCharge n C secs = { s with acct := { s.acct with
      accounts := s.acct.accounts.set n ((s.acct.accounts.getD n .zero).addSession C secs)
      total := s.acct.total.addSession C secs } } := by
  unfold State.addCharge State.modAcct
  dsimp only
  rw [if_pos h]

theorem total_saturated_of_account {s : State} {a : Account} (h : TotalsAgree s) (ha : a ∈ s.acct.accounts) (hs : a.saturated = true) :
    s.acct.total.saturated = true := by
  by_contra htotal
  rw [Bool.not_eq_true] at htotal
  obtain ⟨haccounts, -⟩ := h htotal
  obtain ⟨hclear, -⟩ := haccounts a ha
  simp [hclear] at hs

/-- Settles O33: an addition to an account is one of three, fitting, overflowing or to a Saturated account; and since a close keeps the
totals in agreement, no account is Saturated before the Station Charge Total. -/
theorem chargesAddExactly : Obligations.ChargesAddExactly := by
  refine fun C secs => ⟨fun a hm => ?account, fun n s hn => ⟨State.addCharge_eq hn C secs, fun hagree a ha hs => ?station⟩⟩
  case account =>
    refine ⟨Account.addSession_milli_le hm, rfl, rfl, fun hs hfits => ?_, fun hs hover => ?_, fun hs => ?_⟩
    · exact (Account.addSession_of_fits hm hs hfits).2
    · exact (Account.addSession_of_overflow hs hover).2
    · exact (Account.addSession_of_saturated hs).2
  case station => exact total_saturated_of_account (State.balanced_addCharge n C secs hagree) ha hs

/-! ## The charge of a session -/

/-- The whole part of (S + 30) / 60 is S / 60 rounded to the nearest, a half up. -/
theorem timeChargeRaw_rounds (S : Nat) : 60 * timeChargeRaw S ≤ S + 30 ∧ S < 60 * timeChargeRaw S + 30 := by
  unfold timeChargeRaw
  omega

section

variable (c : StartUp) (z : Session) (acks : Nat)

/-- The time charge and the fees, before either limit. -/
def chargeRaw : Nat := timeChargeRaw (weighted c z.t0 z.t1 z.t2 z.t3) + fees c z.write z.hopped z.remount acks

/-- The limit on the sum takes in the limit on the time charge. -/
theorem charge_eq_min : charge c z acks = min 4294967295 (chargeRaw c z acks) := by
  unfold charge timeCharge chargeRaw Config.max32
  omega

theorem chargeSaturated_eq : chargeSaturated c z acks = decide (4294967295 < chargeRaw c z acks) := by
  unfold chargeSaturated timeCharge chargeRaw Config.max32
  rw [← Bool.decide_or, decide_eq_decide]
  omega

end

/-- Settles O34: the time charge rounds, and the two limits amount to one on the sum. -/
theorem chargeOfASession : Obligations.ChargeOfASession := by
  intro c z acks S F
  obtain ⟨hle, hlt⟩ := timeChargeRaw_rounds S
  have hraw : chargeRaw c z acks = timeChargeRaw S + F := rfl
  rw [charge_eq_min, chargeSaturated_eq, hraw]
  exact ⟨timeChargeRaw S, hle, hlt,
    fun hfits => ⟨min_eq_right hfits, decide_eq_false hfits.not_gt⟩,
    fun hlimit => ⟨min_eq_left hlimit.le, decide_eq_true hlimit⟩⟩

end Sys2Proof.Machine

/-! SUPPORT. SET STARTUP (R193, R194): the value that each kind of field is made, said once for each row of R194's table, the answer of the
owning rule, and the obligation on the values. -/

namespace Sys2Proof.Machine

open Sys2Proof.Certificates

/-! ## Making a value legal -/

theorem clampTo_eq_ite {lo hi : Nat} (h : lo ≤ hi) (v : Nat) :
    clampTo lo hi v = if v < lo then lo else if hi < v then hi else v := by
  unfold clampTo
  split
  · omega
  · split <;> omega

theorem stepped_eq_ite {lo hi : Nat} (h : lo ≤ hi) (step v : Nat) :
    stepped step lo hi v = if v - v % step < lo then lo else if hi < v - v % step then hi else v - v % step := by
  rw [stepped, Nat.div_mul_self_eq_mod_sub_self, clampTo_eq_ite h]

theorem flag_toNat (v : Nat) : (decide (v ≠ 0)).toNat = if v = 0 then 0 else 1 := by
  by_cases h : v = 0 <;> simp [h]

/-- The listed value nearest to `v`, and of two as near the lower (R194). -/
def IsNearest (v x : Nat) (l : List Nat) : Prop :=
  x ∈ l ∧ ∀ w ∈ l, apart v x ≤ apart v w ∧ (apart v x = apart v w → x ≤ w)

/-- `nearest` keeps the first of the nearest values, which in a rising list is the lowest of them. -/
theorem nearest_isNearest (v c : Nat) {l : List Nat} (hl : (c :: l).Pairwise (· < ·)) : IsNearest v (nearest v c l) (c :: l) := by
  induction l generalizing c with
  | nil => simp [IsNearest, nearest]
  | cons x t ih =>
    obtain ⟨hc, hxt⟩ := List.pairwise_cons.mp hl
    obtain ⟨hcx, hct⟩ := List.forall_mem_cons.mp hc
    unfold nearest
    split
    case isTrue hcloser =>
      obtain ⟨hmem, hmin⟩ := ih x hxt
      obtain ⟨hx, -⟩ := hmin x List.mem_cons_self
      refine ⟨List.mem_cons_of_mem c hmem, List.forall_mem_cons.mpr ⟨?_, hmin⟩⟩
      omega
    case isFalse hnot =>
      obtain ⟨hmem, hmin⟩ := ih c (List.pairwise_cons.mpr ⟨hct, (List.pairwise_cons.mp hxt).2⟩)
      obtain ⟨hfirst, hrest⟩ := List.forall_mem_cons.mp hmin
      refine ⟨List.cons_subset_cons c (List.subset_cons_self x t) hmem,
        List.forall_mem_cons.mpr ⟨hfirst, List.forall_mem_cons.mpr ⟨?_, hrest⟩⟩⟩
      omega

/-! ## The rows of R194's table -/

/-- The fields with a plain range: the field, its least and its greatest value. -/
def plainFields : List (Nat × Nat × Nat) :=
  [(1, 0, 7), (2, 16, 512), (6, 1, 16), (8, 0, 255), (9, 0, 30), (10, 1, 60), (11, 1, 30), (15, 0, 65535), (16, 0, 65535),
    (17, 0, 65535), (18, 0, 65535), (19, 0, 65535), (20, 0, 65535), (21, 0, 65535), (22, 0, 65535), (23, 100, 65535), (24, 50, 4000),
    (25, 30, 300), (26, 5, 120), (27, 5, 120), (28, 5, 120), (29, 5, 120), (33, 1, 30), (34, 1, 60), (35, 1, 48), (37, 30, 600),
    (38, 10, 120)]

/-- The fields with a stepped range: the field, its step, its least and its greatest value. -/
def steppedFields : List (Nat × Nat × Nat × Nat) := [(7, 50, 50, 800), (36, 100, 800, 2500)]

/-- The fields with chosen values: the field, its least value and the values above it. -/
def chosenFields : List (Nat × Nat × List Nat) := [(5, 3125, [6250, 12500]), (30, 25, [50, 100, 200]), (31, 2, [5, 15, 60])]

section

variable (c : StartUp) (v : Nat)

theorem StartUp.get_put_plain : ∀ r ∈ plainFields, (c.put r.1 v).get r.1 = clampTo r.2.1 r.2.2 v :=
  List.map_inj_left.mp rfl

theorem StartUp.get_put_stepped : ∀ r ∈ steppedFields, (c.put r.1 v).get r.1 = stepped r.2.1 r.2.2.1 r.2.2.2 v :=
  List.map_inj_left.mp rfl

/-- By equations, where the other kinds go by `rfl`: the kernel must not unfold `nearest` on values as great as 12500. -/
theorem StartUp.get_put_chosen : ∀ r ∈ chosenFields, (c.put r.1 v).get r.1 = nearest v r.2.1 r.2.2 := by
  simp [chosenFields, StartUp.put, StartUp.get]

theorem StartUp.get_put_flag : ∀ k ∈ [3, 4, 32], (c.put k v).get k = (decide (v ≠ 0)).toNat :=
  List.map_inj_left.mp rfl

end

theorem plainFields_le : ∀ r ∈ plainFields, r.2.1 ≤ r.2.2 := by decide

theorem steppedFields_le : ∀ r ∈ steppedFields, r.2.2.1 ≤ r.2.2.2 := by decide

theorem chosenFields_rising : ∀ r ∈ chosenFields, (r.2.1 :: r.2.2).Pairwise (· < ·) := by decide

/-! ## The answer of the owning rule -/

/-- The effect of a value given to a field: the field stored, and the preset of a stale timer that is not running (R175, R193). -/
def State.storeStartup (field v : Nat) (s : State) : State :=
  (s.modSys fun y => { y with startup := s.cfg.put field v }).modAcct fun a =>
    { a with staleLeft := if a.closed = [] then 60 * (s.cfg.put field v).sessionStaleTime else a.staleLeft }

@[simp] theorem State.storeStartup_agenda (field v : Nat) (s : State) : (s.storeStartup field v).agenda = s.agenda := rfl

@[simp] theorem State.storeStartup_startup (field v : Nat) (s : State) :
    (s.storeStartup field v).sys.startup = s.sys.startup.put field v := rfl

theorem State.setStartup_store {field v : Nat} (hleast : 1 ≤ field) (hmost : field ≤ 38) (hv : v ≤ 65535) (s : State) :
    s.setStartup field (some v) = .ok (startupReply field true (s.cfg.put field v), s.storeStartup field v) :=
  if_neg (by rw [Option.getD_some]; omega)

/-- The reply of SET STARTUP, of 3 words or 7, is in one part (R181). -/
theorem packParts_startupReply (field : Nat) (written : Bool) (c : StartUp) : (packParts (startupReply field written c)).length = 1 := by
  unfold startupReply
  split <;> rfl

theorem exec_setStartup (x : Xfer) (field : Nat) (value : Option Nat) (s : State) :
    exec (.setStartup x field value) s = .next (s.hostCommand x 4 .initOnly fun s => s.setStartup field value) := rfl

/-- In INIT a value in the range of its words is stored and answered; no consequence follows. -/
theorem exec_setStartup_store {x : Xfer} {field v : Nat} {s : State} (hready : Ready x 4 s) (hmode : s.sys.mode = .init)
    (hpart : x.part = 0) (hleast : 1 ≤ field) (hmost : field ≤ 38) (hv : v ≤ 65535) :
    exec (.setStartup x field (some v)) s = .next (((s.accepted x).storeStartup field v).reply x .ok
      (partOf (startupReply field true ((s.accepted x).cfg.put field v)) 0)) := by
  have hcheck : modeCheck .initOnly s.sys.mode = none := by rw [hmode]; rfl
  have hlast : AsksLast x (startupReply field true ((s.accepted x).cfg.put field v)) := by rw [AsksLast, hpart, packParts_startupReply]
  have ⟨_, hagenda, _⟩ := hready
  rw [exec_setStartup, State.host_ok hready hcheck (State.setStartup_store hleast hmost hv _) hlast, hpart, State.settle_of_agenda]
  exact (State.accepted_agenda x s).trans hagenda

/-! ## The obligation -/

/-- Settles O11: each kind of field is a row of the table, made legal by the one function of its kind; a threshold is clamped and the three
put in order; and in INIT the owning rule takes every value in the range of its words. -/
theorem valuesAreMadeLegal : Obligations.ValuesAreMadeLegal := by
  refine ⟨fun c v => ⟨fun k lo hi hk => ?plain, fun k step lo hi hk => ?stepped, fun k l hk => ?chosen, fun k hk => ?flag,
    ?thresholds⟩, fun x field v s hready hmode hpart hleast hmost hv => ?taken⟩
  case plain => exact (c.get_put_plain v _ hk).trans (clampTo_eq_ite (plainFields_le _ hk) v)
  case stepped => exact (c.get_put_stepped v _ hk).trans (stepped_eq_ite (steppedFields_le _ hk) step v)
  case chosen =>
    have hrow : (k, l) ∈ chosenFields.map fun r => (r.1, r.2.1 :: r.2.2) := hk
    obtain ⟨⟨k, least, rest⟩, hr, heq⟩ := List.mem_map.mp hrow
    obtain ⟨rfl, rfl⟩ := Prod.mk.inj heq
    rw [c.get_put_chosen v _ hr]
    exact nearest_isNearest v least (chosenFields_rising _ hr)
  case flag => exact (c.get_put_flag v k hk).trans (flag_toNat v)
  case thresholds =>
    rw [← clampTo_eq_ite (by decide : 1 ≤ 8) v]
    exact ⟨⟨rfl, rfl, rfl⟩, ⟨rfl, rfl, rfl⟩, ⟨rfl, rfl, rfl⟩⟩
  case taken =>
    refine ⟨_, exec_setStartup_store hready hmode hpart hleast hmost hv, ?_, rfl⟩
    calc ((s.accepted x).storeStartup field v).sys.startup
        = (s.accepted x).sys.startup.put field v := State.storeStartup_startup ..
      _ = s.sys.startup.put field v := by rw [State.accepted_sys]

end Sys2Proof.Machine

/-! SUPPORT. What one command does in terms of the shared operations, said once for every relation that they keep, with the step lemmas on what
hangs on the Start-Up Block, the queue of waiting commands and the sizes of the tables, and the obligation that no command leaves a
consequence waiting. -/

namespace Sys2Proof.Machine

open Sys2Proof.Certificates

/-! ## What one command does, in terms of the shared operations -/

/-- Every state that an owning rule's answer leaves stands in the relation; a refusal leaves none. -/
def Answered.Leaves (P : State → Prop) : Answered → Prop
  | .error _ => True
  | .stale t => P t
  | .ok (_, t) => P t

theorem Answered.Leaves.mono {P Q : State → Prop} {a : Answered} (h : a.Leaves P) (hPQ : ∀ t, P t → Q t) : a.Leaves Q := by
  cases a with
  | error c => trivial
  | stale t => exact hPQ t h
  | ok b => exact hPQ b.2 h

/-- A relation of a state to a later one that the Local Port's own work keeps: a transfer accepted, a reply made, the consequences worked
off. -/
structure PortKeeps (R : State → State → Prop) : Prop where
  refl : ∀ s : State, R s s
  trans : ∀ {s t u}, R s t → R t u → R s u
  settle : ∀ s : State, R s s.settle
  accepted : ∀ x s, R s (s.accepted x)
  reply : ∀ x c w s, R s (s.reply x c w)

/-- A relation of a state to a later one that every operation of a command keeps, each under the guard that its command puts before it.
SET STARTUP and POWER_ON_RESET stand apart: they alone write the Start-Up Block. -/
structure StepKeeps (R : State → State → Prop) : Prop extends PortKeeps R where
  frameFault : ∀ s : State, R s (s.modPort fun p => { p with frameFault := true })
  resetRises : ∀ s : State, R s (s.modSys fun y => { y with resetHeld := false })
  -- the host's commands
  loadDrive : ∀ a c p s, (State.loadDrive a c p s).Leaves (R s)
  loadReel : ∀ a s, (State.loadReel a s).Leaves (R s)
  start : ∀ s : State, s.sys.mode = .init → s.start.Leaves (R s)
  mount : ∀ a s, (State.mount a s).Leaves (R s)
  dismountRequest : ∀ r n e s, R s (s.dismountRequest r n e)
  releaseProxy : ∀ r k s, R s (s.releaseProxy r k)
  cancelRequest : ∀ r s, R s (s.cancelRequest r)
  takeInFlight : ∀ s : State, R s s.takeInFlight
  countStale : ∀ s : State, R s s.countStale
  completeOrder : ∀ o ring s, R s (s.completeOrder o ring)
  faultOrder : ∀ o f s, R s (s.faultOrder o f)
  labelApply : ∀ c k s, R s (s.labelApply c k)
  slotApply : ∀ n k s, R s (s.slotApply n k)
  endAudit : ∀ s : State, s.endAudit.Leaves (R s)
  driveOffline : ∀ d y s, R s (s.driveOffline d y)
  driveToIdle : ∀ d s, R s (s.driveToIdle d)
  driveToEmpty : ∀ d s, R s (s.driveToEmpty d)
  push : ∀ w s, R s (s.push w)
  takeSession : ∀ s : State, s.takeSession.Leaves (R s)
  clearAccount : ∀ n s, (State.clearAccount n s).Leaves (R s)
  readLost : ∀ s : State, s.readLost.Leaves (R s)
  readLine : ∀ p s, (State.readLine p s).Leaves (R s)
  clearRetry : ∀ s : State, s.clearRetry.Leaves (R s)
  takeReport : ∀ s : State, s.takeReport.Leaves (R s)
  readStatus : ∀ s : State, s.readStatus.Leaves (R s)
  resume : ∀ x s, (State.resume x s).Leaves (R s)
  restart : ∀ s : State, s.restart.Leaves (R s)
  -- time, the drives, the reels and the requests
  reach : ∀ e s, R s (s.reach e)
  goAlone : ∀ s : State, s.sys.mode = .active → R s s.goAlone
  listenOver : ∀ s : State, R s (s.modSys fun y => { y with listenEnd := none })
  enterActive : ∀ s : State, s.sys.mode = .joining → R s s.enterActive
  tick : ∀ s : State, R s s.tick
  stale : ∀ s : State, R s s.stale
  endCleaning : ∀ d y s, R s (s.endCleaning d y)
  reservationOver : ∀ v s, R s (s.updEntry v fun x => { x with reservation := none })
  failRequest : ∀ r c s, R s (s.failRequest r c)
  becomeLate : ∀ q s, R s (s.becomeLate q)
  hopLapse : ∀ r q s, s.findReq r = some q → R s (s.hopLapse q)
  forward : ∀ q s, R s (s.forward q)
  slow : ∀ o s, R s (s.slow o)
  timeOut : ∀ o s, R s (s.timeOut o)
  pauseOver : ∀ s : State, R s (s.modArm fun a => { a with retryEnd := none })
  -- the panel
  beginPress : ∀ b s, R s (s.beginPress b)
  ackReleased : ∀ s : State, R s (s.modPanel fun u => { u with ackPress := none })
  nextReleased : ∀ s : State, R s (s.modPanel fun u => { u with nextPress := none })
  ackPrompt : ∀ p s, R s (s.ackPrompt p)
  declinePrompt : ∀ p s, R s (s.declinePrompt p)
  setCursor : ∀ k s, R s (s.setCursor k)
  openDoor : ∀ s : State, R s (s.withCondition State.openDoor)
  closeDoor : ∀ s : State, R s (s.withCondition State.closeDoor)
  doorExpires : ∀ s : State, R s (s.modPanel fun u => { u with doorLimitEnd := none, doorExpired := true })
  raisePlain : ∀ c k s, R s (s.raisePlain c k)
  showPrompt : ∀ k s, R s (s.showPrompt k)
  escalate : ∀ k s, R s (s.escalate k)
  -- the line
  beginFrame : ∀ s : State, R s s.beginFrame
  contentionLost : ∀ s : State, R s s.contentionLost
  failAttempt : ∀ k s, R s (s.failAttempt k)
  attemptWitnessed : ∀ s : State, R s s.attemptWitnessed
  recover : ∀ s : State, s.line.state = .detached → R s s.recover
  badFrame : ∀ s : State, s.sys.mode ≠ .init → R s s.badFrame
  peerGone : ∀ p s, R s (s.peerGone p)
  askPresence : ∀ tag s, R s (s.askPresence tag)
  startPresence : ∀ s : State, R s s.startPresence
  takeFrame : ∀ p pres act s, s.sys.mode ≠ .init → (∀ t, R t (act t)) → R s (s.takeFrame p pres act)
  hearPresence : ∀ b p s, R s (s.hearPresence b p)
  -- the Peer Exchange and the Claim Unit
  hearSeek : ∀ b p s, R s (s.hearSeek b p)
  hearHave : ∀ b p s, R s (s.hearHave b p)
  takePlace : ∀ b p s, R s (s.takePlace b p)
  hearPlaced : ∀ r p s, R s (s.hearPlaced r p)
  hearRefused : ∀ r c p s, R s (s.hearRefused r c p)
  fromServer : ∀ r p m act s, (∀ q t, R t (act q t)) → R s (s.fromServer r p m act)
  applyOutcome : ∀ q ev s, R s (s.applyOutcome q ev)
  applyState : ∀ q a s, R s (s.applyState q a)
  hearRelease : ∀ r k p s, R s (s.hearRelease r k p)
  hearAsk : ∀ r s, R s (s.hearAsk r)
  hearHold : ∀ b c s, R s (s.hearHold b c)
  hearYield : ∀ b c s, R s (s.hearYield b c)
  hearHandoff : ∀ b p s, R s (s.hearHandoff b p)
  closeWindow : ∀ r s, R s (s.closeWindow r)
  settleReseek : ∀ r s, R s (s.settleReseek r)
  countAttempt : ∀ r f u s, R s (s.countAttempt r f u)
  followUp : ∀ q s, R s (s.followUp q)
  hopRefused : ∀ r p s, R s (s.hopRefused r p)

/-- The two commands that write the Start-Up Block. -/
def writesStartUp : Instr → Bool
  | .powerOnReset => true
  | .setStartup .. => true
  | _ => false

theorem checkDrive_leaves {P : State → Prop} (d : Nat) {act : Drive → Answered} {s : State} (h : ∀ y, (act y).Leaves P) :
    (s.checkDrive d act).Leaves P := by
  unfold State.checkDrive
  split
  · trivial
  split
  · trivial
  split
  · trivial
  split
  · trivial
  · exact h _

/-! ## The host's commands -/

section

variable {R : State → State → Prop} (hP : PortKeeps R)

include hP

theorem PortKeeps.replyPart (x : Xfer) {a : Answered} {s : State} (ha : a.Leaves (R s)) : R s (s.replyPart x a) := by
  cases a with
  | error c => exact hP.reply x c [] s
  | stale t => exact hP.trans ha (hP.reply x .staleOrder [] t)
  | ok b =>
    unfold State.replyPart
    dsimp only
    split
    · exact hP.reply x .badValue [] s
    split
    · exact hP.reply x .ok _ s
    · exact hP.trans ha (hP.reply x .ok _ _)

theorem PortKeeps.execute (x : Xfer) (least : Nat) (k : Kind) {f : State → Answered} (s : State)
    (hf : ∀ t, modeCheck k t.sys.mode = none → (f t).Leaves (R t)) : R s (s.execute x least k f) := by
  have hacc := hP.accepted x s
  unfold State.execute
  dsimp only
  split
  · exact hP.trans hacc (hP.reply x .badValue [] _)
  split
  · exact hP.trans hacc (hP.reply x _ [] _)
  next hmode => exact hP.trans hacc (hP.replyPart x (hf _ hmode))

/-- A command of the host keeps what its owning rule keeps. -/
theorem PortKeeps.host (x : Xfer) (least : Nat) (k : Kind) {f : State → Answered} (s : State)
    (hf : ∀ t, modeCheck k t.sys.mode = none → (f t).Leaves (R t)) : R s (s.hostCommand x least k f) := by
  unfold State.hostCommand
  split
  · exact hP.refl s
  · exact hP.trans (hP.execute x least k s hf) (hP.settle _)

theorem PortKeeps.then_settle {s t : State} (h : R s t) : R s t.settle := hP.trans h (hP.settle t)

end

section

variable {R : State → State → Prop} (hR : StepKeeps R)

include hR

theorem StepKeeps.dismount (r : ReqNo) (n : Nat) (s : State) : (s.dismount r n).Leaves (R s) := by
  unfold State.dismount
  split
  · trivial
  split
  · trivial
  split
  · exact hR.dismountRequest ..
  · exact hR.releaseProxy ..
  · trivial

theorem StepKeeps.cancel (r : ReqNo) (s : State) : (s.cancel r).Leaves (R s) := by
  unfold State.cancel
  split
  · trivial
  split
  · trivial
  split
  · trivial
  · exact hR.cancelRequest ..

theorem StepKeeps.takeOrder (s : State) : s.takeOrder.Leaves (R s) := by
  unfold State.takeOrder
  split
  · trivial
  split
  · exact hR.refl s
  · exact hR.takeInFlight s

theorem StepKeeps.answerOrder (n : Nat) {act : Order → Answered} {s : State} (h : ∀ o, (act o).Leaves (R s)) :
    (s.answerOrder n act).Leaves (R s) := by
  unfold State.answerOrder
  split
  · trivial
  split
  · trivial
  split
  · exact hR.countStale s
  split
  · exact h _
  · exact hR.countStale s

theorem StepKeeps.orderDone (n : Nat) (ring : Option Bool) (s : State) : (s.orderDone n ring).Leaves (R s) := by
  refine hR.answerOrder n fun o => ?_
  split
  · trivial
  · exact hR.completeOrder ..
  · exact hR.completeOrder ..

theorem StepKeeps.orderFault (n : Nat) (reason : Option FaultReason) (s : State) : (s.orderFault n reason).Leaves (R s) := by
  refine hR.answerOrder n fun o => ?_
  split
  · trivial
  · exact hR.faultOrder ..

theorem StepKeeps.labelRead (c : Nat) (k : Option CellContent) (s : State) : (s.labelRead c k).Leaves (R s) := by
  unfold State.labelRead
  split
  · trivial
  split
  · trivial
  split
  · trivial
  · exact hR.labelApply ..

theorem StepKeeps.slotReport (n : Nat) (k : Option SlotContent) (s : State) : (s.slotReport n k).Leaves (R s) := by
  unfold State.slotReport
  split
  · trivial
  split
  · trivial
  · split
    · trivial
    · exact hR.slotApply ..
  · split
    · trivial
    · exact hR.slotApply ..

theorem StepKeeps.driveOnline (d : Nat) (y : Drive) (s : State) : (s.driveOnline d y).Leaves (R s) := by
  unfold State.driveOnline
  split
  · trivial
  · refine hR.trans ?_ (hR.push .issue _)
    split
    · exact hR.driveToIdle d s
    · exact hR.driveToEmpty d s

/-! ## The commands that answer from the tables alone -/

theorem StepKeeps.queryRequest (r : ReqNo) (s : State) : (s.queryRequest r).Leaves (R s) := by
  unfold State.queryRequest
  split
  · trivial
  split
  · trivial
  · exact hR.refl s

theorem StepKeeps.readReel (v : Option Serial) (n c : Option Nat) (s : State) : (s.readReel v n c).Leaves (R s) := by
  unfold State.readReel
  split
  iterate 3
    · split
      · exact hR.refl s
      · trivial
  · trivial

theorem StepKeeps.readDrive (d : Nat) (s : State) : (s.readDrive d).Leaves (R s) := by
  unfold State.readDrive
  split
  · trivial
  · exact hR.refl s

theorem StepKeeps.readAccount (n : Nat) (s : State) : (s.readAccount n).Leaves (R s) := by
  unfold State.readAccount
  split
  · trivial
  · exact hR.refl s

/-! ## The panel -/

theorem StepKeeps.actAck (isLong : Bool) (p : Prompt) (s : State) : R s (s.actAck isLong p) := by
  unfold State.actAck
  split
  · exact hR.declinePrompt p s
  · exact hR.ackPrompt p s

theorem StepKeeps.releaseAck (ms : Nat) {act : Bool → Prompt → State → State} (s : State) (h : ∀ b q t, R t (act b q t)) :
    R s (s.releaseAck ms act) := by
  unfold State.releaseAck
  split
  · exact hR.refl s
  next p _ =>
    have hreleased := hR.trans (hR.reach (p.since + ms) s) (hR.ackReleased _)
    dsimp only
    split
    · exact hreleased
    · exact hR.then_settle (hR.trans hreleased (h _ _ _))

theorem StepKeeps.releaseNext (ms : Nat) {act : Bool → PromptKey → State → State} (s : State) (h : ∀ b k t, R t (act b k t)) :
    R s (s.releaseNext ms act) := by
  unfold State.releaseNext
  split
  · exact hR.refl s
  next p _ =>
    have hreleased := hR.trans (hR.reach (p.since + ms) s) (hR.nextReleased _)
    dsimp only
    split
    · exact hreleased
    · exact hR.trans hreleased (h _ _ _)

/-! ## The line and the exchange -/

/-- A frame heard keeps what its delivery keeps. -/
theorem StepKeeps.hear (p : Nat) (legal pres : Bool) {act : State → State} (s : State) (h : ∀ t, R t (act t)) :
    R s (s.hear p legal pres act) := by
  unfold State.hear
  split
  · exact hR.refl s
  next hmode =>
    split
    · exact hR.then_settle (hR.takeFrame p pres act s hmode h)
    · exact hR.then_settle (hR.badFrame s hmode)

theorem StepKeeps.addressed (n : Nat) {act : State → State} (s : State) (h : ∀ t, R t (act t)) : R s (s.addressed n act) := by
  unfold State.addressed
  split
  · exact h s
  · exact hR.refl s

theorem StepKeeps.waitOver (r : ReqNo) (ph : Phase) (wait : Request → Option Nat) {act : Request → State → State} (s : State)
    (h : ∀ q t, R t (act q t)) : R s (s.waitOver r ph wait act) := by
  unfold State.waitOver
  split
  · exact hR.refl s
  split
  · exact hR.refl s
  split
  · exact hR.then_settle (hR.trans (hR.reach _ s) (h _ _))
  · exact hR.refl s

end


/-! ## Every command -/

theorem mode_of_initOnly {m : Mode} (h : modeCheck .initOnly m = none) : m = .init := by
  cases m with
  | init => rfl
  | _ => exact absurd h (by decide)

section

variable {R : State → State → Prop} (hR : StepKeeps R)

include hR

theorem StepKeeps.undefinedCommandCode (x : Xfer) (code : Nat) (s : State) :
    ∃ t, exec (.undefinedCommandCode x code) s = .next t ∧ R s t := by
  refine ⟨_, rfl, ?_⟩
  split
  · exact hR.refl s
  · exact hR.trans (hR.accepted x s) (hR.reply x _ _ _)

theorem StepKeeps.faultedTransfer (s : State) : ∃ t, exec .faultedTransfer s = .next t ∧ R s t := by
  refine ⟨_, rfl, ?_⟩
  split
  · exact hR.refl s
  · exact hR.frameFault s

theorem StepKeeps.silenceTimerExpiry (s : State) : ∃ t, exec .silenceTimerExpiry s = .next t ∧ R s t := by
  refine ⟨_, rfl, ?_⟩
  split
  · exact hR.refl s
  split
  next hmode => exact hR.then_settle (hR.trans (hR.reach _ s) (hR.goAlone _ hmode))
  · exact hR.refl s

theorem StepKeeps.listenTimerExpiry (s : State) : ∃ t, exec .listenTimerExpiry s = .next t ∧ R s t := by
  refine ⟨_, rfl, ?_⟩
  split
  · exact hR.refl s
  next e _ =>
    have hover := hR.trans (hR.reach e s) (hR.listenOver _)
    dsimp only
    split
    · exact hover
    next hmode =>
      split
      · exact hR.then_settle (hR.trans hover (hR.askPresence _ _))
      · exact hR.then_settle (hR.trans hover (hR.enterActive _ (not_not.mp hmode)))

theorem StepKeeps.secondTick (s : State) : ∃ t, exec .secondTick s = .next t ∧ R s t := by
  refine ⟨_, rfl, ?_⟩
  split
  · exact hR.refl s
  · exact hR.trans (hR.reach _ s) (hR.tick _)

theorem StepKeeps.buttonPress (b : Button) (s : State) : ∃ t, exec (.buttonPress b) s = .next t ∧ R s t := by
  refine ⟨_, rfl, ?_⟩
  split
  · exact hR.refl s
  · exact hR.beginPress b s

theorem StepKeeps.ackShort (s : State) : ∃ t, exec .ackShort s = .next t ∧ R s t := by
  refine ⟨_, rfl, ?_⟩
  split
  · exact hR.refl s
  · exact hR.releaseAck 30 s hR.actAck

theorem StepKeeps.ackLong (s : State) : ∃ t, exec .ackLong s = .next t ∧ R s t := by
  refine ⟨_, rfl, ?_⟩
  split
  · exact hR.refl s
  · exact hR.releaseAck _ s fun _ => hR.actAck true

theorem StepKeeps.nextShort (s : State) : ∃ t, exec .nextShort s = .next t ∧ R s t := by
  refine ⟨_, rfl, ?_⟩
  split
  · exact hR.refl s
  · exact hR.releaseNext 30 s fun _ _ t => hR.setCursor _ t

theorem StepKeeps.nextLong (s : State) : ∃ t, exec .nextLong s = .next t ∧ R s t := by
  refine ⟨_, rfl, ?_⟩
  split
  · exact hR.refl s
  · exact hR.releaseNext _ s fun _ _ t => hR.setCursor _ t

theorem StepKeeps.doorChange (isOpen : Bool) (s : State) : ∃ t, exec (.doorChange isOpen) s = .next t ∧ R s t := by
  refine ⟨_, rfl, ?_⟩
  split
  · exact hR.refl s
  cases isOpen with
  | true => exact hR.then_settle (hR.openDoor s)
  | false => exact hR.then_settle (hR.closeDoor s)

theorem StepKeeps.doorLimitExpiry (s : State) : ∃ t, exec .doorLimitExpiry s = .next t ∧ R s t := by
  refine ⟨_, rfl, ?_⟩
  split
  · exact hR.refl s
  · exact hR.then_settle (hR.trans (hR.trans (hR.reach _ s) (hR.doorExpires _)) (hR.raisePlain _ _ _))

theorem StepKeeps.settleEnd (cls : PromptClass) (sub : Subject) (s : State) :
    ∃ t, exec (.settleEnd cls sub) s = .next t ∧ R s t := by
  refine ⟨_, rfl, ?_⟩
  split
  · exact hR.refl s
  · exact hR.then_settle (hR.trans (hR.reach _ s) (hR.showPrompt _ _))

theorem StepKeeps.promptAgeEscalation (cls : PromptClass) (sub : Subject) (s : State) :
    ∃ t, exec (.promptAgeEscalation cls sub) s = .next t ∧ R s t := by
  refine ⟨_, rfl, ?_⟩
  split
  · exact hR.refl s
  split
  · exact hR.then_settle (hR.escalate _ s)
  · exact hR.refl s

theorem StepKeeps.graceExpiry (d : Nat) (s : State) : ∃ t, exec (.graceExpiry d) s = .next t ∧ R s t := by
  refine ⟨_, rfl, ?_⟩
  split
  · exact hR.refl s
  split
  · exact hR.then_settle (hR.driveToIdle d s)
  · exact hR.refl s

theorem StepKeeps.cleaningEnd (d : Nat) (s : State) : ∃ t, exec (.cleaningEnd d) s = .next t ∧ R s t := by
  refine ⟨_, rfl, ?_⟩
  split
  · exact hR.refl s
  split
  · exact hR.then_settle (hR.endCleaning d _ s)
  · exact hR.refl s

theorem StepKeeps.deadlinePassed (r : ReqNo) (s : State) : ∃ t, exec (.deadlinePassed r) s = .next t ∧ R s t := by
  refine ⟨_, rfl, ?_⟩
  split
  · exact hR.refl s
  split
  · refine hR.then_settle ?_
    split
    · exact hR.failRequest r _ s
    · exact hR.becomeLate _ s
  · exact hR.refl s

theorem StepKeeps.hopExpiry (r : ReqNo) (s : State) : ∃ t, exec (.hopExpiry r) s = .next t ∧ R s t := by
  refine ⟨_, rfl, ?_⟩
  split
  · exact hR.refl s
  next q hq =>
    split
    · exact hR.then_settle (hR.hopLapse r q s hq)
    · exact hR.refl s

theorem StepKeeps.forwardCheck (r : ReqNo) (s : State) : ∃ t, exec (.forwardCheck r) s = .next t ∧ R s t := by
  refine ⟨_, rfl, ?_⟩
  split
  · exact hR.refl s
  split
  · exact hR.then_settle (hR.forward _ s)
  · exact hR.refl s

theorem StepKeeps.reservationExpiry (v : Serial) (s : State) : ∃ t, exec (.reservationExpiry v) s = .next t ∧ R s t := by
  refine ⟨_, rfl, ?_⟩
  split
  · exact hR.trans (hR.reach _ s) (hR.reservationOver v _)
  · exact hR.refl s

theorem StepKeeps.orderSlow (s : State) : ∃ t, exec .orderSlow s = .next t ∧ R s t := by
  refine ⟨_, rfl, ?_⟩
  split
  · exact hR.refl s
  split
  · exact hR.refl s
  split
  · exact hR.refl s
  · exact hR.trans (hR.reach _ s) (hR.slow _ _)

theorem StepKeeps.orderTimeout (s : State) : ∃ t, exec .orderTimeout s = .next t ∧ R s t := by
  refine ⟨_, rfl, ?_⟩
  split
  · exact hR.refl s
  split
  · exact hR.refl s
  · exact hR.then_settle (hR.trans (hR.reach _ s) (hR.timeOut _ _))

theorem StepKeeps.retryPauseEnd (s : State) : ∃ t, exec .retryPauseEnd s = .next t ∧ R s t := by
  refine ⟨_, rfl, ?_⟩
  split
  · exact hR.refl s
  · exact hR.then_settle (hR.trans (hR.trans (hR.reach _ s) (hR.pauseOver _)) (hR.push _ _))

theorem StepKeeps.detachedRecovery (s : State) : ∃ t, exec .detachedRecovery s = .next t ∧ R s t := by
  refine ⟨_, rfl, ?_⟩
  split
  next hstate =>
    split
    · refine hR.then_settle ?_
      split
      · exact hR.recover s hstate
      · exact hR.trans (hR.reach _ s) (hR.recover _ hstate)
    · exact hR.refl s
  · exact hR.refl s

theorem StepKeeps.badFrameHeard (s : State) : ∃ t, exec .badFrame s = .next t ∧ R s t := by
  refine ⟨_, rfl, ?_⟩
  split
  · exact hR.refl s
  next hmode => exact hR.then_settle (hR.badFrame s hmode)

theorem StepKeeps.peerAbsent (p : Nat) (s : State) : ∃ t, exec (.peerAbsent p) s = .next t ∧ R s t := by
  refine ⟨_, rfl, ?_⟩
  split
  · exact hR.refl s
  split
  · exact hR.then_settle (hR.trans (hR.reach _ s) (hR.peerGone p _))
  · exact hR.refl s

theorem StepKeeps.presenceTimerExpiry (s : State) : ∃ t, exec .presenceTimerExpiry s = .next t ∧ R s t := by
  refine ⟨_, rfl, ?_⟩
  split
  · exact hR.refl s
  · exact hR.then_settle (hR.trans (hR.trans (hR.reach _ s) (hR.askPresence _ _)) (hR.startPresence _))

theorem StepKeeps.settleReseekDue (r : ReqNo) (s : State) : ∃ t, exec (.settleReseek r) s = .next t ∧ R s t := by
  refine ⟨_, rfl, ?_⟩
  split
  · exact hR.refl s
  · exact hR.then_settle (hR.trans (hR.reach _ s) (hR.settleReseek r _))

theorem StepKeeps.holdHeard (p : Nat) (b : HoldBody) (s : State) : ∃ t, exec (.holdHeard p b) s = .next t ∧ R s t := by
  refine ⟨_, rfl, hR.hear p _ _ s fun t => ?_⟩
  split
  · exact hR.refl t
  · exact hR.hearHold b _ t

theorem StepKeeps.yieldHeard (p : Nat) (b : YieldBody) (s : State) : ∃ t, exec (.yieldHeard p b) s = .next t ∧ R s t := by
  refine ⟨_, rfl, hR.hear p _ _ s fun t => ?_⟩
  split
  · exact hR.refl t
  · exact hR.hearYield b _ t

theorem StepKeeps.handoffHeard (p : Nat) (b : HandoffBody) (s : State) : ∃ t, exec (.handoffHeard p b) s = .next t ∧ R s t := by
  refine ⟨_, rfl, hR.hear p _ _ s fun t => ?_⟩
  split
  · exact hR.refl t
  · exact hR.hearHandoff b p t

/-- Every command but the two that write the Start-Up Block answers a next state that stands in the relation. -/
theorem StepKeeps.exec {c : Instr} (hc : writesStartUp c = false) (s : State) : ∃ t, exec c s = .next t ∧ R s t := by
  cases c with
  | powerOnReset => exact absurd hc (by decide)
  | setStartup => exact absurd hc (by simp [writesStartUp])
  | loadDrive x a c p => exact ⟨_, rfl, hR.host _ _ _ s fun t _ => hR.loadDrive a c p t⟩
  | loadReel x a => exact ⟨_, rfl, hR.host _ _ _ s fun t _ => hR.loadReel a t⟩
  | start => exact ⟨_, rfl, hR.host _ _ _ s fun t h => hR.start t (mode_of_initOnly h)⟩
  | mount x a => exact ⟨_, rfl, hR.host _ _ _ s fun t _ => hR.mount a t⟩
  | dismount x r n => exact ⟨_, rfl, hR.host _ _ _ s fun t _ => hR.dismount r n t⟩
  | cancel x r => exact ⟨_, rfl, hR.host _ _ _ s fun t _ => hR.cancel r t⟩
  | queryRequest x r => exact ⟨_, rfl, hR.host _ _ _ s fun t _ => hR.queryRequest r t⟩
  | takeOrder => exact ⟨_, rfl, hR.host _ _ _ s fun t _ => hR.takeOrder t⟩
  | orderDone x n ring => exact ⟨_, rfl, hR.host _ _ _ s fun t _ => hR.orderDone n ring t⟩
  | orderFault x n reason => exact ⟨_, rfl, hR.host _ _ _ s fun t _ => hR.orderFault n reason t⟩
  | labelRead x c k => exact ⟨_, rfl, hR.host _ _ _ s fun t _ => hR.labelRead c k t⟩
  | slotReport x n k => exact ⟨_, rfl, hR.host _ _ _ s fun t _ => hR.slotReport n k t⟩
  | endAudit => exact ⟨_, rfl, hR.host _ _ _ s fun t _ => hR.endAudit t⟩
  | driveOffline x d => exact ⟨_, rfl, hR.host _ _ _ s fun t _ => checkDrive_leaves d fun y => hR.driveOffline d y t⟩
  | driveOnline x d => exact ⟨_, rfl, hR.host _ _ _ s fun t _ => checkDrive_leaves d fun y => hR.driveOnline d y t⟩
  | readReel x v n c => exact ⟨_, rfl, hR.host _ _ _ s fun t _ => hR.readReel v n c t⟩
  | readDrive x d => exact ⟨_, rfl, hR.host _ _ _ s fun t _ => hR.readDrive d t⟩
  | takeSession => exact ⟨_, rfl, hR.host _ _ _ s fun t _ => hR.takeSession t⟩
  | readAccount x n => exact ⟨_, rfl, hR.host _ _ _ s fun t _ => hR.readAccount n t⟩
  | clearAccount x n => exact ⟨_, rfl, hR.host _ _ _ s fun t _ => hR.clearAccount n t⟩
  | readBands => exact ⟨_, rfl, hR.host _ _ _ s fun t _ => hR.refl t⟩
  | readLost => exact ⟨_, rfl, hR.host _ _ _ s fun t _ => hR.readLost t⟩
  | readLine x p => exact ⟨_, rfl, hR.host _ _ _ s fun t _ => hR.readLine p t⟩
  | clearRetry => exact ⟨_, rfl, hR.host _ _ _ s fun t _ => hR.clearRetry t⟩
  | takeReport => exact ⟨_, rfl, hR.host _ _ _ s fun t _ => hR.takeReport t⟩
  | readStatus => exact ⟨_, rfl, hR.host _ _ _ s fun t _ => hR.readStatus t⟩
  | resume x => exact ⟨_, rfl, hR.host _ _ _ s fun t _ => hR.resume x t⟩
  | restart => exact ⟨_, rfl, hR.host _ _ _ s fun t _ => hR.restart t⟩
  | undefinedCommandCode x code => exact hR.undefinedCommandCode x code s
  | faultedTransfer => exact hR.faultedTransfer s
  | silenceTimerExpiry => exact hR.silenceTimerExpiry s
  | buttonPress b => exact hR.buttonPress b s
  | ackShort => exact hR.ackShort s
  | ackLong => exact hR.ackLong s
  | nextShort => exact hR.nextShort s
  | nextLong => exact hR.nextLong s
  | doorChange isOpen => exact hR.doorChange isOpen s
  | doorLimitExpiry => exact hR.doorLimitExpiry s
  | secondTick => exact hR.secondTick s
  | graceExpiry d => exact hR.graceExpiry d s
  | cleaningEnd d => exact hR.cleaningEnd d s
  | deadlinePassed r => exact hR.deadlinePassed r s
  | hopExpiry r => exact hR.hopExpiry r s
  | forwardCheck r => exact hR.forwardCheck r s
  | promptAgeEscalation cls sub => exact hR.promptAgeEscalation cls sub s
  | staleTimerExpiry => exact ⟨_, rfl, hR.stale s⟩
  | reservationExpiry v => exact hR.reservationExpiry v s
  | orderSlow => exact hR.orderSlow s
  | orderTimeout => exact hR.orderTimeout s
  | retryPauseEnd => exact hR.retryPauseEnd s
  | settleEnd cls sub => exact hR.settleEnd cls sub s
  | frameSendStart => exact ⟨_, rfl, hR.beginFrame s⟩
  | contentionLost => exact ⟨_, rfl, hR.then_settle (hR.contentionLost s)⟩
  | transmitFault => exact ⟨_, rfl, hR.then_settle (hR.failAttempt 8 s)⟩
  | attemptWitnessed => exact ⟨_, rfl, hR.then_settle (hR.attemptWitnessed s)⟩
  | attemptUnwitnessed => exact ⟨_, rfl, hR.then_settle (hR.failAttempt _ s)⟩
  | detachedRecovery => exact hR.detachedRecovery s
  | badFrame => exact hR.badFrameHeard s
  | brokenOffFrame => exact ⟨_, rfl, hR.refl s⟩
  | presenceHeard p b => exact ⟨_, rfl, hR.hear p _ _ s fun t => hR.hearPresence b p t⟩
  | peerAbsent p => exact hR.peerAbsent p s
  | presenceTimerExpiry => exact hR.presenceTimerExpiry s
  | seekHeard p b => exact ⟨_, rfl, hR.hear p _ _ s fun t => hR.hearSeek b p t⟩
  | haveHeard p b => exact ⟨_, rfl, hR.hear p _ _ s fun t => hR.addressed _ t fun u => hR.hearHave b p u⟩
  | windowClose r => exact ⟨_, rfl, hR.waitOver r _ _ s fun _ t => hR.closeWindow r t⟩
  | settleReseek r => exact hR.settleReseekDue r s
  | placeHeard p b => exact ⟨_, rfl, hR.hear p _ _ s fun t => hR.addressed _ t fun u => hR.takePlace b p u⟩
  | viaHatchPlaceHeard p b => exact ⟨_, rfl, hR.hear p _ _ s fun t => hR.addressed _ t fun u => hR.takePlace b p u⟩
  | placedHeard p b => exact ⟨_, rfl, hR.hear p _ _ s fun t => hR.addressed _ t fun u => hR.hearPlaced _ p u⟩
  | refusedHeard p b => exact ⟨_, rfl, hR.hear p _ _ s fun t => hR.addressed _ t fun u => hR.hearRefused _ _ p u⟩
  | placeWaitEnd r => exact ⟨_, rfl, hR.waitOver r _ _ s fun _ t => hR.countAttempt r _ true t⟩
  | followUpWaitEnd r => exact ⟨_, rfl, hR.waitOver r _ _ s hR.followUp⟩
  | hopPlaceWaitEnd r => exact ⟨_, rfl, hR.waitOver r _ _ s fun _ t => hR.hopRefused r _ t⟩
  | outcomeHeard p b =>
    exact ⟨_, rfl, hR.hear p _ _ s fun t => hR.addressed _ t fun u => hR.fromServer _ p _ _ u fun q v => hR.applyOutcome q _ v⟩
  | releaseHeard p b => exact ⟨_, rfl, hR.hear p _ _ s fun t => hR.addressed _ t fun u => hR.hearRelease _ _ p u⟩
  | askHeard p b => exact ⟨_, rfl, hR.hear p _ _ s fun t => hR.addressed _ t fun u => hR.hearAsk _ u⟩
  | stateHeard p b =>
    exact ⟨_, rfl, hR.hear p _ _ s fun t => hR.addressed _ t fun u => hR.fromServer _ p _ _ u fun q v => hR.applyState q _ v⟩
  | holdHeard p b => exact hR.holdHeard p b s
  | yieldHeard p b => exact hR.yieldHeard p b s
  | handoffHeard p b => exact hR.handoffHeard p b s
  | listenTimerExpiry => exact hR.listenTimerExpiry s
  | resetRelease => exact ⟨_, rfl, hR.resetRises s⟩

end

/-! ## The base of the state (Laws/Base.lean) -/

theorem leaves_base_loadDrive (a c : Nat) (p : Option DrivePos) (s : State) :
    (s.loadDrive a c p).Leaves fun u => u.base = s.base := by
  unfold State.loadDrive
  split
  · trivial
  split
  · trivial
  · exact State.base_modDrv ..

theorem leaves_base_loadReel (a : LoadReelArgs) (s : State) : (s.loadReel a).Leaves fun u => u.base = s.base := by
  unfold State.loadReel
  split
  · split
    · trivial
    split
    · trivial
    · exact State.base_addEntry ..
  · trivial

theorem leaves_base_start (s : State) : s.start.Leaves fun u => u.base = s.base := by
  unfold State.start
  split
  · trivial
  · dsimp only [Answered.Leaves]
    split
    · rw [State.base_raisePlain, State.base_begin]
    · exact State.base_begin s

theorem leaves_base_mount (a : MountArgs) (s : State) : (s.mount a).Leaves fun u => u.base = s.base := by
  unfold State.mount
  split
  · trivial
  split
  · split
    · trivial
    split
    · trivial
    · exact (State.base_firstLook ..).trans (State.base_enterRequest ..)
  · trivial

theorem leaves_base_endAudit (s : State) : s.endAudit.Leaves fun u => u.base = s.base := by
  unfold State.endAudit
  split
  · trivial
  · simp only [Answered.Leaves, State.base_push]
    exact State.base_withCondition _ _ fun t => State.base_modInv _ _ fun _ => rfl

theorem leaves_base_takeSession (s : State) : s.takeSession.Leaves fun u => u.base = s.base := by
  unfold State.takeSession
  split
  · exact rfl
  · exact State.base_modAcct _ _ fun _ => ⟨rfl, rfl, rfl⟩

theorem leaves_base_clearAccount (n : Nat) (s : State) : (s.clearAccount n).Leaves fun u => u.base = s.base := by
  unfold State.clearAccount
  split
  · trivial
  · exact State.base_modAcct _ _ fun _ => ⟨List.length_set, rfl, rfl⟩

theorem leaves_base_readLine (p : Option Nat) (s : State) : (s.readLine p).Leaves fun u => u.base = s.base := by
  unfold State.readLine
  split
  · exact State.base_modLine _ _ fun _ => rfl
  split
  · trivial
  · exact rfl

theorem leaves_base_takeReport (s : State) : s.takeReport.Leaves fun u => u.base = s.base := by
  unfold State.takeReport
  split
  · exact rfl
  · exact State.base_modPort ..

theorem leaves_base_resume (x : Xfer) (s : State) : (s.resume x).Leaves fun u => u.base = s.base := by
  unfold State.resume
  split
  · trivial
  · simp only [Answered.Leaves, State.base_push]
    exact State.base_withCondition _ _ fun t => (State.base_modPort ..).trans (State.base_modSys _ _ fun _ => rfl)

theorem leaves_base_restart (s : State) : s.restart.Leaves fun u => u.base = s.base := by
  unfold State.restart
  split
  · trivial
  split
  · exact rfl
  · have hstopped : (((s.modPort fun p => { p with silenceEnd := none }).modLine fun l => { l with presenceEnd := none }).modSys fun y =>
        { y with listenEnd := none }).base = s.base := rfl
    dsimp only
    split
    · exact (State.base_completeRestart _).trans hstopped
    · exact (State.base_queueLeaving _).trans hstopped

/-- Every command but POWER_ON_RESET and SET STARTUP keeps the Start-Up Block, the queue of waiting commands and the sizes of the tables. -/
theorem stepKeeps_base : StepKeeps fun s t => t.base = s.base where
  refl _ := rfl
  trans h k := k.trans h
  settle := State.base_settle
  accepted := State.base_accepted
  reply := State.base_reply
  frameFault := State.base_modPort _
  resetRises _ := State.base_modSys _ _ fun _ => rfl
  loadDrive := leaves_base_loadDrive
  loadReel := leaves_base_loadReel
  start s _ := leaves_base_start s
  mount := leaves_base_mount
  dismountRequest := State.base_dismountRequest
  releaseProxy := State.base_releaseProxy
  cancelRequest := State.base_cancelRequest
  takeInFlight s := State.base_of_kept (State.kept_takeInFlight s)
  countStale := State.base_countStale
  completeOrder := State.base_completeOrder
  faultOrder := State.base_faultOrder
  labelApply := State.base_labelApply
  slotApply := State.base_slotApply
  endAudit := leaves_base_endAudit
  driveOffline := State.base_driveOffline
  driveToIdle := State.base_driveToIdle
  driveToEmpty d s := State.base_of_kept (State.kept_driveToEmpty d s)
  push := State.base_push
  takeSession := leaves_base_takeSession
  clearAccount := leaves_base_clearAccount
  readLost _ := State.base_modAcct _ _ fun _ => ⟨rfl, rfl, rfl⟩
  readLine := leaves_base_readLine
  clearRetry := State.base_modArm _
  takeReport := leaves_base_takeReport
  readStatus := State.base_modPort _
  resume := leaves_base_resume
  restart := leaves_base_restart
  reach := State.base_reach
  goAlone s _ := State.base_goAlone s
  listenOver _ := State.base_modSys _ _ fun _ => rfl
  enterActive s _ := State.base_enterActive s
  tick := State.base_tick
  stale := State.base_stale
  endCleaning := State.base_endCleaning
  reservationOver v := State.base_updEntry v _
  failRequest := State.base_failRequest
  becomeLate := State.base_becomeLate
  hopLapse _ q s _ := State.base_hopLapse q s
  forward := State.base_forward
  slow := State.base_slow
  timeOut := State.base_timeOut
  pauseOver := State.base_modArm _
  beginPress := State.base_beginPress
  ackReleased := State.base_modPanel _
  nextReleased := State.base_modPanel _
  ackPrompt := State.base_ackPrompt
  declinePrompt := State.base_declinePrompt
  setCursor := State.base_setCursor
  openDoor s := State.base_withCondition _ s State.base_openDoor
  closeDoor s := State.base_withCondition _ s State.base_closeDoor
  doorExpires := State.base_modPanel _
  raisePlain := State.base_raisePlain
  showPrompt k s := State.base_of_kept (State.kept_showPrompt k s)
  escalate := State.base_escalate
  beginFrame := State.base_beginFrame
  contentionLost := State.base_contentionLost
  failAttempt := State.base_failAttempt
  attemptWitnessed := State.base_attemptWitnessed
  recover s _ := State.base_recover s
  badFrame s _ := State.base_badFrame s
  peerGone := State.base_peerGone
  askPresence := State.base_askPresence
  startPresence := State.base_startPresence
  takeFrame p pres act s _ h := State.base_takeFrame p pres act s h
  hearPresence := State.base_hearPresence
  hearSeek b p s := State.base_of_kept (State.kept_hearSeek b p s)
  hearHave := State.base_hearHave
  takePlace := State.base_takePlace
  hearPlaced := State.base_hearPlaced
  hearRefused := State.base_hearRefused
  fromServer := State.base_fromServer
  applyOutcome q ev s := State.base_of_kept (State.kept_applyOutcome q ev s)
  applyState q a s := State.base_of_kept (State.kept_applyState q a s)
  hearRelease := State.base_hearRelease
  hearAsk r s := State.base_of_kept (State.kept_hearAsk r s)
  hearHold b c s := State.base_of_kept (State.kept_hearHold b c s)
  hearYield b c s := State.base_of_kept (State.kept_hearYield b c s)
  hearHandoff b p s := State.base_of_kept (State.kept_hearHandoff b p s)
  closeWindow r s := State.base_of_kept (State.kept_closeWindow r s)
  settleReseek := State.base_settleReseek
  countAttempt := State.base_countAttempt
  followUp := State.base_followUp
  hopRefused := State.base_hopRefused

/-! ## A step -/

/-- A step is an idle millisecond, or the command in front with the rest kept waiting. -/
theorem step_cases {s t : State} (h : step s = .next t) : t = s.idle ∨ ∃ c rest, exec c (s.withPending rest) = .next t := by
  unfold step at h
  split at h
  · exact .inl (Host.Outcome.next.inj h).symm
  next c rest _ => exact .inr ⟨c, rest, h⟩

/-- A command keeps what every command keeps, once a relation to a next state is known of it. -/
theorem StepKeeps.of_exec {R : State → State → Prop} (hR : StepKeeps R) {c : Instr} (hc : writesStartUp c = false) {s t : State}
    (h : Machine.exec c s = .next t) : R s t := by
  obtain ⟨u, hu, hsu⟩ := hR.exec hc s
  rw [h] at hu
  exact Host.Outcome.next.inj hu ▸ hsu

/-- A property lasts through every step if every command keeps it, POWER_ON_RESET and SET STARTUP each by its own effect, and so does an
idle millisecond. -/
theorem step_keeps {P : State → Prop} (hexec : ∀ c s t, writesStartUp c = false → exec c s = .next t → P s → P t)
    (hport : PortKeeps fun s t => P s → P t) (hpower : ∀ l, P ((State.reset.modSys fun y => { y with resetHeld := true }).withPending l))
    (hstartup : ∀ field value s, s.sys.mode = .init → (State.setStartup field value s).Leaves fun t => P s → P t)
    (hpending : ∀ s l, P s → P (s.withPending l)) (hidle : ∀ s, P s → P s.idle) {s t : State} (h : P s) (hstep : step s = .next t) :
    P t := by
  obtain rfl | ⟨c, rest, hnext⟩ := step_cases hstep
  · exact hidle s h
  have hrest := hpending s rest h
  by_cases hc : writesStartUp c = false
  · exact hexec c _ t hc hnext hrest
  cases c with
  | powerOnReset => exact Host.Outcome.next.inj hnext ▸ hpower _
  | setStartup x field value =>
    exact Host.Outcome.next.inj hnext ▸
      hport.host x 4 .initOnly (f := fun s => s.setStartup field value) _ (fun t h => hstartup field value t (mode_of_initOnly h)) hrest
  | _ => exact absurd rfl hc

/-! ## The Start-Up Block -/

/-- A value put into a range lies in it. -/
theorem clampTo_mem {lo hi : Nat} (h : lo ≤ hi) (v : Nat) : lo ≤ clampTo lo hi v ∧ clampTo lo hi v ≤ hi := by
  unfold clampTo
  omega

theorem stepped_mem (lo hi step v : Nat) (h : lo ≤ hi) (hlo : lo % step = 0) (hhi : hi % step = 0) :
    lo ≤ stepped step lo hi v ∧ stepped step lo hi v ≤ hi ∧ stepped step lo hi v % step = 0 := by
  obtain ⟨hleast, hmost⟩ := clampTo_mem h (v / step * step)
  refine ⟨hleast, hmost, ?_⟩
  unfold stepped clampTo
  rcases max_choice lo (min hi (v / step * step)) with h | h <;> rw [h]
  · exact hlo
  rcases min_choice hi (v / step * step) with h | h <;> rw [h]
  · exact hhi
  · exact Nat.mul_mod_left ..

theorem nearest_mem (v c : Nat) (l : List Nat) : nearest v c l ∈ c :: l := by
  induction l generalizing c with
  | nil => exact List.mem_cons_self
  | cons x t ih =>
    unfold nearest
    split
    · exact List.mem_cons_of_mem c (ih x)
    · exact List.cons_subset_cons c (List.subset_cons_self x t) (ih c)

theorem clampTo_mem_threshold (v : Nat) : 1 ≤ clampTo 1 8 v ∧ clampTo 1 8 v ≤ 8 := clampTo_mem (by decide) v

/-- R193, R194: a value given to a field of a legal block leaves it legal. -/
theorem StartUp.Legal.put {c : StartUp} (h : c.Legal) (field v : Nat) : (c.put field v).Legal := by
  have ⟨h1, h2, h3, h4⟩ := h.thresholds
  have ⟨hv, hv8⟩ := clampTo_mem_threshold v
  unfold StartUp.put
  split
  · exact { h with station := (clampTo_mem (by decide) v).2 }
  · exact { h with slots := clampTo_mem (by decide) v }
  · exact { h with }
  · exact { h with }
  · exact { h with lineRate := by simpa using nearest_mem v 3125 [6250, 12500] }
  · exact { h with presence := clampTo_mem (by decide) v }
  · exact { h with seek := stepped_mem 50 800 50 v (by decide) (by decide) (by decide) }
  · exact { h with grace := (clampTo_mem (by decide) v).2 }
  · exact { h with settle := (clampTo_mem (by decide) v).2 }
  · exact { h with escalate := clampTo_mem (by decide) v }
  · exact { h with door := clampTo_mem (by decide) v }
  · exact { h with thresholds := by simp only [StartUp.ordered]; omega }
  · exact { h with thresholds := by simp only [StartUp.ordered]; omega }
  · exact { h with thresholds := by simp only [StartUp.ordered]; omega }
  · exact { h with rates := ⟨(clampTo_mem (by decide) v).2, h.rates.2⟩ }
  · exact { h with rates := ⟨h.rates.1, (clampTo_mem (by decide) v).2, h.rates.2.2⟩ }
  · exact { h with rates := ⟨h.rates.1, h.rates.2.1, (clampTo_mem (by decide) v).2, h.rates.2.2.2⟩ }
  · exact { h with rates := ⟨h.rates.1, h.rates.2.1, h.rates.2.2.1, (clampTo_mem (by decide) v).2⟩ }
  · exact { h with fees := ⟨(clampTo_mem (by decide) v).2, h.fees.2⟩ }
  · exact { h with fees := ⟨h.fees.1, (clampTo_mem (by decide) v).2, h.fees.2.2⟩ }
  · exact { h with fees := ⟨h.fees.1, h.fees.2.1, (clampTo_mem (by decide) v).2, h.fees.2.2.2⟩ }
  · exact { h with fees := ⟨h.fees.1, h.fees.2.1, h.fees.2.2.1, (clampTo_mem (by decide) v).2⟩ }
  · exact { h with retire := clampTo_mem (by decide) v }
  · exact { h with clean := clampTo_mem (by decide) v }
  · exact { h with cleaning := clampTo_mem (by decide) v }
  · exact { h with expected := ⟨clampTo_mem (by decide) v, h.expected.2⟩ }
  · exact { h with expected := ⟨h.expected.1, clampTo_mem (by decide) v, h.expected.2.2⟩ }
  · exact { h with expected := ⟨h.expected.1, h.expected.2.1, clampTo_mem (by decide) v, h.expected.2.2.2⟩ }
  · exact { h with expected := ⟨h.expected.1, h.expected.2.1, h.expected.2.2.1, clampTo_mem (by decide) v⟩ }
  · exact { h with margin := by simpa using nearest_mem v 25 [50, 100, 200] }
  · exact { h with pause := by simpa using nearest_mem v 2 [5, 15, 60] }
  · exact { h with }
  · exact { h with silence := clampTo_mem (by decide) v }
  · exact { h with stale := clampTo_mem (by decide) v }
  · exact { h with watermark := clampTo_mem (by decide) v }
  · exact { h with press := stepped_mem 800 2500 100 v (by decide) (by decide) (by decide) }
  · exact { h with hop := clampTo_mem (by decide) v }
  · exact { h with forward := clampTo_mem (by decide) v }
  · exact h

theorem StartUp.legal_powerOn : StartUp.powerOn.Legal := by
  constructor <;> decide

/-! ## What follows from the base of the state -/

theorem portKeeps_of_base (Q : StartUp × List Instr × List Nat → Prop) : PortKeeps fun s t => Q s.base → Q t.base where
  refl _ := id
  trans h k := k ∘ h
  settle s := by rw [State.base_settle]; exact id
  accepted x s := by rw [State.base_accepted]; exact id
  reply x c w s := by rw [State.base_reply]; exact id

theorem base_of_exec {c : Instr} {s t : State} (hc : writesStartUp c = false) (h : exec c s = .next t) : t.base = s.base :=
  stepKeeps_base.of_exec hc h

theorem idle_startup (s : State) : s.idle.sys.startup = s.sys.startup := by
  unfold State.idle
  split <;> rfl

theorem setStartup_legal (field : Nat) (value : Option Nat) (s : State) :
    (s.setStartup field value).Leaves fun t => s.sys.startup.Legal → t.sys.startup.Legal := by
  unfold State.setStartup
  split
  · trivial
  split
  · exact id
  · exact fun h => h.put field _

/-- Settles O57: SET STARTUP stores legal values, POWER_ON_RESET the power-on values, which are legal, and nothing else writes the block. -/
theorem everyStepKeepsALegalStartUp : Obligations.EveryStepKeepsALegalStartUp := by
  intro s t h hstep
  refine step_keeps (P := fun s => s.base.1.Legal) (fun c s t hc hnext hs => ?_) (portKeeps_of_base fun b => b.1.Legal)
    (fun _ => StartUp.legal_powerOn) (fun field value s _ => setStartup_legal field value s) (fun _ _ => id) (fun s hs => ?_) h hstep
  · rw [base_of_exec hc hnext]
    exact hs
  · show s.idle.sys.startup.Legal
    rw [idle_startup]
    exact hs

theorem State.fixedTables_iff (s : State) : s.FixedTables ↔ s.base.2.2 = [4, 8, 64, 4, 4] := by
  simp only [State.base, State.sizes, List.cons.injEq, and_true]
  exact ⟨fun ⟨a, b, c, d, e⟩ => ⟨a, c, b, d, e⟩, fun ⟨a, c, b, d, e⟩ => ⟨a, b, c, d, e⟩⟩

theorem idle_sizes (s : State) : s.idle.sizes = s.sizes := by
  unfold State.idle
  split <;> rfl

theorem setStartup_sizes (field : Nat) (value : Option Nat) (s : State) :
    (s.setStartup field value).Leaves fun t => t.sizes = s.sizes := by
  unfold State.setStartup
  split
  · trivial
  split
  · exact rfl
  · exact rfl

/-- R12, R98, R160, R170: every step keeps the sizes of the tables of fixed size. -/
theorem step_fixedTables {s t : State} (h : s.FixedTables) (hstep : step s = .next t) : t.FixedTables := by
  rw [State.fixedTables_iff] at h ⊢
  refine step_keeps (P := fun s => s.base.2.2 = [4, 8, 64, 4, 4]) (fun c s t hc hnext hs => ?_)
    (portKeeps_of_base fun b => b.2.2 = [4, 8, 64, 4, 4]) (fun _ => rfl) (fun field value s _ => ?_) (fun _ _ => id) (fun s hs => ?_)
    h hstep
  · rw [base_of_exec hc hnext]
    exact hs
  · refine (setStartup_sizes field value s).mono fun t ht hs => ht.trans hs
  · exact (idle_sizes s).trans hs

/-! ## No consequence is left waiting -/

theorem State.host_agenda (x : Xfer) (least : Nat) (k : Kind) (f : State → Answered) {s : State} (h : s.agenda = []) :
    (s.hostCommand x least k f).agenda = [] := by
  unfold State.hostCommand
  split
  · exact h
  · exact State.settle_agenda _

theorem State.hear_agenda (p : Nat) (legal pres : Bool) (act : State → State) {s : State} (h : s.agenda = []) :
    (s.hear p legal pres act).agenda = [] := by
  unfold State.hear
  split
  · exact h
  split
  · exact State.settle_agenda _
  · exact State.settle_agenda _

theorem State.waitOver_agenda (r : ReqNo) (ph : Phase) (wait : Request → Option Nat) (act : Request → State → State) {s : State}
    (h : s.agenda = []) : (s.waitOver r ph wait act).agenda = [] := by
  unfold State.waitOver
  split
  · exact h
  split
  · exact h
  split
  · exact State.settle_agenda _
  · exact h

@[simp] theorem State.reach_agenda (e : Nat) (s : State) : (s.reach e).agenda = s.agenda := rfl

theorem State.releaseAck_agenda (ms : Nat) (act : Bool → Prompt → State → State) {s : State} (h : s.agenda = []) :
    (s.releaseAck ms act).agenda = [] := by
  unfold State.releaseAck
  split
  · exact h
  · dsimp only
    split
    · exact h
    · exact State.settle_agenda _

theorem State.releaseNext_agenda (ms : Nat) {act : Bool → PromptKey → State → State} {s : State} (h : s.agenda = [])
    (hact : ∀ b k t, (act b k t).agenda = t.agenda) : (s.releaseNext ms act).agenda = [] := by
  unfold State.releaseNext
  split
  · exact h
  · dsimp only
    split
    · exact h
    · rw [hact]
      exact h

theorem State.beginFrame_agenda (s : State) : s.beginFrame.agenda = s.agenda := by
  unfold State.beginFrame
  split
  · rfl
  split
  · rfl
  split
  · rfl
  · rfl

@[simp] theorem State.report_agenda (b : ReportBody) (s : State) : (s.report b).agenda = s.agenda := rfl

theorem State.slow_agenda (o : Order) (s : State) : (s.slow o).agenda = s.agenda := by
  unfold State.slow
  split
  · rfl
  · exact State.report_agenda ..

theorem State.stale_agenda (s : State) : s.stale.agenda = s.agenda := by
  unfold State.stale
  split
  · rfl
  split <;> rfl

theorem State.tick_agenda (s : State) : s.tick.agenda = s.agenda := by
  unfold State.tick
  dsimp only
  split <;> rfl

theorem State.beginPress_agenda (b : Button) (s : State) : (s.beginPress b).agenda = s.agenda := by
  cases b <;> rfl

/-- From an empty agenda every command answers a next state with an empty agenda: it works its consequences off, or has none. -/
theorem exec_agenda (c : Instr) {s : State} (h : s.agenda = []) : ∃ t, exec c s = .next t ∧ t.agenda = [] := by
  cases c with
  | setStartup | loadDrive | loadReel | start | mount | dismount | cancel | queryRequest | takeOrder | orderDone | orderFault | labelRead
  | slotReport | endAudit | driveOffline | driveOnline | readReel | readDrive | takeSession | readAccount | clearAccount | readBands
  | readLost | readLine | clearRetry | takeReport | readStatus | resume | restart => exact ⟨_, rfl, State.host_agenda _ _ _ _ h⟩
  | presenceHeard | seekHeard | haveHeard | placeHeard | viaHatchPlaceHeard | placedHeard | refusedHeard | outcomeHeard | releaseHeard
  | askHeard | stateHeard | holdHeard | yieldHeard | handoffHeard => exact ⟨_, rfl, State.hear_agenda _ _ _ _ h⟩
  | windowClose | placeWaitEnd | followUpWaitEnd | hopPlaceWaitEnd => exact ⟨_, rfl, State.waitOver_agenda _ _ _ _ h⟩
  | contentionLost | transmitFault | attemptWitnessed | attemptUnwitnessed => exact ⟨_, rfl, State.settle_agenda _⟩
  | powerOnReset => exact ⟨_, rfl, rfl⟩
  | brokenOffFrame | resetRelease => exact ⟨_, rfl, h⟩
  | staleTimerExpiry => exact ⟨_, rfl, (State.stale_agenda s).trans h⟩
  | frameSendStart => exact ⟨_, rfl, (State.beginFrame_agenda s).trans h⟩
  | undefinedCommandCode x =>
    refine ⟨_, rfl, ?_⟩
    split
    · exact h
    · exact (State.accepted_agenda x s).trans h
  | faultedTransfer =>
    refine ⟨_, rfl, ?_⟩
    split <;> exact h
  | buttonPress b =>
    refine ⟨_, rfl, ?_⟩
    split
    · exact h
    · exact (State.beginPress_agenda b s).trans h
  | ackShort | ackLong =>
    refine ⟨_, rfl, ?_⟩
    split
    · exact h
    · exact State.releaseAck_agenda _ _ h
  | nextShort | nextLong =>
    refine ⟨_, rfl, ?_⟩
    split
    · exact h
    · exact State.releaseNext_agenda _ h fun _ _ _ => rfl
  | secondTick =>
    refine ⟨_, rfl, ?_⟩
    split
    · exact h
    · exact (State.tick_agenda _).trans h
  | orderSlow =>
    refine ⟨_, rfl, ?_⟩
    split
    · exact h
    split
    · exact h
    split
    · exact h
    · exact (State.slow_agenda _ _).trans h
  | reservationExpiry =>
    refine ⟨_, rfl, ?_⟩
    split <;> exact h
  | listenTimerExpiry =>
    refine ⟨_, rfl, ?_⟩
    split
    · exact h
    dsimp only
    split
    · exact h
    split <;> exact State.settle_agenda _
  | doorLimitExpiry | settleEnd | presenceTimerExpiry | settleReseek | retryPauseEnd | doorChange | badFrame =>
    refine ⟨_, rfl, ?_⟩
    split
    · exact h
    · exact State.settle_agenda _
  | silenceTimerExpiry | promptAgeEscalation | graceExpiry | cleaningEnd | deadlinePassed | hopExpiry | forwardCheck | peerAbsent =>
    refine ⟨_, rfl, ?_⟩
    split
    · exact h
    split
    · exact State.settle_agenda _
    · exact h
  | orderTimeout =>
    refine ⟨_, rfl, ?_⟩
    split
    · exact h
    split
    · exact h
    · exact State.settle_agenda _
  | detachedRecovery =>
    refine ⟨_, rfl, ?_⟩
    split
    · split
      · exact State.settle_agenda _
      · exact h
    · exact h

/-! ## The queue of waiting commands -/

theorem setStartup_pending (field : Nat) (value : Option Nat) (s : State) :
    (s.setStartup field value).Leaves fun t => t.pending = s.pending := by
  unfold State.setStartup
  split
  · trivial
  split
  · exact rfl
  · exact rfl

/-- No command touches the queue of waiting commands. -/
theorem exec_pending {c : Instr} {s t : State} (h : exec c s = .next t) : t.pending = s.pending := by
  by_cases hc : writesStartUp c = false
  · exact congrArg (fun b => b.2.1) (base_of_exec hc h)
  cases c with
  | powerOnReset => exact Host.Outcome.next.inj h ▸ rfl
  | setStartup x field value =>
    refine Host.Outcome.next.inj h ▸ (portKeeps_of_base fun b => b.2.1 = s.pending).host x 4 .initOnly
      (f := fun s => s.setStartup field value) s (fun t _ => (setStartup_pending field value t).mono fun u hu ht => hu.trans ht) rfl
  | _ => exact absurd rfl hc

/-- Settles O2. -/
theorem everyCommandRunsToItsEnd : Obligations.EveryCommandRunsToItsEnd := by
  intro c s hagenda
  obtain ⟨t, hnext, ht⟩ := exec_agenda c hagenda
  exact ⟨t, hnext, exec_pending hnext, ht⟩

end Sys2Proof.Machine

/-! SUPPORT. The accounts and the Station Charge Total through every command and every step (R169, R170, R172). -/

namespace Sys2Proof.Machine

open Sys2Proof.Certificates

/-! ## CLEAR ACCOUNT (R172) -/

theorem Account.less_saturated (a total : Account) : (a.less total).saturated = total.saturated := by
  unfold Account.less
  split
  · rfl
  split <;> rfl

/-- An amount in the total is taken from it exactly, borrowing across the milli remainder (R172 step 2). -/
theorem Account.less_value {a total : Account} (ha : a.milli ≤ 999) (ht : total.milli ≤ 999) (hs : total.saturated = false)
    (hle : Account.value a ≤ Account.value total) :
    Account.value (a.less total) = Account.value total - Account.value a ∧ (a.less total).milli ≤ 999 ∧
      (a.less total).units ≤ total.units := by
  unfold Account.less Account.value at *
  rw [hs]
  simp only [Bool.false_eq_true, if_false]
  split
  · dsimp only
    omega
  · dsimp only
    omega

theorem sum_value_set_zero (l : List Account) (n : Nat) :
    ((l.set n .zero).map Account.value).sum + Account.value (l.getD n .zero) = (l.map Account.value).sum := by
  have hzero : Account.value .zero = 0 := rfl
  rcases Nat.lt_or_ge n l.length with h | h
  · have hset := sum_set (b := .zero) h
    omega
  · rw [List.set_eq_of_length_le h, List.getD_eq_default _ _ h, hzero, Nat.add_zero]

/-- The account of a number is in the table, or holds nothing. -/
theorem State.account_mem_or_zero (n : Nat) (s : State) : s.account n ∈ s.acct.accounts ∨ s.account n = .zero := by
  rcases Nat.lt_or_ge n s.acct.accounts.length with h | h
  · left
    rw [State.account, List.getD_eq_getElem _ _ h]
    exact List.getElem_mem h
  · exact .inr (List.getD_eq_default _ _ h)

theorem leaves_balanced_clearAccount (n : Nat) (s : State) : (s.clearAccount n).Leaves fun t => TotalsAgree s → TotalsAgree t := by
  unfold State.clearAccount
  split
  · trivial
  intro hb htotal
  have hs : s.acct.total.saturated = false := (Account.less_saturated ..).symm.trans htotal
  obtain ⟨haccounts, hmilli, hunits, hsum⟩ := hb hs
  have hmem : ∀ a ∈ s.acct.accounts.set n .zero, a.saturated = false ∧ a.milli ≤ 999 := fun a ha => by
    rcases List.mem_or_eq_of_mem_set ha with ha | rfl
    · exact haccounts a ha
    · exact ⟨rfl, Nat.zero_le _⟩
  have hcleared := sum_value_set_zero s.acct.accounts n
  have hown : (s.account n).milli ≤ 999 := by
    rcases s.account_mem_or_zero n with h | h
    · exact (haccounts _ h).2
    · rw [h]
      exact Nat.zero_le _
  obtain ⟨hvalue, hmilli', hunits'⟩ := Account.less_value hown hmilli hs (by rw [← hsum, ← hcleared]; exact Nat.le_add_left ..)
  refine ⟨hmem, hmilli', hunits'.trans hunits, ?_⟩
  rw [State.modAcct_acct]
  dsimp only
  rw [hvalue, ← hsum, ← hcleared]
  exact (Nat.add_sub_cancel ..).symm

/-! ## An answer of a server -/

/-- What an OUTCOME or a STATE leaves keeps a property that its application keeps, a frame gone astray, and an own request's becoming the
proxy of its sender. -/
theorem State.fromServer_keeps {P : State → Prop} {r : ReqNo} {p : Nat} (m : Bool) {act : Request → State → State} {s : State}
    (hact : ∀ q t, P t → P (act q t)) (hstray : P s → P s.countStray)
    (hproxy : ∀ q, s.findReq r = some q → q.role = .own → P s → P (s.becomeProxy r p)) (h : P s) : P (s.fromServer r p m act) := by
  unfold State.fromServer
  split
  · exact hstray h
  next q hfind =>
    split
    · split
      · exact hact q s h
      · exact hstray h
    next hrole =>
      split
      · have hplaced := hproxy q hfind hrole h
        dsimp only
        split
        · exact hact _ _ hplaced
        · exact hplaced
      split
      · exact h
      · exact hstray h
    · exact hstray h

/-! ## The host's commands that only touch other parts -/

theorem Answered.Leaves.balanced {s : State} {a : Answered} (h : a.Leaves fun t => t.money = s.money) :
    a.Leaves fun t => TotalsAgree s → TotalsAgree t := h.mono fun _ ht => balanced_of_money ht

theorem leaves_money_loadDrive (a c : Nat) (p : Option DrivePos) (s : State) :
    (s.loadDrive a c p).Leaves fun u => u.money = s.money := by
  unfold State.loadDrive
  split
  · trivial
  split
  · trivial
  · exact State.money_modDrv ..

theorem leaves_money_loadReel (a : LoadReelArgs) (s : State) : (s.loadReel a).Leaves fun u => u.money = s.money := by
  unfold State.loadReel
  split
  · split
    · trivial
    split
    · trivial
    · exact State.money_addEntry ..
  · trivial

theorem leaves_money_start (s : State) : s.start.Leaves fun u => u.money = s.money := by
  unfold State.start
  split
  · trivial
  · dsimp only [Answered.Leaves]
    split
    · rw [State.money_raisePlain, State.money_begin]
    · exact State.money_begin s

theorem leaves_money_mount (a : MountArgs) (s : State) : (s.mount a).Leaves fun u => u.money = s.money := by
  unfold State.mount
  split
  · trivial
  split
  · split
    · trivial
    split
    · trivial
    · exact (State.money_firstLook ..).trans (State.money_enterRequest ..)
  · trivial

theorem leaves_money_endAudit (s : State) : s.endAudit.Leaves fun u => u.money = s.money := by
  unfold State.endAudit
  split
  · trivial
  · simp only [Answered.Leaves, State.money_push]
    exact State.money_withCondition _ _ fun t => State.money_modInv ..

theorem leaves_money_takeSession (s : State) : s.takeSession.Leaves fun u => u.money = s.money := by
  unfold State.takeSession
  split
  · exact rfl
  · exact State.money_modAcct _ _ fun _ => ⟨rfl, rfl⟩

theorem leaves_money_readLine (p : Option Nat) (s : State) : (s.readLine p).Leaves fun u => u.money = s.money := by
  unfold State.readLine
  split
  · exact State.money_modLine ..
  split
  · trivial
  · exact rfl

theorem leaves_money_takeReport (s : State) : s.takeReport.Leaves fun u => u.money = s.money := by
  unfold State.takeReport
  split
  · exact rfl
  · exact State.money_modPort ..

theorem leaves_money_resume (x : Xfer) (s : State) : (s.resume x).Leaves fun u => u.money = s.money := by
  unfold State.resume
  split
  · trivial
  · simp only [Answered.Leaves, State.money_push]
    exact State.money_withCondition _ _ fun t => rfl

theorem leaves_balanced_restart (s : State) : s.restart.Leaves fun t => TotalsAgree s → TotalsAgree t := by
  unfold State.restart
  split
  · trivial
  split
  · exact id
  · dsimp only
    split
    · exact fun h => State.balanced_completeRestart h
    · exact fun h => State.balanced_queueLeaving h

theorem setStartup_money (field : Nat) (value : Option Nat) (s : State) : (s.setStartup field value).Leaves fun t => t.money = s.money := by
  unfold State.setStartup
  split
  · trivial
  split
  · exact rfl
  · exact rfl

theorem idle_money (s : State) : s.idle.money = s.money := by
  unfold State.idle
  split <;> rfl

/-! ## Every command -/

/-- Every command but the two that write the Start-Up Block keeps the totals in agreement: a close adds its charge to both sides, CLEAR
ACCOUNT takes the account's from both, and nothing else touches either. -/
theorem stepKeeps_totals : StepKeeps fun s t => TotalsAgree s → TotalsAgree t where
  refl _ := id
  trans h k := k ∘ h
  settle s := balanced_of_money (State.money_settle s)
  accepted x s := balanced_of_money (State.money_accepted x s)
  reply x c w s := balanced_of_money (State.money_reply x c w s)
  frameFault s := balanced_of_money (State.money_modPort _ s)
  resetRises s := balanced_of_money (State.money_modSys _ s)
  loadDrive a c p s := (leaves_money_loadDrive a c p s).balanced
  loadReel a s := (leaves_money_loadReel a s).balanced
  start s _ := (leaves_money_start s).balanced
  mount a s := (leaves_money_mount a s).balanced
  dismountRequest r n e _ := State.balanced_dismountRequest r n e
  releaseProxy r k s := balanced_of_money (State.money_releaseProxy r k s)
  cancelRequest r _ := State.balanced_cancelRequest r
  takeInFlight s := balanced_of_money (State.money_of_kept (State.kept_takeInFlight s))
  countStale s := balanced_of_money (State.money_countStale s)
  completeOrder o ring _ := State.balanced_completeOrder o ring
  faultOrder o f s := balanced_of_money (State.money_faultOrder o f s)
  labelApply c k s := balanced_of_money (State.money_labelApply c k s)
  slotApply n k s := balanced_of_money (State.money_slotApply n k s)
  endAudit s := (leaves_money_endAudit s).balanced
  driveOffline d y _ := State.balanced_driveOffline d y
  driveToIdle d s := balanced_of_money (State.money_driveToIdle d s)
  driveToEmpty d s := balanced_of_money (State.money_of_kept (State.kept_driveToEmpty d s))
  push w s := balanced_of_money (State.money_push w s)
  takeSession s := (leaves_money_takeSession s).balanced
  clearAccount := leaves_balanced_clearAccount
  readLost s := balanced_of_money (State.money_modAcct _ s fun _ => ⟨rfl, rfl⟩)
  readLine p s := (leaves_money_readLine p s).balanced
  clearRetry s := balanced_of_money (State.money_modArm _ s)
  takeReport s := (leaves_money_takeReport s).balanced
  readStatus s := balanced_of_money (State.money_modPort _ s)
  resume x s := (leaves_money_resume x s).balanced
  restart := leaves_balanced_restart
  reach e s := balanced_of_money (State.money_reach e s)
  goAlone s _ := balanced_of_money (State.money_goAlone s)
  listenOver s := balanced_of_money (State.money_modSys _ s)
  enterActive s _ := balanced_of_money (State.money_enterActive s)
  tick s := balanced_of_money (State.money_tick s)
  stale s := balanced_of_money (State.money_stale s)
  endCleaning d y _ := State.balanced_endCleaning d y
  reservationOver v s := balanced_of_money (State.money_updEntry v _ s)
  failRequest r c s := balanced_of_money (State.money_failRequest r c s)
  becomeLate q s := balanced_of_money (State.money_becomeLate q s)
  hopLapse _ q s _ := balanced_of_money (State.money_hopLapse q s)
  forward q s := balanced_of_money (State.money_forward q s)
  slow o s := balanced_of_money (State.money_slow o s)
  timeOut o s := balanced_of_money (State.money_timeOut o s)
  pauseOver s := balanced_of_money (State.money_modArm _ s)
  beginPress b s := balanced_of_money (State.money_beginPress b s)
  ackReleased s := balanced_of_money (State.money_modPanel _ s)
  nextReleased s := balanced_of_money (State.money_modPanel _ s)
  ackPrompt p s := balanced_of_money (State.money_ackPrompt p s)
  declinePrompt p s := balanced_of_money (State.money_declinePrompt p s)
  setCursor k s := balanced_of_money (State.money_setCursor k s)
  openDoor s := balanced_of_money (State.money_withCondition _ s State.money_openDoor)
  closeDoor s := balanced_of_money (State.money_withCondition _ s State.money_closeDoor)
  doorExpires s := balanced_of_money (State.money_modPanel _ s)
  raisePlain c k s := balanced_of_money (State.money_raisePlain c k s)
  showPrompt k s := balanced_of_money (State.money_of_kept (State.kept_showPrompt k s))
  escalate k s := balanced_of_money (State.money_escalate k s)
  beginFrame s := balanced_of_money (State.money_beginFrame s)
  contentionLost s := balanced_of_money (State.money_contentionLost s)
  failAttempt k _ := State.balanced_failAttempt k
  attemptWitnessed _ := State.balanced_attemptWitnessed
  recover s _ := balanced_of_money (State.money_recover s)
  badFrame _ _ := State.balanced_badFrame
  peerGone p s := balanced_of_money (State.money_peerGone p s)
  askPresence tag s := balanced_of_money (State.money_askPresence tag s)
  startPresence s := balanced_of_money (State.money_startPresence s)
  takeFrame p pres act _ _ h := State.balanced_takeFrame p pres act h
  hearPresence b p s := balanced_of_money (State.money_hearPresence b p s)
  hearSeek b p s := balanced_of_money (State.money_of_kept (State.kept_hearSeek b p s))
  hearHave b p s := balanced_of_money (State.money_hearHave b p s)
  takePlace b p s := balanced_of_money (State.money_takePlace b p s)
  hearPlaced r p s := balanced_of_money (State.money_hearPlaced r p s)
  hearRefused r c p s := balanced_of_money (State.money_hearRefused r c p s)
  fromServer r p m _ s h := State.fromServer_keeps m h (balanced_of_money (State.money_countStray s))
    fun _ _ _ => balanced_of_money (State.money_becomeProxy r p s)
  applyOutcome q ev s := balanced_of_money (State.money_of_kept (State.kept_applyOutcome q ev s))
  applyState q a s := balanced_of_money (State.money_of_kept (State.kept_applyState q a s))
  hearRelease r k p _ := State.balanced_hearRelease r k p
  hearAsk r s := balanced_of_money (State.money_of_kept (State.kept_hearAsk r s))
  hearHold b c s := balanced_of_money (State.money_of_kept (State.kept_hearHold b c s))
  hearYield b c s := balanced_of_money (State.money_of_kept (State.kept_hearYield b c s))
  hearHandoff b p s := balanced_of_money (State.money_of_kept (State.kept_hearHandoff b p s))
  closeWindow r s := balanced_of_money (State.money_of_kept (State.kept_closeWindow r s))
  settleReseek r s := balanced_of_money (State.money_settleReseek r s)
  countAttempt r f u s := balanced_of_money (State.money_countAttempt r f u s)
  followUp q s := balanced_of_money (State.money_followUp q s)
  hopRefused r p s := balanced_of_money (State.money_hopRefused r p s)

theorem totalsAgree_reset : TotalsAgree State.reset := by
  unfold TotalsAgree
  decide

/-- Settles O60. -/
theorem everyStepKeepsTheTotalsInAgreement : Obligations.EveryStepKeepsTheTotalsInAgreement := by
  intro s t h hstep
  refine step_keeps (P := TotalsAgree) (fun c s t hc hnext => stepKeeps_totals.of_exec hc hnext) stepKeeps_totals.toPortKeeps
    (fun _ => ?_) (fun field value s _ => (setStartup_money field value s).balanced) (fun s l => balanced_of_money rfl)
    (fun s => balanced_of_money (idle_money s)) h hstep
  exact balanced_of_money rfl totalsAgree_reset

end Sys2Proof.Machine

/-! SUPPORT. The step, power-on reset and its release, and the invariants at reset. -/

namespace Sys2Proof.Machine

open Sys2Proof.Certificates

/-- Settles O1. -/
theorem stepRunsTheFrontCommand : Obligations.StepRunsTheFrontCommand := fun _ _ _ => rfl

theorem step_of_no_command {s : State} (h : s.pending = []) : step s = .next s.idle := by
  unfold step
  rw [h]

theorem State.idle_of_reset {s : State} (h : s.sys.resetHeld = true) : s.idle = s := if_pos h

theorem State.idle_of_running {s : State} (h : s.sys.resetHeld = false) : s.idle =
    { s with sys := { s.sys with clock := s.sys.clock + 1 },
             pending := s.pending ++ { s with sys := { s.sys with clock := s.sys.clock + 1 } }.dueEvents } := by
  unfold State.idle
  rw [h]
  rfl

/-- The events due at a time do not hang on the commands that wait. -/
theorem State.dueEvents_withPending (l : List Instr) (s : State) : (s.withPending l).dueEvents = s.dueEvents := rfl

/-- Settles O3. -/
theorem idleStepPassesOneMillisecond : Obligations.IdleStepPassesOneMillisecond := by
  intro s hnone
  rw [step_of_no_command hnone]
  refine ⟨fun hheld => ?held, fun hrunning => ?running⟩
  case held => rw [State.idle_of_reset hheld]
  case running => rw [State.idle_of_running hrunning, hnone, List.nil_append]

/-- Settles O4. -/
theorem resetHoldsThePowerOnValues : Obligations.ResetHoldsThePowerOnValues := by
  unfold Obligations.ResetHoldsThePowerOnValues
  repeat' apply And.intro
  all_goals rfl

/-! ## The pins while RESET is low (R192) -/

theorem State.host_of_reset {x : Xfer} {least : Nat} {k : Kind} {f : State → Answered} {s : State} (h : s.sys.resetHeld = true) :
    s.hostCommand x least k f = s := if_pos h

/-- While RESET is low nothing that comes to the pins is taken. -/
theorem exec_of_reset {c : Instr} {s : State} (hc : atThePins c = true) (h : s.sys.resetHeld = true) : exec c s = .next s := by
  cases c with
  | setStartup | loadDrive | loadReel | start | mount | dismount | cancel | queryRequest | takeOrder | orderDone | orderFault | labelRead
  | slotReport | endAudit | driveOffline | driveOnline | readReel | readDrive | takeSession | readAccount | clearAccount | readBands
  | readLost | readLine | clearRetry | takeReport | readStatus | resume | restart =>
    exact congrArg Host.Outcome.next (State.host_of_reset h)
  | undefinedCommandCode | faultedTransfer | buttonPress | ackShort | ackLong | nextShort | nextLong =>
    exact congrArg Host.Outcome.next (if_pos h)
  | doorChange => exact congrArg Host.Outcome.next (if_pos (Or.inl h))
  | _ => exact Bool.noConfusion hc

/-- Settles O5. -/
theorem powerOnResetAndItsRelease : Obligations.PowerOnResetAndItsRelease :=
  ⟨fun _ => ⟨rfl, rfl⟩, fun _ _ hc h => exec_of_reset hc h⟩

/-- Settles O56. -/
theorem invariantsHoldAtReset : Obligations.InvariantsHoldAtReset := by
  refine ⟨StartUp.legal_powerOn, ?tables, ?counters, ?line, ?bounds, totalsAgree_reset, rfl⟩
  case tables => constructor <;> rfl
  case counters => constructor <;> decide
  case line => constructor <;> decide
  case bounds => constructor <;> decide

end Sys2Proof.Machine

/-! SUPPORT. More operations that no part of `State.kept` hangs on: the host's reports on cells and slots, the answers of the operator, and the
smaller steps of the line. -/

namespace Sys2Proof.Machine

open Sys2Proof.Certificates

theorem State.kept_giveUpAll (l : List TxMsg) (cause : UndelCause) (s : State) : (s.giveUpAll l cause).kept = s.kept := by
  unfold State.giveUpAll
  repeat' first
    | with_reducible rfl
    | intro _
    | simp only [State.kept_giveUpMsg]
    | rw [State.kept_forEach]

theorem State.kept_examineAlone (s : State) : (s.examineAlone).kept = s.kept := by
  unfold State.examineAlone
  repeat' first
    | with_reducible rfl
    | intro _
    | simp only [State.kept_giveUpAlone]
    | rw [State.kept_forEach]
    | split

theorem State.kept_quietHolds (s : State) : (s.quietHolds).kept = s.kept := by
  unfold State.quietHolds
  repeat' first
    | with_reducible rfl
    | simp only [State.kept_modClaim, State.kept_giveUpAll, State.kept_withdraw]

theorem State.kept_cancelMoving (r : ReqNo) (s : State) : (s.cancelMoving r).kept = s.kept := by
  unfold State.cancelMoving
  repeat' first
    | with_reducible rfl
    | simp only [State.kept_push, State.kept_updReq, State.kept_releaseDrivesOf, State.kept_endRequest, State.kept_putToSlot]
    | split

theorem State.kept_moveFails (o : Order) (m : Move) (s : State) : (s.moveFails o m).kept = s.kept := by
  unfold State.moveFails
  repeat' first
    | with_reducible rfl
    | simp only [State.kept_raisePlain, State.kept_getFailed, State.kept_putFailed]
    | split

theorem State.kept_takeUpCell (c : Nat) (s : State) : (s.takeUpCell c).kept = s.kept := by
  unfold State.takeUpCell
  repeat' first
    | with_reducible rfl
    | intro _
    | simp only [State.kept_raise, State.kept_raisePlain, State.kept_askEntryIn]
    | rw [State.kept_forEach]
    | split

theorem State.kept_takeUpDrive (x : Drive) (s : State) : (s.takeUpDrive x).kept = s.kept := by
  unfold State.takeUpDrive
  repeat' first
    | with_reducible rfl
    | simp only [State.kept_updDrive, State.kept_stowDrive, State.kept_beginCleaning]
    | split

theorem State.kept_reportListen (s : State) : (s.reportListen).kept = s.kept := by
  unfold State.reportListen
  repeat' first
    | with_reducible rfl
    | simp only [State.kept_report]
    | split

theorem State.kept_flushTx (p : TxMsg → Bool) (cause : UndelCause) (s : State) : (s.flushTx p cause).kept = s.kept := by
  unfold State.flushTx
  repeat' first
    | with_reducible rfl
    | intro _
    | simp only [State.kept_giveUpAll]
    | rw [State.kept_modLine]
    | simp only [and_self]

theorem State.kept_undeliver (m : TxMsg) (n : Nat) (cause : UndelCause) (s : State) : (s.undeliver m n cause).kept = s.kept := by
  unfold State.undeliver
  repeat' first
    | with_reducible rfl
    | simp only [State.kept_report, State.kept_ownerUndelivered]
    | split

theorem State.kept_clearTx (cause : UndelCause) (s : State) : (s.clearTx cause).kept = s.kept := by
  unfold State.clearTx
  repeat' first
    | with_reducible rfl
    | intro _
    | simp only [State.kept_undeliver]
    | rw [State.kept_forEach]
    | rw [State.kept_modLine]
    | simp only [and_self]

theorem State.kept_neighbourHeard (p : Nat) (changed : Bool) (s : State) : (s.neighbourHeard p changed).kept = s.kept := by
  unfold State.neighbourHeard
  repeat' first
    | with_reducible rfl
    | intro _
    | simp only [State.kept_push]
    | rw [State.kept_modRm]
    | simp only [and_self]
    | split

theorem State.kept_dropOnLine (s : State) : (s.dropOnLine).kept = s.kept :=
  State.kept_modLine _ _ fun _ => ⟨rfl, rfl, rfl, rfl, rfl, rfl, rfl, rfl⟩

theorem State.kept_keepOnLine (attempts : Nat) (s : State) : (s.keepOnLine attempts).kept = s.kept := by
  unfold State.keepOnLine
  repeat' first
    | with_reducible rfl
    | intro _
    | rw [State.kept_modLine]
    | simp only [and_self]

theorem State.kept_attemptsOut (m : TxMsg) (n : Nat) (s : State) : (s.attemptsOut m n).kept = s.kept := by
  simp only [State.attemptsOut, State.kept_undeliver]

theorem State.kept_beginFrame (s : State) : (s.beginFrame).kept = s.kept := by
  unfold State.beginFrame
  repeat' first
    | with_reducible rfl
    | intro _
    | rw [State.kept_modLine]
    | simp only [and_self]
    | split

theorem State.kept_contentionLost (s : State) : (s.contentionLost).kept = s.kept := by
  unfold State.contentionLost
  repeat' first
    | with_reducible rfl
    | simp only [State.kept_ownerWithdrawn, State.kept_dropOnLine, State.kept_keepOnLine]
    | split

theorem State.kept_takePlace (b : PlaceBody) (sender : Nat) (s : State) : (s.takePlace b sender).kept = s.kept := by
  unfold State.takePlace
  repeat' first
    | with_reducible rfl
    | simp only [State.kept_hearPlace, State.kept_hearViaHatch]
    | split

theorem State.kept_settleReseek (r : ReqNo) (s : State) : (s.settleReseek r).kept = s.kept := by
  unfold State.settleReseek
  repeat' first
    | with_reducible rfl
    | simp only [State.kept_updReq, State.kept_askSeek]
    | split

theorem State.kept_followUp (q : Request) (s : State) : (s.followUp q).kept = s.kept := by
  unfold State.followUp
  repeat' first
    | with_reducible rfl
    | simp only [State.kept_askSeek, State.kept_sendPlace]
    | split

theorem State.kept_misplaced (v : Serial) (s : State) : (s.misplaced v).kept = s.kept := by
  simp only [State.misplaced, State.kept_raisePlain]

theorem State.kept_retireOut (v : Serial) (c : Nat) (keepCell : Bool) (s : State) : (s.retireOut v c keepCell).kept = s.kept := by
  unfold State.retireOut
  repeat' first
    | with_reducible rfl
    | simp only [State.kept_emptyCell, State.kept_retireEntry]
    | split

theorem State.kept_declineLinks (k : PromptKey) (s : State) : (s.declineLinks k).kept = s.kept := by
  unfold State.declineLinks
  repeat' first
    | with_reducible rfl
    | intro _
    | simp only [State.kept_updPrompt, State.kept_failRequest]
    | rw [State.kept_forEach]
    | split

theorem State.kept_strangerGone (w : Serial) (s : State) : (s.strangerGone w).kept = s.kept := by
  simp only [State.strangerGone, State.kept_withdrawPrompt, State.kept_declineLinks]

theorem State.kept_cellFoundEmpty (w : Serial) (c : Nat) (s : State) : (s.cellFoundEmpty w c).kept = s.kept := by
  unfold State.cellFoundEmpty
  repeat' first
    | with_reducible rfl
    | simp only [State.kept_putCell, State.kept_emptyCell, State.kept_withdrawPrompt, State.kept_retireOut, State.kept_strangerGone]
    | split

theorem State.kept_cellFoundOther (w : Serial) (c : Nat) (s : State) : (s.cellFoundOther w c).kept = s.kept := by
  unfold State.cellFoundOther
  repeat' first
    | with_reducible rfl
    | simp only [State.kept_reelMissing, State.kept_withdrawPrompt, State.kept_removeMoves, State.kept_retireOut, State.kept_strangerGone]
    | split

theorem State.kept_unexpected (v : Serial) (c room : Nat) (s : State) : (s.unexpected v c room).kept = s.kept := by
  unfold State.unexpected
  repeat' first
    | with_reducible rfl
    | simp only [State.kept_updEntry, State.kept_putCell, State.kept_raise, State.kept_queueEntryIn, State.kept_enterReel,
        State.kept_misplaced]
    | split

theorem State.kept_moveExpectation (w : Serial) (p : CellPurpose) (c d : Nat) (s : State) :
    (s.moveExpectation w p c d).kept = s.kept := by
  unfold State.moveExpectation
  repeat' first
    | with_reducible rfl
    | intro _
    | simp only [State.kept_putCell]
    | rw [State.kept_modArm]
    | simp only [and_self]

theorem State.kept_queuedCellLost (m : Move) (s : State) : (s.queuedCellLost m).kept = s.kept := by
  unfold State.queuedCellLost
  repeat' first
    | with_reducible rfl
    | intro _
    | simp only [State.kept_updEntry, State.kept_removeMoves, State.kept_pendCell]
    | rw [State.kept_modArm]
    | simp only [and_self]
    | split

theorem State.kept_dropExpectation (w : Serial) (p : CellPurpose) (c : Nat) (s : State) : (s.dropExpectation w p c).kept = s.kept := by
  unfold State.dropExpectation
  repeat' first
    | with_reducible rfl
    | simp only [State.kept_updEntry, State.kept_updReq, State.kept_returnPrompt, State.kept_redirect, State.kept_putAwayMove,
        State.kept_queuedCellLost]
    | split

theorem State.kept_expectationDisplaced (w : Serial) (p : CellPurpose) (c : Nat) (s : State) :
    (s.expectationDisplaced w p c).kept = s.kept := by
  unfold State.expectationDisplaced
  repeat' first
    | with_reducible rfl
    | simp only [State.kept_moveExpectation, State.kept_dropExpectation]
    | split

theorem State.kept_serveRingIn (p : Prompt) (s : State) : (s.serveRingIn p).kept = s.kept := by
  unfold State.serveRingIn
  repeat' first
    | with_reducible rfl
    | intro _
    | simp only [State.kept_updReq, State.kept_updPrompt, State.kept_leavePrompt, State.kept_toStandby, State.kept_startMove]
    | rw [State.kept_forEach]
    | split

theorem State.kept_askWaiting (v : Serial) (s : State) : (s.askWaiting v).kept = s.kept := by
  unfold State.askWaiting
  repeat' first
    | with_reducible rfl
    | intro _
    | simp only [State.kept_startMove]
    | rw [State.kept_forEach]

theorem State.kept_reelBack (v : Serial) (c : Nat) (s : State) : (s.reelBack v c).kept = s.kept := by
  unfold State.reelBack
  repeat' first
    | with_reducible rfl
    | simp only [State.kept_updEntry, State.kept_putCell, State.kept_queueEntryIn, State.kept_serveRingIn, State.kept_askWaiting]
    | split

theorem State.kept_shelfReported (v : Serial) (c : Nat) (s : State) : (s.shelfReported v c).kept = s.kept := by
  unfold State.shelfReported
  repeat' first
    | with_reducible rfl
    | intro _
    | simp only [State.kept_updEntry, State.kept_putCell, State.kept_updPrompt, State.kept_leavePrompt, State.kept_raise,
        State.kept_queueEntryIn, State.kept_shelfArrived, State.kept_enterReel, State.kept_misplaced]
    | rw [State.kept_forEach]
    | split

theorem State.kept_stillThere (v : Serial) (c : Nat) (s : State) : (s.stillThere v c).kept = s.kept := by
  unfold State.stillThere
  repeat' first
    | with_reducible rfl
    | simp only [State.kept_returnPrompt, State.kept_queueEntryIn]
    | split

theorem State.kept_labelApply (c : Nat) (content : CellContent) (s : State) : (s.labelApply c content).kept = s.kept := by
  unfold State.labelApply
  repeat' first
    | with_reducible rfl
    | simp only [State.andThen, State.kept_putCell, State.kept_emptyCell, State.kept_cellFoundEmpty, State.kept_cellFoundOther,
        State.kept_unexpected, State.kept_expectationDisplaced, State.kept_reelBack, State.kept_shelfReported, State.kept_stillThere,
        State.kept_settle]
    | split

theorem State.kept_foundHome (v : Serial) (s : State) : (s.foundHome v).kept = s.kept := by
  simp only [State.foundHome, State.kept_push, State.kept_updEntry]

theorem State.kept_slotApply (n : Nat) (content : SlotContent) (s : State) : (s.slotApply n content).kept = s.kept := by
  unfold State.slotApply
  repeat' first
    | with_reducible rfl
    | simp only [State.andThen, State.kept_push, State.kept_addEntry, State.kept_reelMissing, State.kept_misplaced, State.kept_foundHome,
        State.kept_settle]
    | split

theorem State.kept_driveLostPutAway (d : Nat) (s : State) : (s.driveLostPutAway d).kept = s.kept := by
  unfold State.driveLostPutAway
  repeat' first
    | with_reducible rfl
    | intro _
    | simp only [State.kept_putAwayMove]
    | rw [State.kept_modArm]
    | simp only [and_self]
    | split

theorem State.kept_otherDrive (r : ReqNo) (q : Request) (s : State) : (s.otherDrive r q).kept = s.kept := by
  unfold State.otherDrive
  repeat' first
    | with_reducible rfl
    | simp only [State.kept_reserveDrive, State.kept_failRequest]
    | split

theorem State.kept_driveTaken (r : ReqNo) (s : State) : (s.driveTaken r).kept = s.kept := by
  unfold State.driveTaken
  repeat' first
    | with_reducible rfl
    | simp only [State.kept_updReq, State.kept_dropAsker, State.kept_removeMoves, State.kept_backToStandby, State.kept_otherDrive]
    | split

theorem State.kept_toAcked (k : PromptKey) (wait : Bool) (s : State) : (s.toAcked k wait).kept = s.kept := by
  simp only [State.toAcked, State.kept_updPrompt, State.kept_relamp]

theorem State.kept_ackShelf (p : Prompt) (v : Serial) (s : State) : (s.ackShelf p v).kept = s.kept := by
  unfold State.ackShelf
  repeat' first
    | with_reducible rfl
    | simp only [State.kept_putCell, State.kept_raise, State.kept_toAcked]
    | split

theorem State.kept_ackRing (p : Prompt) (v : Serial) (s : State) : (s.ackRing p v).kept = s.kept := by
  unfold State.ackRing
  repeat' first
    | with_reducible rfl
    | intro _
    | simp only [State.kept_updReq, State.kept_serveRingIn, State.kept_toAcked]
    | rw [State.kept_forEach]
    | split

theorem State.kept_ackRetire (p : Prompt) (v : Serial) (s : State) : (s.ackRetire p v).kept = s.kept := by
  unfold State.ackRetire
  repeat' first
    | with_reducible rfl
    | simp only [State.kept_leavePrompt, State.kept_retireOut]
    | split

theorem State.kept_ackConflict (p : Prompt) (s : State) : (s.ackConflict p).kept = s.kept := by
  unfold State.ackConflict
  repeat' first
    | with_reducible rfl
    | simp only [State.kept_updRec, State.kept_leavePrompt, State.kept_endConflict]
    | split

theorem State.kept_ackCradle (p : Prompt) (side : Side) (s : State) : (s.ackCradle p side).kept = s.kept := by
  unfold State.ackCradle
  repeat' first
    | with_reducible rfl
    | intro _
    | simp only [State.kept_push, State.kept_delEntry, State.kept_updRec, State.kept_leavePrompt, State.kept_dropAsk]
    | rw [State.kept_forEach]
    | split

theorem State.kept_ackClass (p : Prompt) (s : State) : (s.ackClass p).kept = s.kept := by
  unfold State.ackClass
  repeat' first
    | with_reducible rfl
    | simp only [State.kept_push, State.kept_updDrive, State.kept_leavePrompt, State.kept_toAcked, State.kept_ackShelf,
        State.kept_ackRing, State.kept_ackRetire, State.kept_ackConflict, State.kept_ackCradle]
    | split

theorem State.kept_countAck (p : Prompt) (s : State) : (s.countAck p).kept = s.kept := by
  unfold State.countAck
  repeat' first
    | with_reducible rfl
    | intro _
    | simp only [State.kept_updReq, State.kept_updPrompt]
    | rw [State.kept_forEach]

theorem State.kept_ackPrompt (p : Prompt) (s : State) : (s.ackPrompt p).kept = s.kept := by
  unfold State.ackPrompt
  repeat' first
    | with_reducible rfl
    | simp only [State.kept_reportPrompt, State.kept_ackClass, State.kept_countAck]
    | split

theorem State.kept_declineClass (p : Prompt) (s : State) : (s.declineClass p).kept = s.kept := by
  unfold State.declineClass
  repeat' first
    | with_reducible rfl
    | simp only [State.kept_updEntry, State.kept_reportPrompt, State.kept_leavePrompt, State.kept_queueEntryIn, State.kept_askEntryIn,
        State.kept_declineLinks, State.kept_ackClass, State.kept_countAck]
    | split

theorem State.kept_declinePrompt (p : Prompt) (s : State) : (s.declinePrompt p).kept = s.kept := by
  unfold State.declinePrompt
  repeat' first
    | with_reducible rfl
    | simp only [State.kept_declineClass]
    | split

theorem State.kept_actAck (isLong : Bool) (p : Prompt) (s : State) : (s.actAck isLong p).kept = s.kept := by
  unfold State.actAck
  repeat' first
    | with_reducible rfl
    | simp only [State.kept_ackPrompt, State.kept_declinePrompt]
    | split

theorem State.kept_setCursor (k : Option PromptKey) (s : State) : (s.setCursor k).kept = s.kept :=
  State.kept_modPanel _ _ fun _ => ⟨rfl, rfl, rfl, rfl⟩

theorem State.kept_actNext (isLong : Bool) (k : PromptKey) (s : State) : (s.actNext isLong k).kept = s.kept := by
  unfold State.actNext
  repeat' first
    | with_reducible rfl
    | simp only [State.kept_setCursor]

theorem State.kept_doorLongGone (s : State) : (s.doorLongGone).kept = s.kept := by
  unfold State.doorLongGone
  repeat' first
    | with_reducible rfl
    | intro _
    | simp only [State.kept_leavePrompt, State.kept_withdrawPrompt]
    | rw [State.kept_modPanel]
    | simp only [and_self]
    | split

theorem State.kept_becomeLate (q : Request) (s : State) : (s.becomeLate q).kept = s.kept := by
  unfold State.becomeLate
  repeat' first
    | with_reducible rfl
    | simp only [State.kept_updReq, State.kept_escalate, State.kept_reqReport]
    | split

theorem State.kept_hopLapse (q : Request) (s : State) : (s.hopLapse q).kept = s.kept := by
  unfold State.hopLapse
  repeat' first
    | with_reducible rfl
    | simp only [State.kept_updReq, State.kept_delReq, State.kept_endReservations, State.kept_dropArrival, State.kept_dropAsker,
        State.kept_releaseDrivesOf]
    | split

theorem State.kept_forward (q : Request) (s : State) : (s.forward q).kept = s.kept := by
  unfold State.forward
  repeat' first
    | with_reducible rfl
    | simp only [State.kept_updReq, State.kept_send, State.kept_sendRelease]
    | split

theorem State.kept_slow (o : Order) (s : State) : (s.slow o).kept = s.kept := by
  unfold State.slow
  repeat' first
    | with_reducible rfl
    | intro _
    | simp only [State.kept_report]
    | rw [State.kept_modArm]
    | simp only [and_self]
    | split

end Sys2Proof.Machine

/-! SUPPORT. The limited counters and the line state through every command and every step (R91, R92, R96). -/

namespace Sys2Proof.Machine

open Sys2Proof.Certificates

/-! ## The gauges -/

/-- What the ranges of the counters and the fit of the line state hang on. -/
def State.gauges (s : State) : Mode × LineState × Nat × Nat × Nat × Nat × Nat × Nat × Nat × Nat :=
  (s.sys.mode, s.line.state, s.line.score, s.line.errors, s.acct.sessionsLost, s.acct.stationTime, s.arm.retryCounter, s.arm.stale,
    s.rm.lastSeq, s.px.stray)

/-- The counters in range, and the line state with mode and score. -/
structure State.Fit (s : State) : Prop where
  counters : s.CountersFit
  line : s.LineFits

theorem State.gauges_of_kept {s t : State} (h : t.kept = s.kept) : t.gauges = s.gauges := by
  simp only [State.kept, Kept.mk.injEq] at h
  simp only [State.gauges, h]

theorem fit_of_gauges {s t : State} (h : t.gauges = s.gauges) (hs : s.Fit) : t.Fit := by
  simp only [State.gauges, Prod.mk.injEq] at h
  obtain ⟨hmode, hstate, hscore, herrors, hlost, htime, hretry, hstale, hseq, hstray⟩ := h
  obtain ⟨hc, hl⟩ := hs
  constructor
  · constructor
    · exact hretry ▸ hc.retry
    · exact hstale ▸ hc.stale
    · exact hseq ▸ hc.lastSeq
    · exact hstray ▸ hc.stray
    · exact hscore ▸ hc.score
    · exact herrors ▸ hc.errors
    · exact hlost ▸ hc.sessionsLost
    · exact htime ▸ hc.stationTime
  · constructor <;> rw [hstate] <;> try rw [hscore]
    · exact hmode ▸ hl.quiet
    · exact hmode ▸ hl.joining
    · exact hmode ▸ hl.listening
    · exact hl.clear
    · exact hl.caution
    · exact hl.muted

theorem fit_of_kept {s t : State} (h : t.kept = s.kept) : s.Fit → t.Fit := fit_of_gauges (State.gauges_of_kept h)

/-! ## What leaves the gauges -/

theorem State.gauges_forEach {α : Type} (l : List α) {f : α → State → State} (s : State) (h : ∀ a t, (f a t).gauges = t.gauges) :
    (State.forEach l f s).gauges = s.gauges := State.forEach_unchanged State.gauges h l s

theorem State.gauges_askPresence (tag : PresTag) (s : State) : (s.askPresence tag).gauges = s.gauges := by
  refine State.gauges_of_kept ?_
  unfold State.askPresence
  dsimp only
  rw [State.kept_push, State.kept_repeatYields]
  split
  · rfl
  · exact State.kept_sendTagged ..

theorem State.gauges_startPresence (s : State) : s.startPresence.gauges = s.gauges := rfl

theorem State.gauges_withCondition {f : State → State} (s : State) : (s.withCondition f).gauges = (f s).gauges := by
  unfold State.withCondition
  dsimp only
  split
  · rw [State.gauges_startPresence, State.gauges_askPresence]
  · rfl

theorem State.gauges_enterLine (new : LineState) (s : State) : (s.enterLine new).gauges = s.gauges := by
  unfold State.enterLine
  split
  · exact State.gauges_of_kept (State.kept_flushTx ..)
  · have hcleared := State.gauges_of_kept ((State.kept_dropHolds _).trans (State.kept_clearTx .detached s))
    exact hcleared
  · have hcleared := State.gauges_of_kept ((State.kept_dropHolds _).trans (State.kept_clearTx .duplicate s))
    exact hcleared
  · rfl

theorem State.gauges_updRoster (p : Nat) (f : RosterEntry → RosterEntry) (s : State) : (s.updRoster p f).gauges = s.gauges := rfl

theorem State.gauges_credit (p : Nat) (s : State) : (s.credit p).gauges = s.gauges := by
  unfold State.credit
  dsimp only
  split
  · exact State.gauges_updRoster ..
  · rw [State.gauges_of_kept (State.kept_testOwedTo ..), State.gauges_of_kept (State.kept_report ..), State.gauges_updRoster]

theorem State.gauges_peerGone (p : Nat) (s : State) : (s.peerGone p).gauges = s.gauges := by
  unfold State.peerGone
  dsimp only
  rw [State.gauges_of_kept (State.kept_push ..), State.gauges_of_kept (State.kept_exchangeAbsent ..),
    State.gauges_of_kept (State.kept_claimAbsent ..), State.gauges_of_kept (State.kept_report ..), State.gauges_updRoster]

theorem State.gauges_hearPresence (b : PresenceBody) (p : Nat) (s : State) : (s.hearPresence b p).gauges = s.gauges := by
  have heard : (((s.updRoster p fun e => { e with presence := some b }).credit p).neighbourHeard p
      (presenceDiffers (s.rosterAt p).presence b)).gauges = s.gauges := by
    rw [State.gauges_of_kept (State.kept_neighbourHeard ..), State.gauges_credit, State.gauges_updRoster]
  unfold State.hearPresence
  dsimp only
  split
  · rw [State.gauges_peerGone, heard]
  · exact heard

theorem State.gauges_accepted (x : Xfer) (s : State) : (s.accepted x).gauges = s.gauges := by
  rw [State.accepted_eq]
  rfl

theorem State.gauges_openDoor (s : State) : s.openDoor.gauges = s.gauges := by
  unfold State.openDoor
  rw [State.gauges_of_kept (State.kept_report ..)]
  have hfrozen := State.gauges_of_kept (State.kept_freezeOrder s)
  exact hfrozen

theorem State.gauges_closeDoor (s : State) : s.closeDoor.gauges = s.gauges := by
  unfold State.closeDoor
  dsimp only
  rw [State.gauges_of_kept (State.kept_push ..), State.gauges_of_kept (State.kept_doorLongGone ..),
    State.gauges_of_kept (State.kept_report ..)]
  have hthawed := State.gauges_of_kept (State.kept_thawOrder s)
  have haudit := State.gauges_of_kept (State.kept_report .auditNeeded (s.thawOrder.modInv fun i => { i with bay := .audit }))
  exact haudit.trans hthawed

theorem State.gauges_addCharge (n C secs : Nat) (s : State) : (s.addCharge n C secs).gauges = s.gauges := by
  unfold State.addCharge State.gauges
  simp only [State.modAcct_acct]
  split <;> rfl

theorem State.gauges_reportListen (s : State) : s.reportListen.gauges = s.gauges := State.gauges_of_kept (State.kept_reportListen s)

theorem State.gauges_beginPress (b : Button) (s : State) : (s.beginPress b).gauges = s.gauges := by
  cases b <;> rfl

theorem State.gauges_stale (s : State) : s.stale.gauges = s.gauges := by
  unfold State.stale
  split
  · rfl
  next c _ _ =>
    split
    · have hreported := State.gauges_of_kept (State.kept_report (.stale s.acct.closed.length c.finish) s)
      exact hreported
    · rfl

/-! ## The counters that saturate -/

theorem satAdd_le (m n k : Nat) : satAdd m n k ≤ m := min_le_left ..

theorem fit_countStray {s : State} (h : s.Fit) : s.countStray.Fit :=
  ⟨{ h.counters with stray := satAdd_le _ _ _ }, { h.line with }⟩

theorem fit_countStale {s : State} (h : s.Fit) : s.countStale.Fit :=
  ⟨{ h.counters with stale := satAdd_le _ _ _ }, { h.line with }⟩

theorem fit_modArm {f : Arm → Arm} {s : State} (hretry : (f s.arm).retryCounter ≤ 16) (hstale : (f s.arm).stale = s.arm.stale)
    (h : s.Fit) : (s.modArm f).Fit :=
  ⟨{ h.counters with retry := hretry, stale := hstale.trans_le h.counters.stale }, { h.line with }⟩

theorem fit_retry (o : Order) (m : Move) {s : State} (h : s.Fit) : (s.retry o m).Fit := by
  unfold State.retry
  dsimp only
  split
  · exact fit_of_kept (State.kept_report ..) (fit_modArm (satAdd_le _ _ _) rfl h)
  · exact fit_modArm (satAdd_le _ _ _) rfl h

theorem fit_offerClosed (x : ClosedSession) {s : State} (h : s.Fit) : (s.offerClosed x).Fit := by
  unfold State.offerClosed
  dsimp only
  split
  · split
    · exact fit_of_kept (State.kept_report ..) ⟨{ h.counters with }, { h.line with }⟩
    · exact ⟨{ h.counters with }, { h.line with }⟩
  · exact fit_of_kept (State.kept_report ..) ⟨{ h.counters with sessionsLost := satAdd_le _ _ _ }, { h.line with }⟩

theorem fit_tick {s : State} (h : s.Fit) : s.tick.Fit := by
  have hcounted : (if s.sys.mode = .init then s else s.countTick).Fit := by
    split
    · exact h
    · exact ⟨{ h.counters with }, { h.line with }⟩
  exact ⟨{ hcounted.counters with stationTime := satAdd_le _ _ _ }, { hcounted.line with }⟩

theorem fit_enterRequest (q : Request) (hq : q.req.seq ≤ 255) {s : State} (h : s.Fit) : (s.enterRequest q).Fit := by
  unfold State.enterRequest
  exact fit_of_kept (State.kept_reqReport ..)
    (fit_of_kept (State.kept_addReq ..) ⟨{ h.counters with lastSeq := hq }, { h.line with }⟩)

/-! ## Sessions and moves -/

theorem fit_closeSession (d n : Nat) (cause : CloseCause) {s : State} (h : s.Fit) : (s.closeSession d n cause).Fit := by
  unfold State.closeSession
  split
  · exact h
  · refine fit_offerClosed _ (fit_of_kept (State.kept_wearReel ..) (fit_of_gauges (State.gauges_addCharge ..) ?_))
    exact fit_of_kept (State.kept_updDrive ..) h

theorem fit_closeCleaning (d : Nat) (lost : Bool) {s : State} (h : s.Fit) : (s.closeCleaning d lost).Fit := by
  unfold State.closeCleaning
  split
  · exact h
  · exact fit_offerClosed _ (fit_of_kept (State.kept_wearReel ..) (fit_of_gauges (State.gauges_addCharge ..) h))

theorem fit_forEach {α : Type} (l : List α) {f : α → State → State} (hf : ∀ a t, State.Fit t → (f a t).Fit) {s : State} (h : s.Fit) :
    (State.forEach l f s).Fit := by
  unfold State.forEach
  induction l generalizing s with
  | nil => exact h
  | cons a l ih => exact ih (hf a s h)

theorem fit_closeAll {s : State} (h : s.Fit) : s.closeAll.Fit := fit_forEach _ (fun d _ => fit_closeSession d 0 .restart) h

theorem fit_dismountDrive (d : Nat) (errors : Nat) {s : State} (h : s.Fit) : (s.dismountDrive d errors).Fit := by
  unfold State.dismountDrive
  dsimp only
  repeat' first
    | assumption
    | with_reducible apply fit_closeSession
    | with_reducible refine fit_of_kept (State.kept_updDrive ..) ?_
    | with_reducible refine fit_of_kept (State.kept_driveToIdle ..) ?_
    | with_reducible refine fit_of_kept (State.kept_examineDrive ..) ?_
    | split

theorem fit_dismountRequest (r : ReqNo) (errors : Nat) (e : End) {s : State} (h : s.Fit) : (s.dismountRequest r errors e).Fit := by
  unfold State.dismountRequest
  repeat' first
    | assumption
    | with_reducible apply fit_dismountDrive
    | with_reducible refine fit_of_kept (State.kept_endRequest ..) ?_
    | split

theorem fit_mountDone (r : ReqNo) (d : Nat) (v : Serial) {s : State} (h : s.Fit) : (s.mountDone r d v).Fit := by
  unfold State.mountDone
  dsimp only
  repeat' first
    | assumption
    | with_reducible apply fit_dismountRequest
    | with_reducible refine fit_of_kept (State.kept_enterMounted ..) ?_
    | split

theorem fit_cancelRequest (r : ReqNo) {s : State} (h : s.Fit) : (s.cancelRequest r).Fit := by
  unfold State.cancelRequest
  repeat' first
    | assumption
    | with_reducible apply fit_dismountRequest
    | with_reducible refine fit_of_kept (State.kept_updReq ..) ?_
    | with_reducible refine fit_of_kept (State.kept_endRequest ..) ?_
    | with_reducible refine fit_of_kept (State.kept_cancelMoving ..) ?_
    | with_reducible refine fit_of_kept (State.kept_sendRelease ..) ?_
    | with_reducible refine fit_of_kept (State.kept_releaseProxy ..) ?_
    | split

theorem fit_putToDrive (m : Move) (d : Nat) {s : State} (h : s.Fit) : (s.putToDrive m d).Fit := by
  unfold State.putToDrive
  dsimp only
  repeat' first
    | assumption
    | with_reducible apply fit_mountDone
    | with_reducible refine fit_of_kept (State.kept_updEntry ..) ?_
    | with_reducible refine fit_of_kept (State.kept_updDrive ..) ?_
    | with_reducible refine fit_of_kept (State.kept_driveToIdle ..) ?_
    | split

theorem fit_putDone (m : Move) {s : State} (h : s.Fit) : (s.putDone m).Fit := by
  unfold State.putDone
  dsimp only
  repeat' first
    | assumption
    | with_reducible apply fit_putToDrive
    | with_reducible refine fit_of_kept (State.kept_endMove ..) ?_
    | with_reducible refine fit_of_kept (State.kept_putToHatch ..) ?_
    | with_reducible refine fit_of_kept (State.kept_putToCell ..) ?_
    | with_reducible refine fit_of_kept (State.kept_putToSlotDone ..) ?_
    | split

theorem fit_orderFails (o : Order) (m : Move) (f : Fail) {s : State} (h : s.Fit) : (s.orderFails o m f).Fit := by
  unfold State.orderFails
  repeat' first
    | assumption
    | with_reducible apply fit_retry
    | with_reducible refine fit_of_kept (State.kept_push ..) ?_
    | with_reducible refine fit_of_kept (State.kept_emptySource ..) ?_
    | with_reducible refine fit_of_kept (State.kept_occupiedDest ..) ?_
    | with_reducible refine fit_of_kept (State.kept_moveFails ..) ?_
    | split

theorem fit_hearPlaced (r : ReqNo) (sender : Nat) {s : State} (h : s.Fit) : (s.hearPlaced r sender).Fit := by
  unfold State.hearPlaced
  dsimp only
  repeat' first
    | assumption
    | with_reducible apply fit_countStray
    | with_reducible refine fit_of_kept (State.kept_sendRelease ..) ?_
    | with_reducible refine fit_of_kept (State.kept_becomeProxy ..) ?_
    | with_reducible refine fit_of_kept (State.kept_hopAccepted ..) ?_
    | split

theorem fit_hearRefused (r : ReqNo) (why : RefuseReason) (sender : Nat) {s : State} (h : s.Fit) : (s.hearRefused r why sender).Fit := by
  unfold State.hearRefused
  repeat' first
    | assumption
    | with_reducible apply fit_countStray
    | with_reducible refine fit_of_kept (State.kept_failRequest ..) ?_
    | with_reducible refine fit_of_kept (State.kept_countAttempt ..) ?_
    | with_reducible refine fit_of_kept (State.kept_hopRefused ..) ?_
    | split

theorem fit_hearRelease (r : ReqNo) (k : ReleaseKind) (sender : Nat) {s : State} (h : s.Fit) : (s.hearRelease r k sender).Fit := by
  unfold State.hearRelease
  repeat' first
    | assumption
    | with_reducible apply fit_dismountRequest
    | with_reducible apply fit_cancelRequest
    | with_reducible apply fit_countStray
    | split

theorem fit_hearHave (b : HaveBody) (sender : Nat) {s : State} (h : s.Fit) : (s.hearHave b sender).Fit := by
  unfold State.hearHave
  repeat' first
    | assumption
    | with_reducible apply fit_countStray
    | with_reducible refine fit_of_kept (State.kept_updReq ..) ?_
    | split

theorem fit_completeOrder (o : Order) (ring : Bool) {s : State} (h : s.Fit) : (s.completeOrder o ring).Fit := by
  unfold State.completeOrder
  dsimp only
  repeat' first
    | assumption
    | with_reducible apply fit_putDone
    | with_reducible refine fit_of_kept (State.kept_examineAlone ..) ?_
    | with_reducible refine fit_of_kept (State.kept_getDone ..) ?_
    | with_reducible refine fit_of_kept (State.kept_answered ..) ?_
    | split

theorem fit_faultOrder (o : Order) (f : Fail) {s : State} (h : s.Fit) : (s.faultOrder o f).Fit := by
  unfold State.faultOrder
  dsimp only
  repeat' first
    | assumption
    | with_reducible apply fit_orderFails
    | with_reducible refine fit_of_kept (State.kept_examineAlone ..) ?_
    | with_reducible refine fit_of_kept (State.kept_answered ..) ?_
    | split

theorem fit_driveOffline (d : Nat) (x : Drive) {s : State} (h : s.Fit) : (s.driveOffline d x).Fit := by
  unfold State.driveOffline
  dsimp only
  repeat' first
    | assumption
    | with_reducible apply fit_closeSession
    | with_reducible apply fit_closeCleaning
    | with_reducible refine fit_of_kept (State.kept_withdrawPrompt ..) ?_
    | with_reducible refine fit_of_kept (State.kept_driveOff ..) ?_
    | with_reducible refine fit_of_kept (State.kept_removeMoves ..) ?_
    | with_reducible refine fit_of_kept (State.kept_failRequest ..) ?_
    | with_reducible refine fit_of_kept (State.kept_driveLostPutAway ..) ?_
    | with_reducible refine fit_of_kept (State.kept_driveTaken ..) ?_
    | split

theorem fit_endCleaning (d : Nat) (x : Drive) {s : State} (h : s.Fit) : (s.endCleaning d x).Fit := by
  unfold State.endCleaning
  repeat' first
    | assumption
    | with_reducible apply fit_closeCleaning
    | with_reducible refine fit_of_kept (State.kept_updDrive ..) ?_
    | with_reducible refine fit_of_kept (State.kept_countPass ..) ?_
    | with_reducible refine fit_of_kept (State.kept_driveToIdle ..) ?_

theorem fit_timeOut (o : Order) {s : State} (h : s.Fit) : (s.timeOut o).Fit := by
  unfold State.timeOut
  dsimp only
  repeat' first
    | assumption
    | with_reducible apply fit_orderFails
    | with_reducible refine fit_of_kept (State.kept_examineAlone ..) ?_
    | with_reducible refine fit_of_kept (State.kept_answered ..) ?_
    | with_reducible refine fit_of_kept (State.kept_slow ..) ?_
    | split

/-! ## The line state -/

/-- INIT's line state fits whatever the other parts of the state are. -/
theorem fit_completeRestart {s : State} (h : s.Fit) : s.completeRestart.Fit := by
  have hclosed := fit_of_gauges (State.gauges_reportListen _) (fit_closeAll h)
  constructor
  · exact { hclosed.counters with score := Nat.zero_le _, errors := Nat.zero_le _ }
  · exact { quiet := fun _ => rfl, joining := fun _ => .inl rfl, listening := fun _ => ⟨rfl, .inl rfl⟩,
            clear := fun h => (by cases h), caution := fun h => (by cases h), muted := fun h => (by cases h) }

/-- The state that enters ACTIVE: its mode, and its line CLEAR but in DUPLICATE (R197). -/
def State.active (s : State) : State :=
  (s.modSys fun y => { y with mode := .active, listenEnd := none }).modLine fun l =>
    { l with state := if s.line.state = .duplicate then LineState.duplicate else .clear }

theorem State.gauges_enterActive (s : State) : s.enterActive.gauges = s.active.gauges := by
  unfold State.enterActive
  dsimp only
  rw [State.gauges_of_kept (State.kept_push ..), State.gauges_of_kept (State.kept_push ..), State.gauges_of_kept (State.kept_push ..),
    State.gauges_forEach _ _ fun c t => State.gauges_of_kept (State.kept_takeUpCell c t),
    State.gauges_forEach _ _ fun x t => State.gauges_of_kept (State.kept_takeUpDrive x t)]
  calc (((s.active.report _).startPresence.askPresence .plain).modPort _).gauges
      = ((s.active.report _).startPresence.askPresence .plain).gauges := rfl
    _ = (s.active.report _).gauges := by rw [State.gauges_askPresence, State.gauges_startPresence]
    _ = s.active.gauges := State.gauges_of_kept (State.kept_report ..)

/-- R96: from JOINING the line is in LISTEN with score 0, or in DUPLICATE. -/
theorem fit_enterActive {s : State} (hmode : s.sys.mode = .joining) (h : s.Fit) : s.enterActive.Fit := by
  refine fit_of_gauges s.gauges_enterActive ⟨{ h.counters with }, ?_⟩
  rcases h.line.joining hmode with hlisten | hduplicate
  · obtain ⟨hscore, -⟩ := h.line.listening hlisten
    constructor <;> simp [State.active, hlisten, hscore]
  · constructor <;> simp [State.active, hduplicate]

/-- The state with another line state. -/
def State.inLine (new : LineState) (s : State) : State := s.modLine fun l => { l with state := new }

theorem State.inLine_self (s : State) : s.inLine s.line.state = s := rfl

/-- What a change of line state does before it looks at RESTART and JOINING (R92 to R95). -/
def State.changeLine (new : LineState) (s : State) : State :=
  s.withCondition fun t =>
    ((((t.inLine new).enterLine new).report (.line s.line.state new t.line.score)).push .plan).push .handoffTest

theorem State.gauges_changeLine (new : LineState) (s : State) : (s.changeLine new).gauges = (s.inLine new).gauges := by
  unfold State.changeLine
  rw [State.gauges_withCondition, State.gauges_of_kept (State.kept_push ..), State.gauges_of_kept (State.kept_push ..),
    State.gauges_of_kept (State.kept_report ..), State.gauges_enterLine]

/-- A change of line state leaves the state as it is, or changed, or, at the end of a RESTART or of JOINING, goes on from there. -/
theorem State.setLine_cases (new : LineState) (s : State) :
    (s.line.state = new ∧ s.setLine new = s) ∨ s.setLine new = s.changeLine new ∨
      s.setLine new = (s.changeLine new).completeRestart ∨ (s.sys.mode = .joining ∧ s.setLine new = (s.changeLine new).enterActive) := by
  unfold State.setLine
  dsimp only
  split
  next heq => exact .inl ⟨heq.symm, rfl⟩
  split
  · split
    · exact .inr (.inr (.inl rfl))
    split
    next hjoining => exact .inr (.inr (.inr ⟨hjoining.1, rfl⟩))
    · exact .inr (.inl rfl)
  · exact .inr (.inl rfl)

theorem fit_setLine {new : LineState} {s : State} (h : (s.inLine new).Fit) : (s.setLine new).Fit := by
  have hgauges := s.gauges_changeLine new
  have hchanged := fit_of_gauges hgauges h
  rcases s.setLine_cases new with ⟨heq, hsame⟩ | hnext | hnext | ⟨hmode, hnext⟩
  · rw [hsame]
    exact s.inLine_self ▸ heq ▸ h
  · exact hnext ▸ hchanged
  · exact hnext ▸ fit_completeRestart hchanged
  · exact hnext ▸ fit_enterActive ((congrArg Prod.fst hgauges).trans hmode) hchanged

/-! ## The score -/

/-- R92's table keeps each state within its thresholds, as long as a score in MUTED has not fallen far. -/
theorem nextLine_fits {held : LineState} {n : Nat} (hlisten : held ≠ .listen) (hmuted : held = .muted → 47 ≤ n) :
    nextLine held n ≠ .listen ∧ (nextLine held n = .clear → n < 32) ∧ (nextLine held n = .caution → 24 ≤ n ∧ n < 64) ∧
      (nextLine held n = .muted → 48 ≤ n ∧ n < 96) := by
  cases held with
  | listen => exact absurd rfl hlisten
  | duplicate => simp [nextLine]
  | detached => simp [nextLine]
  | clear =>
    unfold nextLine
    dsimp only
    split_ifs <;> simp <;> omega
  | caution =>
    unfold nextLine
    dsimp only
    split_ifs <;> simp <;> omega
  | muted =>
    have := hmuted rfl
    unfold nextLine
    dsimp only
    split_ifs <;> simp <;> omega

/-- A score that moves by its rule, falling by 1 at most, brings the line state with it (R91, R92). -/
theorem fit_score {f : Nat → Nat} (hmost : ∀ n, n ≤ 127 → f n ≤ 127) (hfall : ∀ n, n ≤ 127 → n - 1 ≤ f n) {s : State} (h : s.Fit) :
    (s.score f).Fit := by
  have hscore := h.counters.score
  unfold State.score
  split
  · exact h
  · exact h
  next hlisten hduplicate =>
    have hmuted (hm : s.line.state = .muted) : 47 ≤ f s.line.score := by
      have := (h.line.muted hm).1
      have := hfall _ hscore
      omega
    have hfits := nextLine_fits hlisten hmuted
    obtain ⟨hnot, hclear, hcaution, hmute⟩ := hfits
    refine fit_setLine ⟨{ h.counters with score := hmost _ hscore }, ?_⟩
    exact { quiet := fun hm => absurd (h.line.quiet hm) hlisten
            joining := fun hm => ((h.line.joining hm).elim (absurd · hlisten) (absurd · hduplicate))
            listening := fun hl => absurd hl hnot
            clear := hclear
            caution := hcaution
            muted := hmute }

theorem fit_raise (k : Nat) {s : State} (h : s.Fit) : (s.score (raise_ k)).Fit :=
  fit_score (fun _ _ => satAdd_le _ _ _) (fun n hn => by unfold satAdd; omega) h

theorem fit_fall {s : State} (h : s.Fit) : (s.score fun n => n - 1).Fit :=
  fit_score (fun _ hn => (Nat.sub_le ..).trans hn) (fun _ _ => le_rfl) h

theorem fit_badFrame {s : State} (h : s.Fit) : s.badFrame.Fit :=
  fit_raise 1 ⟨{ h.counters with errors := satAdd_le _ _ _ }, { h.line with }⟩

/-! ## Recovery, frames and attempts -/

theorem fit_recover {s : State} (hstate : s.line.state = .detached) (h : s.Fit) : s.recover.Fit := by
  have hlisten : s.line.state ≠ .listen := by rw [hstate]; decide
  have hcleared : (s.modLine fun l => { l with score := 0, state := .clear, goodFrames := 0, quietEnd := none }).Fit := by
    refine ⟨{ h.counters with score := Nat.zero_le _ }, ?_⟩
    exact { quiet := fun hm => absurd (h.line.quiet hm) hlisten
            joining := fun hm => ((h.line.joining hm).elim (absurd · hlisten) fun hd => by rw [hstate] at hd; cases hd)
            listening := fun hl => by cases hl
            clear := fun _ => (by decide : 0 < 32)
            caution := fun hl => by cases hl
            muted := fun hl => by cases hl }
  unfold State.recover
  refine fit_of_gauges ?_ hcleared
  rw [State.gauges_startPresence, State.gauges_askPresence, State.gauges_of_kept (State.kept_push ..),
    State.gauges_of_kept (State.kept_push ..), State.gauges_of_kept (State.kept_report ..)]

theorem fit_duplicate {s : State} (hmode : s.sys.mode ≠ .init) (h : s.Fit) : (s.setLine .duplicate).Fit := by
  refine fit_setLine ⟨{ h.counters with }, ?_⟩
  exact { quiet := fun hm => absurd hm hmode
          joining := fun _ => .inr rfl
          listening := fun hl => by cases hl
          clear := fun hl => by cases hl
          caution := fun hl => by cases hl
          muted := fun hl => by cases hl }

theorem fit_takeFrame (p : Nat) (pres : Bool) {act : State → State} (hact : ∀ t, State.Fit t → (act t).Fit) {s : State}
    (hmode : s.sys.mode ≠ .init) (h : s.Fit) : (s.takeFrame p pres act).Fit := by
  unfold State.takeFrame
  split
  · split
    · exact h
    · exact fit_duplicate hmode h
  · have hcredited : (if pres = true then s else s.credit p).Fit := by
      split
      · exact h
      · exact fit_of_gauges (State.gauges_credit ..) h
    have hcounted (t : State) (ht : t.Fit) :
        (if decide (t.line.state = .detached) = true then t.modLine fun l => { l with goodFrames := l.goodFrames + 1 } else t).Fit := by
      split
      · exact ⟨{ ht.counters with }, { ht.line with }⟩
      · exact ht
    dsimp only
    generalize (if pres = true then s else s.credit p) = t at hcredited ⊢
    have hheard := hact _ (hcounted t hcredited)
    generalize act _ = u at hheard ⊢
    split
    next hback => exact fit_recover hback.2.1 hheard
    · exact hheard

theorem fit_joiningEnded (witnessed : Bool) {s : State} (h : s.Fit) : (s.joiningEnded witnessed).Fit := by
  unfold State.joiningEnded
  split
  · exact h
  next hjoining =>
    have hmode : s.sys.mode = .joining := by
      by_contra hne
      exact hjoining (.inl hne)
    split
    · exact fit_enterActive hmode h
    · exact ⟨{ h.counters with }, { h.line with }⟩

theorem fit_settled (m : TxMsg) {s : State} (h : s.Fit) : (s.settled m).Fit := by
  unfold State.settled
  split
  · exact fit_completeRestart h
  · exact fit_joiningEnded true h
  · exact fit_of_kept (State.kept_ownerWitnessed ..) h

theorem fit_attemptWitnessed {s : State} (h : s.Fit) : s.attemptWitnessed.Fit := by
  unfold State.attemptWitnessed
  split
  · exact h
  next m _ =>
    have hsettled := fit_settled m (fit_of_kept (State.kept_dropOnLine s) h)
    dsimp only
    split
    · exact hsettled
    · exact fit_fall hsettled

theorem fit_attemptFailed (m : TxMsg) {s : State} (h : s.Fit) : (s.attemptFailed m).Fit := by
  have hdropped := fit_of_kept (State.kept_dropOnLine s) h
  have hout := fit_of_kept (State.kept_attemptsOut m (m.attempts + 1) s.dropOnLine) hdropped
  unfold State.attemptFailed
  split
  · exact fit_completeRestart h
  · split
    · exact fit_of_kept (State.kept_ownerWithdrawn ..) hdropped
    split
    · exact fit_of_kept (State.kept_keepOnLine ..) h
    dsimp only
    split
    · exact fit_joiningEnded false hout
    · exact hout

theorem fit_failAttempt (k : Nat) {s : State} (h : s.Fit) : (s.failAttempt k).Fit := by
  unfold State.failAttempt
  split
  · exact h
  next m _ =>
    have hfailed := fit_attemptFailed m h
    dsimp only
    split
    · exact hfailed
    · exact fit_raise k hfailed

theorem fit_queueLeaving {s : State} (h : s.Fit) : s.queueLeaving.Fit := by
  have hwithdrawn := fit_of_kept (State.kept_withdraw isPresence s) h
  unfold State.queueLeaving
  dsimp only
  split
  · exact fit_completeRestart hwithdrawn
  · exact ⟨{ hwithdrawn.counters with }, { hwithdrawn.line with }⟩

/-! ## Changes of mode -/

/-- Another mode of ACTIVE and STANDALONE fits as well: the line state is neither LISTEN nor one of JOINING. -/
theorem fit_mode {m : Mode} {s : State} (hold : s.sys.mode = .active ∨ s.sys.mode = .standalone) (hnew : m = .active ∨ m = .standalone)
    {t : State} (ht : t.gauges = (s.modSys fun y => { y with mode := m }).gauges) (h : s.Fit) : t.Fit := by
  have hlisten : s.line.state ≠ .listen := fun hl => by
    obtain ⟨-, hm | hm⟩ := h.line.listening hl <;> rcases hold with ho | ho <;> rw [hm] at ho <;> cases ho
  refine fit_of_gauges ht ⟨{ h.counters with }, ?_⟩
  exact { quiet := fun hm => by rcases hnew with rfl | rfl <;> cases hm
          joining := fun hm => by rcases hnew with rfl | rfl <;> cases hm
          listening := fun hl => absurd hl hlisten
          clear := h.line.clear
          caution := h.line.caution
          muted := h.line.muted }

theorem fit_goAlone {s : State} (hmode : s.sys.mode = .active) (h : s.Fit) : s.goAlone.Fit := by
  refine fit_mode (m := .standalone) (.inl hmode) (.inr rfl) ?_ h
  unfold State.goAlone
  rw [State.gauges_of_kept (State.kept_yieldAlone _), State.gauges_of_kept (State.kept_quietHolds _), State.gauges_withCondition]
  rfl

theorem leaves_fit_resume (x : Xfer) (s : State) : (s.resume x).Leaves fun t => s.Fit → t.Fit := by
  unfold State.resume
  split
  · trivial
  next hmode =>
    refine fit_mode (m := .active) (.inr (not_not.mp hmode)) (.inl rfl) ?_
    rw [State.gauges_of_kept (State.kept_push ..), State.gauges_of_kept (State.kept_push ..), State.gauges_of_kept (State.kept_push ..),
      State.gauges_withCondition]
    rfl

theorem fit_begin {s : State} (hmode : s.sys.mode = .init) (h : s.Fit) : s.begin.Fit := by
  have hlisten := h.line.quiet hmode
  obtain ⟨hscore, -⟩ := h.line.listening hlisten
  refine ⟨{ h.counters with }, ?_⟩
  exact { h.line with
          quiet := fun hm => by cases hm
          joining := fun _ => .inl hlisten
          listening := fun _ => ⟨hscore, .inr rfl⟩ }

theorem leaves_fit_start (s : State) (hmode : s.sys.mode = .init) : s.start.Leaves fun t => s.Fit → t.Fit := by
  unfold State.start
  split
  · trivial
  · intro h
    split
    · exact fit_of_kept (State.kept_raisePlain ..) (fit_begin hmode h)
    · exact fit_begin hmode h

/-! ## The host's commands -/

theorem Answered.Leaves.fit {s : State} {a : Answered} (h : a.Leaves fun t => t.gauges = s.gauges) :
    a.Leaves fun t => s.Fit → t.Fit := h.mono fun _ ht => fit_of_gauges ht

theorem leaves_gauges_loadDrive (a c : Nat) (p : Option DrivePos) (s : State) :
    (s.loadDrive a c p).Leaves fun u => u.gauges = s.gauges := by
  unfold State.loadDrive
  split
  · trivial
  split
  · trivial
  · exact rfl

theorem leaves_gauges_loadReel (a : LoadReelArgs) (s : State) : (s.loadReel a).Leaves fun u => u.gauges = s.gauges := by
  unfold State.loadReel
  split
  · split
    · trivial
    split
    · trivial
    · exact State.gauges_of_kept (State.kept_addEntry ..)
  · trivial

/-- Every candidate for a new number is in 1..255 (R42). -/
theorem freshSeq_le (used : Nat → Bool) (fuel n : Nat) : freshSeq used fuel n ≤ 255 := by
  have hnext (n : Nat) : nextSeq n ≤ 255 := by unfold nextSeq; split <;> omega
  induction fuel generalizing n with
  | zero => exact hnext n
  | succ fuel ih =>
    unfold freshSeq
    split
    · exact ih _
    · exact hnext n

theorem leaves_fit_mount (a : MountArgs) (s : State) : (s.mount a).Leaves fun t => s.Fit → t.Fit := by
  unfold State.mount
  split
  · trivial
  split
  · split
    · trivial
    split
    · trivial
    · exact fun h => fit_of_kept (State.kept_firstLook ..) (fit_enterRequest _ (freshSeq_le ..) h)
  · trivial

theorem leaves_gauges_endAudit (s : State) : s.endAudit.Leaves fun u => u.gauges = s.gauges := by
  unfold State.endAudit
  split
  · trivial
  · simp only [Answered.Leaves]
    rw [State.gauges_of_kept (State.kept_push ..), State.gauges_of_kept (State.kept_push ..), State.gauges_of_kept (State.kept_push ..),
      State.gauges_withCondition]
    rfl

theorem leaves_gauges_takeSession (s : State) : s.takeSession.Leaves fun u => u.gauges = s.gauges := by
  unfold State.takeSession
  split <;> exact rfl

theorem leaves_gauges_clearAccount (n : Nat) (s : State) : (s.clearAccount n).Leaves fun u => u.gauges = s.gauges := by
  unfold State.clearAccount
  split
  · trivial
  · exact rfl

theorem leaves_fit_readLine (p : Option Nat) (s : State) : (s.readLine p).Leaves fun t => s.Fit → t.Fit := by
  unfold State.readLine
  split
  · exact fun h => ⟨{ h.counters with errors := Nat.zero_le _ }, { h.line with }⟩
  split
  · trivial
  · exact id

theorem leaves_gauges_takeReport (s : State) : s.takeReport.Leaves fun u => u.gauges = s.gauges := by
  unfold State.takeReport
  split <;> exact rfl

theorem leaves_fit_restart (s : State) : s.restart.Leaves fun t => s.Fit → t.Fit := by
  unfold State.restart
  split
  · trivial
  split
  · exact id
  · dsimp only
    split
    · exact fun h => fit_completeRestart (fit_of_gauges (s := s) rfl h)
    · exact fun h => fit_queueLeaving (fit_of_gauges (s := s) rfl h)

theorem setStartup_gauges (field : Nat) (value : Option Nat) (s : State) : (s.setStartup field value).Leaves fun t => t.gauges = s.gauges := by
  unfold State.setStartup
  split
  · trivial
  split <;> exact rfl

theorem idle_gauges (s : State) : s.idle.gauges = s.gauges := by
  unfold State.idle
  split <;> rfl

/-! ## Every command -/

/-- Every command but the two that write the Start-Up Block keeps the counters in range and the line state with mode and score. -/
theorem stepKeeps_fit : StepKeeps fun s t => s.Fit → t.Fit where
  refl _ := id
  trans h k := k ∘ h
  settle s := fit_of_kept (State.kept_settle s)
  accepted x s := fit_of_gauges (State.gauges_accepted x s)
  reply _ _ _ _ := fit_of_gauges rfl
  frameFault _ := fit_of_gauges rfl
  resetRises _ := fit_of_gauges rfl
  loadDrive a c p s := (leaves_gauges_loadDrive a c p s).fit
  loadReel a s := (leaves_gauges_loadReel a s).fit
  start := leaves_fit_start
  mount := leaves_fit_mount
  dismountRequest r n e _ := fit_dismountRequest r n e
  releaseProxy r k s := fit_of_kept (State.kept_releaseProxy r k s)
  cancelRequest r _ := fit_cancelRequest r
  takeInFlight s := fit_of_kept (State.kept_takeInFlight s)
  countStale _ := fit_countStale
  completeOrder o ring _ := fit_completeOrder o ring
  faultOrder o f _ := fit_faultOrder o f
  labelApply c k s := fit_of_kept (State.kept_labelApply c k s)
  slotApply n k s := fit_of_kept (State.kept_slotApply n k s)
  endAudit s := (leaves_gauges_endAudit s).fit
  driveOffline d y _ := fit_driveOffline d y
  driveToIdle d s := fit_of_kept (State.kept_driveToIdle d s)
  driveToEmpty d s := fit_of_kept (State.kept_driveToEmpty d s)
  push w s := fit_of_kept (State.kept_push w s)
  takeSession s := (leaves_gauges_takeSession s).fit
  clearAccount n s := (leaves_gauges_clearAccount n s).fit
  readLost _ h := ⟨{ h.counters with sessionsLost := Nat.zero_le _ }, { h.line with }⟩
  readLine := leaves_fit_readLine
  clearRetry _ := fit_modArm (Nat.zero_le _) rfl
  takeReport s := (leaves_gauges_takeReport s).fit
  readStatus _ := fit_of_gauges rfl
  resume := leaves_fit_resume
  restart := leaves_fit_restart
  reach _ _ := fit_of_gauges rfl
  goAlone _ hmode := fit_goAlone hmode
  listenOver _ := fit_of_gauges rfl
  enterActive _ hmode := fit_enterActive hmode
  tick _ := fit_tick
  stale s := fit_of_gauges (State.gauges_stale s)
  endCleaning d y _ := fit_endCleaning d y
  reservationOver v s := fit_of_kept (State.kept_updEntry v _ s)
  failRequest r c s := fit_of_kept (State.kept_failRequest r c s)
  becomeLate q s := fit_of_kept (State.kept_becomeLate q s)
  hopLapse _ q s _ := fit_of_kept (State.kept_hopLapse q s)
  forward q s := fit_of_kept (State.kept_forward q s)
  slow o s := fit_of_kept (State.kept_slow o s)
  timeOut o _ := fit_timeOut o
  pauseOver _ := fit_of_gauges rfl
  beginPress b s := fit_of_gauges (State.gauges_beginPress b s)
  ackReleased _ := fit_of_gauges rfl
  nextReleased _ := fit_of_gauges rfl
  ackPrompt p s := fit_of_kept (State.kept_ackPrompt p s)
  declinePrompt p s := fit_of_kept (State.kept_declinePrompt p s)
  setCursor _ _ := fit_of_gauges rfl
  openDoor s := fit_of_gauges ((State.gauges_withCondition s).trans (State.gauges_openDoor s))
  closeDoor s := fit_of_gauges ((State.gauges_withCondition s).trans (State.gauges_closeDoor s))
  doorExpires _ := fit_of_gauges rfl
  raisePlain c k s := fit_of_kept (State.kept_raisePlain c k s)
  showPrompt k s := fit_of_kept (State.kept_showPrompt k s)
  escalate k s := fit_of_kept (State.kept_escalate k s)
  beginFrame s := fit_of_kept (State.kept_beginFrame s)
  contentionLost s := fit_of_kept (State.kept_contentionLost s)
  failAttempt k _ := fit_failAttempt k
  attemptWitnessed _ := fit_attemptWitnessed
  recover _ hstate := fit_recover hstate
  badFrame _ _ := fit_badFrame
  peerGone p s := fit_of_gauges (State.gauges_peerGone p s)
  askPresence tag s := fit_of_gauges (State.gauges_askPresence tag s)
  startPresence s := fit_of_gauges (State.gauges_startPresence s)
  takeFrame p pres _ _ hmode hact := fit_takeFrame p pres hact hmode
  hearPresence b p s := fit_of_gauges (State.gauges_hearPresence b p s)
  hearSeek b p s := fit_of_kept (State.kept_hearSeek b p s)
  hearHave b p _ := fit_hearHave b p
  takePlace b p s := fit_of_kept (State.kept_takePlace b p s)
  hearPlaced r p _ := fit_hearPlaced r p
  hearRefused r c p _ := fit_hearRefused r c p
  fromServer r p m _ s hact := State.fromServer_keeps m hact fit_countStray fun _ _ _ => fit_of_kept (State.kept_becomeProxy r p s)
  applyOutcome q ev s := fit_of_kept (State.kept_applyOutcome q ev s)
  applyState q a s := fit_of_kept (State.kept_applyState q a s)
  hearRelease r k p _ := fit_hearRelease r k p
  hearAsk r s := fit_of_kept (State.kept_hearAsk r s)
  hearHold b c s := fit_of_kept (State.kept_hearHold b c s)
  hearYield b c s := fit_of_kept (State.kept_hearYield b c s)
  hearHandoff b p s := fit_of_kept (State.kept_hearHandoff b p s)
  closeWindow r s := fit_of_kept (State.kept_closeWindow r s)
  settleReseek r s := fit_of_kept (State.kept_settleReseek r s)
  countAttempt r f u s := fit_of_kept (State.kept_countAttempt r f u s)
  followUp q s := fit_of_kept (State.kept_followUp q s)
  hopRefused r p s := fit_of_kept (State.kept_hopRefused r p s)

theorem fit_reset : State.reset.Fit := by
  constructor <;> constructor <;> decide

/-- Settles O59. -/
theorem everyStepKeepsTheLineAndItsCounters : Obligations.EveryStepKeepsTheLineAndItsCounters := by
  intro s t hc hl hstep
  obtain ⟨hc', hl'⟩ := step_keeps (P := State.Fit) (fun c s t hc hnext => stepKeeps_fit.of_exec hc hnext) stepKeeps_fit.toPortKeeps
    (fun _ => fit_of_gauges (s := State.reset) rfl fit_reset) (fun field value s _ => (setStartup_gauges field value s).fit) (fun _ _ => fit_of_gauges rfl)
    (fun s => fit_of_gauges (idle_gauges s)) ⟨hc, hl⟩ hstep
  exact ⟨hc', hl'⟩

end Sys2Proof.Machine

/-! SUPPORT. Transfers and their replies (R180, R181, R183): the mode table, bad transfers, the parts of a reply, and SET STARTUP. -/

namespace Sys2Proof.Machine

open Sys2Proof.Certificates

/-! ## Every transfer is a command of the host -/

/-- The row of R183's table that a command belongs to. -/
def kindOf (c : Instr) : Kind := if initOnly c then .initOnly else if takenAlone c then .standalone else .other

/-- A code that names a command is executed as R180 gives it: its words counted, its mode checked, its owning rule asked. -/
theorem exec_transfer {c : Instr} {x : Xfer} (hx : c.xfer = some x) (hn : unnamed c = false) :
    ∃ f, ∀ s, exec c s = .next (s.hostCommand x (leastWords c) (kindOf c) f) := by
  cases c
  case undefinedCommandCode => exact Bool.noConfusion hn
  all_goals cases hx
  all_goals exact ⟨_, fun _ => rfl⟩

theorem exec_undefined (x : Xfer) (code : Nat) {s : State} (h : s.sys.resetHeld = false) :
    exec (.undefinedCommandCode x code) s = .next (answered x .badValue [] s) := by
  have hexec : exec (.undefinedCommandCode x code) s =
      .next (if s.sys.resetHeld = true then s else (s.accepted x).refuseCmd x .badValue) := rfl
  rw [hexec, h, if_neg Bool.false_ne_true, State.refuseCmd, State.accepted_reply]

theorem exec_faulted {s : State} (h : s.sys.resetHeld = false) :
    exec .faultedTransfer s = .next { s with port := { s.port with frameFault := true } } := by
  have hexec : exec .faultedTransfer s =
      .next (if s.sys.resetHeld = true then s else s.modPort fun p => { p with frameFault := true }) := rfl
  rw [hexec, h, if_neg Bool.false_ne_true]
  rfl

theorem kindOf_initOnly {c : Instr} (h : initOnly c = true) : kindOf c = .initOnly := if_pos h

theorem kindOf_other {c : Instr} (h : initOnly c = false) (ha : takenAlone c = false) : kindOf c = .other := by
  simp [kindOf, h, ha]

theorem exec_resume (x : Xfer) (s : State) :
    exec (.resume x) s = .next (s.hostCommand x 0 .standalone (State.resume x)) := rfl

theorem State.resume_elsewhere (x : Xfer) {s : State} (h : s.sys.mode ≠ .standalone) : s.resume x = .error .notNow := if_pos h

theorem modeCheck_standalone (m : Mode) : modeCheck .standalone m = none := by cases m <;> rfl

/-- Settles O6: the mode check of the transfer's kind refuses, or RESUME's own guard does. -/
theorem theModeTableRefuses : Obligations.TheModeTableRefuses := by
  refine ⟨fun c x s hx hready => ⟨fun hinit hmode => ?locked, fun hinit halone hn hmode => ?notNow⟩, fun x s hready hmode => ?resume⟩
  case locked =>
    have hn : unnamed c = false := by cases c <;> first | rfl | exact Bool.noConfusion hinit
    obtain ⟨f, hf⟩ := exec_transfer hx hn
    rw [hf, kindOf_initOnly hinit, State.host_refused hready (modeCheck_initOnly hmode)]
  case notNow =>
    obtain ⟨f, hf⟩ := exec_transfer hx hn
    rw [hf, kindOf_other hinit halone, State.host_refused hready (by rw [hmode]; rfl)]
  case resume =>
    rw [exec_resume, State.host_error hready (modeCheck_standalone _) (State.resume_elsewhere x _)]
    rwa [State.accepted_sys]

/-- Settles O7. -/
theorem badTransfersChangeNothingElse : Obligations.BadTransfersChangeNothingElse := by
  refine ⟨fun c x s hx hn hreset hagenda hshort => ?_, fun x code s => exec_undefined x code, fun s => exec_faulted⟩
  obtain ⟨f, hf⟩ := exec_transfer hx hn
  rw [hf, State.host_short hreset hagenda hshort]

/-! ## The parts of a reply -/

theorem packInto_flatten (acc : List Data) (l : List Field) : (packParts.packInto acc l).flatten = acc ++ l.flatten := by
  induction l generalizing acc with
  | nil => simp [packParts.packInto]
  | cons f rest ih =>
    rw [packParts.packInto]
    split <;> simp [ih]

theorem packInto_le {acc : List Data} {l : List Field} (hacc : acc.length ≤ 14) (hl : ∀ f ∈ l, f.length ≤ 14) :
    ∀ p ∈ packParts.packInto acc l, p.length ≤ 14 := by
  induction l generalizing acc with
  | nil => simpa [packParts.packInto] using hacc
  | cons f rest ih =>
    have ⟨hf, hrest⟩ := List.forall_mem_cons.mp hl
    rw [packParts.packInto]
    split
    · next hfits => exact ih (by simpa using hfits) hrest
    · exact List.forall_mem_cons.mpr ⟨hacc, ih hf hrest⟩

/-- The field that begins the part `h` did not fit behind the fields of the part `g`. -/
def FullBefore (g h : List Field) : Prop := ∀ f ∈ h.head?, 14 < g.flatten.length + f.length

/-- The fields `l` behind those of the part begun, `g`: the part takes some of them, `h`, and the others make whole parts, each full before
the next. -/
theorem packInto_groups (g l : List Field) : ∃ h gs, packParts.packInto g.flatten l = (g ++ h).flatten :: gs.map List.flatten ∧
    h ++ gs.flatten = l ∧ ((g ++ h) :: gs).IsChain FullBefore := by
  induction l generalizing g with
  | nil => exact ⟨[], [], by simp [packParts.packInto], rfl, List.isChain_singleton _⟩
  | cons f rest ih =>
    rw [packParts.packInto]
    split
    · obtain ⟨h, gs, hpack, hall, hchain⟩ := ih (g ++ [f])
      refine ⟨f :: h, gs, ?_, by rw [List.cons_append, hall], ?_⟩
      · simpa using hpack
      · simpa using hchain
    · next hfull =>
      obtain ⟨h, gs, hpack, hall, hchain⟩ := ih [f]
      have hbegin : FullBefore g ([f] ++ h) := by simpa [FullBefore] using hfull
      refine ⟨[], ([f] ++ h) :: gs, ?_, by simpa using hall, ?_⟩
      · simpa using hpack
      · simpa using List.isChain_cons_cons.mpr ⟨hbegin, hchain⟩

theorem packParts_nil : packParts [] = [[]] := rfl

theorem packParts_cons (f : Field) (rest : List Field) : packParts (f :: rest) = packParts.packInto [f].flatten rest := by
  simp [packParts]

/-- Settles O8: the parts are those of `packInto`, whose part begun holds the first field. -/
theorem partsCarryTheFieldsInOrder : Obligations.PartsCarryTheFieldsInOrder := by
  intro fields hle
  cases fields with
  | nil => exact ⟨rfl, by simp [packParts_nil], [[]], rfl, rfl, List.isChain_singleton _⟩
  | cons f rest =>
    have ⟨hf, hrest⟩ := List.forall_mem_cons.mp hle
    obtain ⟨h, gs, hpack, hall, hchain⟩ := packInto_groups [f] rest
    rw [packParts_cons]
    refine ⟨by rw [packInto_flatten]; simp, packInto_le (by simpa using hf) hrest, ([f] ++ h) :: gs, ?_, hpack.symm, hchain⟩
    rw [List.flatten_cons, List.append_assoc, hall]
    rfl

/-! ## TAKE REPORT and TAKE SESSION -/

@[simp] theorem State.accepted_reports (x : Xfer) (s : State) : (s.accepted x).port.reports = s.port.reports := by rw [State.accepted_eq]
@[simp] theorem State.accepted_acct (x : Xfer) (s : State) : (s.accepted x).acct = s.acct := by rw [State.accepted_eq]
@[simp] theorem State.accepted_arm (x : Xfer) (s : State) : (s.accepted x).arm = s.arm := by rw [State.accepted_eq]
@[simp] theorem State.accepted_line (x : Xfer) (s : State) : (s.accepted x).line = s.line := by rw [State.accepted_eq]
@[simp] theorem State.accepted_panel (x : Xfer) (s : State) : (s.accepted x).panel = s.panel := by rw [State.accepted_eq]
@[simp] theorem State.accepted_claim (x : Xfer) (s : State) : (s.accepted x).claim = s.claim := by rw [State.accepted_eq]
@[simp] theorem State.accepted_px (x : Xfer) (s : State) : (s.accepted x).px = s.px := by rw [State.accepted_eq]
@[simp] theorem State.accepted_cfg (x : Xfer) (s : State) : (s.accepted x).cfg = s.cfg := by rw [State.accepted_eq]; rfl

theorem State.takeReport_of {s : State} {r : Report} {rest : List Report} (h : s.port.reports = r :: rest) :
    s.takeReport = .ok (wReport r, s.modPort fun p => { p with reports := rest }) := by simp only [State.takeReport, h]

theorem State.takeSession_of {s : State} {c : ClosedSession} {rest : List ClosedSession} (h : s.acct.closed = c :: rest) :
    s.takeSession = .ok (w1 1 :: wSession c, s.modAcct (Acct.dropClosed s.cfg rest)) := by simp only [State.takeSession, h]

theorem exec_takeReport (x : Xfer) (s : State) : exec (.takeReport x) s = .next (s.hostCommand x 0 .standalone State.takeReport) := rfl

theorem exec_takeSession (x : Xfer) (s : State) : exec (.takeSession x) s = .next (s.hostCommand x 0 .other State.takeSession) := rfl

/-- Settles O9. -/
theorem onlyTheLastPartTakesEffect : Obligations.OnlyTheLastPartTakesEffect := by
  simp only [Obligations.OnlyTheLastPartTakesEffect, exec_takeReport, exec_takeSession, Host.Outcome.next.injEq]
  refine ⟨fun x s r rest hready hreports => ?reports, fun x s c rest hready hservice hclosed => ?sessions⟩
  case reports =>
    have htake := State.takeReport_of ((State.accepted_reports x s).trans hreports)
    exact ⟨State.host_earlier hready (modeCheck_standalone _) htake, State.host_beyond hready (modeCheck_standalone _) htake⟩
  case sessions =>
    have htake := State.takeSession_of (s := s.accepted x) ((congrArg Acct.closed (State.accepted_acct x s)).trans hclosed)
    exact ⟨State.host_earlier hready (modeCheck_other hservice) htake, State.host_beyond hready (modeCheck_other hservice) htake⟩

/-! ## SET STARTUP -/

theorem State.setStartup_bad {field v : Nat} (h : field < 1 ∨ 38 < field ∨ 65535 < v) (s : State) :
    s.setStartup field (some v) = .error .badValue := if_pos h

theorem State.setStartup_read {field : Nat} (hleast : 1 ≤ field) (hmost : field ≤ 38) (s : State) :
    s.setStartup field none = .ok (startupReply field false s.cfg, s) := if_neg (by rw [Option.getD_none]; omega)

theorem startupReply_read (field : Nat) (c : StartUp) : startupReply field false c = [w1 field, w2 (c.get field)] := if_neg (by simp)

theorem startupReply_written (field : Nat) (c : StartUp) : startupReply field true c =
    if 12 ≤ field ∧ field ≤ 14 then [w1 field, w2 c.b1, w2 c.b2, w2 c.b3] else [w1 field, w2 (c.get field)] := by
  simp [startupReply]

theorem State.reply_storeStartup (x : Xfer) (field v : Nat) (c : ReplyCode) (w : List Data) (s : State) :
    ((s.accepted x).storeStartup field v).reply x c w = { Certificates.answered x c w s with
      sys := { s.sys with startup := s.sys.startup.put field v }
      acct := { s.acct with
        staleLeft := if s.acct.closed = [] then 60 * (s.sys.startup.put field v).sessionStaleTime else s.acct.staleLeft } } := by
  rw [State.accepted_eq]; rfl

/-- Settles O10: in INIT a value in range is stored, without one the field is read, and the rest is refused by the owning rule. -/
theorem setStartupStoresOrReads : Obligations.SetStartupStoresOrReads := by
  intro x field s hready hmode hpart
  have hcheck : modeCheck .initOnly s.sys.mode = none := by rw [hmode]; rfl
  refine ⟨fun hleast hmost => ?read, fun v hleast hmost hv => ?store, fun v hbad => ?bad⟩
  case read =>
    have hread := State.setStartup_read hleast hmost (s.accepted x)
    rw [exec_setStartup, State.host_read hready hcheck hread (by rw [packParts_startupReply, hpart]; exact Nat.one_pos), hpart,
      startupReply_read, State.accepted_cfg]
    rfl
  case store =>
    rw [exec_setStartup_store hready hmode hpart hleast hmost hv, State.reply_storeStartup, State.accepted_cfg, startupReply_written]
    rfl
  case bad => rw [exec_setStartup, State.host_error hready hcheck (State.setStartup_bad hbad _)]

/-- The values of the fields 1 to 38. -/
def StartUp.values (c : StartUp) : List Nat :=
  [c.stationNumber, c.slotCount, c.leftHatch.toNat, c.rightHatch.toNat, c.lineRate, c.presencePeriod, c.seekWindow, c.gracePeriod,
   c.promptSettle, c.escalateTime, c.doorLimit, c.b1, c.b2, c.b3, c.rate0, c.rate1, c.rate2, c.rate3, c.mountFee, c.ringFee,
   c.operatorFee, c.transferFee, c.retireLimit, c.cleanLimit, c.cleaningTime, c.expSlotDrive, c.expSlotHatch, c.expEntryAny,
   c.expDriveHatch, c.slowMargin, c.retryPause, c.retryUnlimited.toNat, c.silenceLimit, c.sessionStaleTime, c.sessionWatermark,
   c.longPress, c.hopTimeout, c.forwardCheckInterval]

theorem StartUp.get_of_range {field : Nat} (h : field < 1 ∨ 38 < field) (c : StartUp) : c.get field = 0 := by
  unfold StartUp.get
  split <;> omega

theorem StartUp.put_of_range {field : Nat} (h : field < 1 ∨ 38 < field) (v : Nat) (c : StartUp) : c.put field v = c := by
  unfold StartUp.put
  split
  all_goals first | omega | rfl

theorem StartUp.get_eq_values {field : Nat} (hleast : 1 ≤ field) (hmost : field ≤ 38) (c : StartUp) :
    c.get field = c.values.getD (field - 1) 0 := by
  interval_cases field <;> rfl

/-- A value stored in a field that is no threshold takes one place in the values. -/
theorem StartUp.values_put {field : Nat} (h : ¬(12 ≤ field ∧ field ≤ 14)) (v : Nat) (c : StartUp) (hleast : 1 ≤ field)
    (hmost : field ≤ 38) : (c.put field v).values = c.values.set (field - 1) ((c.put field v).get field) := by
  have hside : field ≤ 11 ∨ 15 ≤ field := by omega
  rcases hside with hbelow | habove <;> interval_cases field <;>
    simp only [StartUp.put, StartUp.get, StartUp.values, Nat.reduceSub, List.set_cons_succ, List.set_cons_zero]

/-- A threshold stored changes the three thresholds alone. -/
theorem StartUp.values_put_threshold {field : Nat} (hleast : 12 ≤ field) (hmost : field ≤ 14) (v : Nat) (c : StartUp) :
    (c.put field v).values = ((c.values.set 11 (c.put field v).b1).set 12 (c.put field v).b2).set 13 (c.put field v).b3 := by
  interval_cases field <;> rfl

/-- Settles O12: in the list of the values, a field stored takes its own place, and a threshold the three of the thresholds. -/
theorem setStartupWritesOneField : Obligations.SetStartupWritesOneField := by
  intro c field v other hne hthresholds
  by_cases hother : other < 1 ∨ 38 < other
  · rw [StartUp.get_of_range hother, StartUp.get_of_range hother]
  by_cases hfield : field < 1 ∨ 38 < field
  · rw [StartUp.put_of_range hfield]
  rw [StartUp.get_eq_values (by omega) (by omega), StartUp.get_eq_values (by omega) (by omega)]
  by_cases ht : 12 ≤ field ∧ field ≤ 14
  · obtain ⟨hleast, hmost⟩ := ht
    rw [StartUp.values_put_threshold hleast hmost]
    simp only [List.getD_eq_getElem?_getD]
    rw [List.getElem?_set_ne (by omega), List.getElem?_set_ne (by omega), List.getElem?_set_ne (by omega)]
  · rw [StartUp.values_put ht v c (by omega) (by omega)]
    simp only [List.getD_eq_getElem?_getD]
    rw [List.getElem?_set_ne (by omega)]

end Sys2Proof.Machine

/-! SUPPORT. The commands that read, and the answers that are refused: requests the host may not name, stale answers, TAKE ORDER, and the commands on accounts, sessions, line, reports and status. -/

namespace Sys2Proof.Machine

open Sys2Proof.Certificates

/-! ## More of what the port does with an owning rule's answer -/

theorem ready_weaken {x : Xfer} {m n : Nat} {s : State} (h : Ready x n s) (hle : m ≤ n) : Ready x m s :=
  ⟨h.1, h.2.1, hle.trans h.2.2⟩

/-- STALE_ORDER, which its owning rule counts. -/
theorem State.host_stale {x : Xfer} {least : Nat} {k : Kind} {f : State → Answered} {s t : State} (h : Ready x least s)
    (hm : modeCheck k s.sys.mode = none) (hf : f (s.accepted x) = .stale (t.accepted x)) (ht : t.agenda = []) :
    s.hostCommand x least k f = Certificates.answered x .staleOrder [] t := by
  obtain ⟨hreset, -, hcount⟩ := h
  have hexecute : s.execute x least k f = Certificates.answered x .staleOrder [] t := by
    unfold State.execute
    simp only [State.accepted_sys, hm, Nat.not_lt.mpr hcount, if_false, hf]
    exact State.accepted_reply ..
  unfold State.hostCommand
  rw [if_neg (by simp [hreset]), hexecute, State.settle_of_agenda (by simpa using ht)]

/-- A command taken at the last part of its reply, whose effect is one on the state before its transfer was accepted. -/
theorem State.host_settled {x : Xfer} {least : Nat} {k : Kind} {f : State → Answered} {s t : State} {fields : List Field}
    (h : Ready x least s) (hm : modeCheck k s.sys.mode = none) (hf : f (s.accepted x) = .ok (fields, t.accepted x))
    (hp : AsksLast x fields) :
    s.hostCommand x least k f = (Certificates.answered x .ok (partOf fields x.part) t).settle := by
  rw [State.host_ok h hm hf hp, State.accepted_reply]

/-- The same, when no consequence follows. -/
theorem State.host_taken {x : Xfer} {least : Nat} {k : Kind} {f : State → Answered} {s t : State} {fields : List Field}
    (h : Ready x least s) (hm : modeCheck k s.sys.mode = none) (hf : f (s.accepted x) = .ok (fields, t.accepted x))
    (hp : AsksLast x fields) (ht : t.agenda = []) :
    s.hostCommand x least k f = Certificates.answered x .ok (partOf fields x.part) t := by
  rw [State.host_settled h hm hf hp]
  exact State.settle_of_agenda ht

theorem packInto_fits {acc : List Data} {l : List Field} (h : acc.length + l.flatten.length ≤ 14) :
    packParts.packInto acc l = [acc ++ l.flatten] := by
  induction l generalizing acc with
  | nil => simp [packParts.packInto]
  | cons f rest ih =>
    simp only [List.flatten_cons, List.length_append] at h
    rw [packParts.packInto, if_pos (by omega), ih (by simp only [List.length_append]; omega)]
    simp

/-- A reply of at most 14 words is one part (R181). -/
theorem packParts_length_one {fields : List Field} (h : fields.flatten.length ≤ 14) : (packParts fields).length = 1 := by
  cases fields with
  | nil => rfl
  | cons f rest =>
    rw [packParts_cons, packInto_fits (by simpa using h)]
    rfl

/-- A reply of at most 14 words is asked whole by Part 0. -/
theorem asksLast_of_short {x : Xfer} {fields : List Field} (hp : x.part = 0) (h : fields.flatten.length ≤ 14) : AsksLast x fields := by
  rw [AsksLast, hp, packParts_length_one h]

@[simp] theorem State.accepted_findReq (x : Xfer) (r : ReqNo) (s : State) : (s.accepted x).findReq r = s.findReq r := by
  rw [State.accepted_eq]; rfl
@[simp] theorem State.accepted_hostReq (x : Xfer) (r : ReqNo) (s : State) : (s.accepted x).hostReq r = s.hostReq r := by
  rw [State.accepted_eq]; rfl
@[simp] theorem State.accepted_findEntry (x : Xfer) (v : Serial) (s : State) : (s.accepted x).findEntry v = s.findEntry v := by
  rw [State.accepted_eq]; rfl
@[simp] theorem State.accepted_findDrive (x : Xfer) (d : Nat) (s : State) : (s.accepted x).findDrive d = s.findDrive d := by
  rw [State.accepted_eq]; rfl
@[simp] theorem State.accepted_slotEntry (x : Xfer) (n : Nat) (s : State) : (s.accepted x).slotEntry n = s.slotEntry n := by
  rw [State.accepted_eq]; rfl
@[simp] theorem State.accepted_cellAt (x : Xfer) (c : Nat) (s : State) : (s.accepted x).cellAt c = s.cellAt c := by
  rw [State.accepted_eq]; rfl
@[simp] theorem State.accepted_freeSlots (x : Xfer) (s : State) : (s.accepted x).freeSlots = s.freeSlots := by
  rw [State.accepted_eq]; rfl
@[simp] theorem State.accepted_account (x : Xfer) (n : Nat) (s : State) : (s.accepted x).account n = s.account n := by
  rw [State.accepted_eq]; rfl
@[simp] theorem State.accepted_rosterAt (x : Xfer) (p : Nat) (s : State) : (s.accepted x).rosterAt p = s.rosterAt p := by
  rw [State.accepted_eq]; rfl

/-! ## Requests that the host may not name -/

theorem exec_dismount (x : Xfer) (r : ReqNo) (n : Nat) (s : State) :
    exec (.dismount x r n) s = .next (s.hostCommand x 3 .other fun s => s.dismount r n) := rfl
theorem exec_cancel (x : Xfer) (r : ReqNo) (s : State) : exec (.cancel x r) s = .next (s.hostCommand x 2 .other fun s => s.cancel r) := rfl
theorem exec_queryRequest (x : Xfer) (r : ReqNo) (s : State) :
    exec (.queryRequest x r) s = .next (s.hostCommand x 2 .other fun s => s.queryRequest r) := rfl

theorem reqOk_eq_false {r : ReqNo} (h : 7 < r.origin ∨ r.seq < 1 ∨ 255 < r.seq) : reqOk r = false := by
  simp only [reqOk, Bool.and_eq_false_iff, decide_eq_false_iff_not]
  omega

theorem State.hostReq_none {r : ReqNo} {s : State} (h : s.findReq r = none) : s.hostReq r = none := by rw [State.hostReq, h]; rfl

theorem State.hostReq_takenIn {r : ReqNo} {q : Request} {s : State} (h : s.findReq r = some q) (hrole : q.role = .takenIn) :
    s.hostReq r = none := by rw [State.hostReq, h, Option.filter_some, if_neg (by simp [hrole])]

theorem State.hostReq_some {r : ReqNo} {q : Request} {s : State} (h : s.findReq r = some q) (hrole : q.role ≠ .takenIn) :
    s.hostReq r = some q := by rw [State.hostReq, h, Option.filter_some, if_pos (by simpa using hrole)]

section

variable {r : ReqNo} {n : Nat} {s : State}

theorem State.dismount_bad (h : reqOk r = false) : s.dismount r n = .error .badValue := if_pos (.inr h)
theorem State.cancel_bad (h : reqOk r = false) : s.cancel r = .error .badValue := if_pos h
theorem State.queryRequest_bad (h : reqOk r = false) : s.queryRequest r = .error .badValue := if_pos h

theorem State.dismount_unknown (hn : n ≤ 255) (hr : reqOk r = true) (h : s.hostReq r = none) :
    s.dismount r n = .error .unknownRequest := by
  simp [State.dismount, hr, h, Nat.not_lt.mpr hn]

theorem State.dismount_notNow {q : Request} (hn : n ≤ 255) (hr : reqOk r = true) (h : s.hostReq r = some q) (hm : q.state ≠ .mounted)
    (hrm : q.state ≠ .remoteMounted) : s.dismount r n = .error .notNow := by
  simp only [State.dismount, hr, h, Nat.not_lt.mpr hn, Bool.true_eq_false, or_self, if_false]
  split
  · next hstate => exact absurd hstate hm
  · next hstate _ => exact absurd hstate hrm
  · rfl

theorem State.cancel_unknown (hr : reqOk r = true) (h : s.hostReq r = none) : s.cancel r = .error .unknownRequest := by
  simp [State.cancel, hr, h]

theorem State.queryRequest_unknown (hr : reqOk r = true) (h : s.findReq r = none) : s.queryRequest r = .error .unknownRequest := by
  simp [State.queryRequest, hr, h]

theorem State.queryRequest_known {q : Request} (hr : reqOk r = true) (h : s.findReq r = some q) :
    s.queryRequest r = .ok (wRequest q ++ [w1 (s.placeOf r)], s) := by
  simp [State.queryRequest, hr, h]

end

/-- Settles O20: the number's range comes first, then the record that the host may name, then for DISMOUNT its state. -/
theorem requestsTheHostMayNotName : Obligations.RequestsTheHostMayNotName := by
  intro x r n s hready hservice hn
  have hready2 : Ready x 2 s := ready_weaken hready (by decide)
  have hcheck := modeCheck_other hservice
  have hfind : (s.accepted x).findReq r = s.findReq r := State.accepted_findReq x r s
  have hhost : (s.accepted x).hostReq r = s.hostReq r := State.accepted_hostReq x r s
  refine ⟨fun hbad c hc => ?range, fun hr hnone => ?unknown, fun q hr hq hrole => ?takenIn, fun q hr hq hrole hm hrm => ?state⟩
  case range =>
    have hr := reqOk_eq_false hbad
    simp only [List.mem_cons, List.not_mem_nil, or_false] at hc
    rcases hc with rfl | rfl | rfl
    · rw [exec_dismount, State.host_error hready hcheck (State.dismount_bad hr)]
    · rw [exec_cancel, State.host_error hready2 hcheck (State.cancel_bad hr)]
    · rw [exec_queryRequest, State.host_error hready2 hcheck (State.queryRequest_bad hr)]
  case unknown =>
    have hnot := hhost.trans (State.hostReq_none hnone)
    rw [exec_dismount, exec_cancel, exec_queryRequest, State.host_error hready hcheck (State.dismount_unknown hn hr hnot),
      State.host_error hready2 hcheck (State.cancel_unknown hr hnot),
      State.host_error hready2 hcheck (State.queryRequest_unknown hr (hfind.trans hnone))]
    exact ⟨rfl, rfl, rfl⟩
  case takenIn =>
    have hnot := hhost.trans (State.hostReq_takenIn hq hrole)
    rw [exec_dismount, exec_cancel, State.host_error hready hcheck (State.dismount_unknown hn hr hnot),
      State.host_error hready2 hcheck (State.cancel_unknown hr hnot)]
    exact ⟨rfl, rfl⟩
  case state =>
    rw [exec_dismount,
      State.host_error hready hcheck (State.dismount_notNow hn hr (hhost.trans (State.hostReq_some hq hrole)) hm hrm)]

/-! ## Answers to orders that are refused -/

theorem exec_orderDone (x : Xfer) (number : Nat) (ring : Option Bool) (s : State) :
    exec (.orderDone x number ring) s = .next (s.hostCommand x 2 .standalone fun s => s.orderDone number ring) := rfl
theorem exec_orderFault (x : Xfer) (number : Nat) (reason : Option FaultReason) (s : State) :
    exec (.orderFault x number reason) s = .next (s.hostCommand x 2 .standalone fun s => s.orderFault number reason) := rfl

section

variable {number : Nat} {act : Order → Answered} {s : State}

theorem State.answerOrder_stale (hmode : s.sys.mode ≠ .init) (hleast : 1 ≤ number) (hmost : number ≤ 255)
    (h : ∀ o, s.arm.inFlight = some o → o.number ≠ number) : s.answerOrder number act = .stale s.countStale := by
  have hrange : ¬(number < 1 ∨ Config.max8 < number) := by simp only [Config.max8]; omega
  rw [State.answerOrder, if_neg hmode, if_neg hrange]
  split
  · rfl
  · next o ho => exact if_neg (h o ho)

theorem State.answerOrder_bad (hmode : s.sys.mode ≠ .init) (h : number < 1 ∨ 255 < number) :
    s.answerOrder number act = .error .badValue := by
  have hrange : number < 1 ∨ Config.max8 < number := h
  rw [State.answerOrder, if_neg hmode, if_pos hrange]

theorem State.answerOrder_inFlight {o : Order} (hmode : s.sys.mode ≠ .init) (hleast : 1 ≤ o.number) (hmost : o.number ≤ 255)
    (ho : s.arm.inFlight = some o) : s.answerOrder o.number act = act o := by
  have hrange : ¬(o.number < 1 ∨ Config.max8 < o.number) := by simp only [Config.max8]; omega
  rw [State.answerOrder, if_neg hmode, if_neg hrange, ho]
  exact if_pos rfl

end

theorem State.countStale_accepted (x : Xfer) (s : State) : (s.accepted x).countStale = s.countStale.accepted x := by
  rw [State.accepted_eq, State.accepted_eq]; rfl

/-- Settles O25. -/
theorem answersThatAreRefused : Obligations.AnswersThatAreRefused := by
  intro x number ring reason s hready hmode
  have hcheck := modeCheck_standalone s.sys.mode
  have hmode' : (s.accepted x).sys.mode ≠ .init := by rwa [State.accepted_sys]
  have harm : (s.accepted x).arm.inFlight = s.arm.inFlight := by rw [State.accepted_arm]
  simp only [exec_orderDone, exec_orderFault, Host.Outcome.next.injEq]
  refine ⟨fun hleast hmost hother => ?stale, fun hbad => ?range, fun o ho hnumber hleast hmost => ⟨fun hkind => ?get, fun hkind => ?put⟩⟩
  case stale =>
    have hstale {act} : (s.accepted x).answerOrder number act = .stale (s.countStale.accepted x) := by
      rw [State.answerOrder_stale hmode' hleast hmost (by rwa [harm]), State.countStale_accepted]
    exact ⟨State.host_stale hready hcheck hstale hready.2.1, State.host_stale hready hcheck hstale hready.2.1⟩
  case range =>
    exact ⟨State.host_error hready hcheck (State.answerOrder_bad hmode' hbad),
      State.host_error hready hcheck (State.answerOrder_bad hmode' hbad)⟩
  all_goals
    subst hnumber
    have hact {act} : (s.accepted x).answerOrder o.number act = act o :=
      State.answerOrder_inFlight hmode' hleast hmost (harm.trans ho)
  case get =>
    have hdone : (s.accepted x).orderDone o.number none = .error .badValue := by rw [State.orderDone, hact, hkind]
    have hfault : (s.accepted x).orderFault o.number (some .occupiedDest) = .error .badValue := by
      rw [State.orderFault, hact, hkind]; rfl
    exact ⟨State.host_error hready hcheck hdone, State.host_error hready hcheck hfault⟩
  case put =>
    have hfault : (s.accepted x).orderFault o.number (some .emptySource) = .error .badValue := by
      rw [State.orderFault, hact, hkind]; rfl
    exact State.host_error hready hcheck hfault

/-! ## TAKE ORDER -/

theorem exec_takeOrder (x : Xfer) (s : State) : exec (.takeOrder x) s = .next (s.hostCommand x 0 .standalone State.takeOrder) := rfl

theorem State.takeOrder_of {o : Order} {s : State} (hmode : s.sys.mode ≠ .init) (ho : s.arm.inFlight = some o) :
    s.takeOrder = .ok (orderFields s.cfg o, s.takeInFlight) := by simp only [State.takeOrder, if_neg hmode, ho]

theorem State.takeInFlight_accepted (x : Xfer) (s : State) : (s.accepted x).takeInFlight = s.takeInFlight.accepted x := by
  rw [State.accepted_eq, State.accepted_eq]; rfl

theorem wLoc_length (l : Loc) : (wLoc l).length = 2 := by
  cases l with
  | hatch side => cases side <;> rfl
  | _ => rfl

theorem wOrderKind_length (k : OrderKind) : (wOrderKind k).length = 1 := by cases k <;> rfl

theorem orderFields_length (c : StartUp) (o : Order) : (orderFields c o).flatten.length = 8 := by
  simp [orderFields, wLoc_length, wOrderKind_length, wSerial, w1, numWords]

/-- Settles O21. -/
theorem takeOrderHandsOutTheOrder : Obligations.TakeOrderHandsOutTheOrder := by
  intro x o s hready hmode hpart ho
  have htake : (s.accepted x).takeOrder = .ok (orderFields s.cfg o, s.takeInFlight.accepted x) := by
    rw [State.takeOrder_of (by rwa [State.accepted_sys]) (by rwa [State.accepted_arm]), State.accepted_cfg, State.takeInFlight_accepted]
  have hlast : AsksLast x (orderFields s.cfg o) := asksLast_of_short hpart (by rw [orderFields_length]; decide)
  rw [exec_takeOrder, State.host_taken hready (modeCheck_standalone _) htake hlast hready.2.1, hpart]
  have hflight : s.takeInFlight = { s with arm := { s.arm with inFlight := some (
      if o.taken then o else { o with taken := true, runFrom := if s.inv.bay = .doorOpen then none else some s.sys.clock }) } } := by
    rw [State.takeInFlight, State.modArm, ho]; rfl
  refine ⟨fun hfirst => ?_, fun hagain => ?_⟩
  · rw [hflight, hfirst]; rfl
  · have hsame : s.takeInFlight = s := by rw [hflight, hagain, if_pos rfl, ← ho]
    rw [hsame]; rfl

/-! ## Commands that read -/

@[simp] theorem State.accepted_placeOf (x : Xfer) (r : ReqNo) (s : State) : (s.accepted x).placeOf r = s.placeOf r := by
  rw [State.accepted_eq]; rfl

theorem exec_readReel (x : Xfer) (v : Option Serial) (n c : Option Nat) (s : State) :
    exec (.readReel x v n c) s = .next (s.hostCommand x 7 .other fun s => s.readReel v n c) := rfl
theorem exec_readDrive (x : Xfer) (d : Nat) (s : State) :
    exec (.readDrive x d) s = .next (s.hostCommand x 1 .other fun s => s.readDrive d) := rfl

theorem State.readReel_volume {v : Serial} (h : serialOk v = true) (s : State) :
    s.readReel (some v) none none = .ok (wMaybeEntry (s.findEntry v), s) := if_pos h

theorem State.readReel_slot {n : Nat} {s : State} (h : n ≤ 511) (hn : n < s.cfg.slotCount) :
    s.readReel none (some n) none = .ok (wMaybeEntry (s.slotEntry n) ++ [w1 s.freeSlots, w1 s.tableRoom], s) := if_pos ⟨h, .inr hn⟩

theorem State.readReel_cell {c : Nat} (h : c ≤ 3) (s : State) :
    s.readReel none none (some c) = .ok (wCell (s.cellAt c), s) := if_pos h

/-- The fields of READ DRIVE's reply (R38). -/
def State.driveFields (d : Nat) (s : State) : List Field :=
  (match s.findDrive d with
    | some y => w1 1 :: wDrive y
    | none => [w1 0]) ++ [w3 s.drv.remountsSaved, w3 s.drv.graceYielded]

theorem State.readDrive_of {d : Nat} (h : d ≤ 7) (s : State) : s.readDrive d = .ok (s.driveFields d, s) := by
  simp only [State.readDrive, if_neg (Nat.not_lt.mpr h), State.driveFields]
  cases s.findDrive d <;> rfl

@[simp] theorem State.accepted_driveFields (x : Xfer) (d : Nat) (s : State) : (s.accepted x).driveFields d = s.driveFields d := by
  rw [State.accepted_eq]; rfl

/-- Settles O30: each command finds its record on the state that its accepted transfer leaves, whose tables are the same. -/
theorem recordsAreRead : Obligations.RecordsAreRead := by
  intro x s hreset hagenda hservice
  have hcheck := modeCheck_other hservice
  refine ⟨?volume, ?slot, fun c hcount hc hpart => ?cell, ?drive, ?request⟩
  case volume =>
    intro v hcount hv fields hpart
    have hread := State.readReel_volume hv (s.accepted x)
    rw [State.accepted_findEntry] at hread
    have hfields : wMaybeEntry (s.findEntry v) = fields := by
      simp only [wMaybeEntry, fields]
      cases s.findEntry v <;> rfl
    rw [hfields] at hread
    rw [exec_readReel, State.host_read ⟨hreset, hagenda, hcount⟩ hcheck hread hpart]
  case slot =>
    intro n hcount hn hmost fields hpart
    have hread := State.readReel_slot (s := s.accepted x) hmost (by rwa [State.accepted_cfg])
    rw [State.accepted_slotEntry, State.accepted_freeSlots, State.accepted_tableRoom] at hread
    have hfields : wMaybeEntry (s.slotEntry n) ++ [w1 s.freeSlots, w1 s.tableRoom] = fields := by
      simp only [wMaybeEntry, fields]
      cases s.slotEntry n <;> rfl
    rw [hfields] at hread
    rw [exec_readReel, State.host_read ⟨hreset, hagenda, hcount⟩ hcheck hread hpart]
  case cell =>
    have hread := State.readReel_cell hc (s.accepted x)
    rw [State.accepted_cellAt] at hread
    rw [exec_readReel, State.host_read ⟨hreset, hagenda, hcount⟩ hcheck hread hpart]
  case drive =>
    intro d hcount hd fields hpart
    have hread := State.readDrive_of hd (s.accepted x)
    rw [State.accepted_driveFields] at hread
    rw [exec_readDrive, State.host_read ⟨hreset, hagenda, hcount⟩ hcheck hread hpart]
    rfl
  case request =>
    intro r q hcount hr hq fields hpart
    have hread := State.queryRequest_known (s := s.accepted x) hr ((State.accepted_findReq x r s).trans hq)
    rw [State.accepted_placeOf] at hread
    rw [exec_queryRequest, State.host_read ⟨hreset, hagenda, hcount⟩ hcheck hread hpart]
    rfl

/-! ## Accounts and closed sessions -/

theorem exec_readAccount (x : Xfer) (n : Nat) (s : State) :
    exec (.readAccount x n) s = .next (s.hostCommand x 1 .other fun s => s.readAccount n) := rfl
theorem exec_clearAccount (x : Xfer) (n : Nat) (s : State) :
    exec (.clearAccount x n) s = .next (s.hostCommand x 1 .other fun s => s.clearAccount n) := rfl
theorem exec_readBands (x : Xfer) (s : State) : exec (.readBands x) s = .next (s.hostCommand x 0 .other State.readBands) := rfl
theorem exec_readLost (x : Xfer) (s : State) : exec (.readLost x) s = .next (s.hostCommand x 0 .other State.readLost) := rfl
theorem exec_staleTimerExpiry (s : State) : exec .staleTimerExpiry s = .next s.stale := rfl

theorem State.modAcct_accepted (f : Acct → Acct) (x : Xfer) (s : State) : (s.accepted x).modAcct f = (s.modAcct f).accepted x := by
  rw [State.accepted_eq, State.accepted_eq]; rfl
theorem State.modArm_accepted (f : Arm → Arm) (x : Xfer) (s : State) : (s.accepted x).modArm f = (s.modArm f).accepted x := by
  rw [State.accepted_eq, State.accepted_eq]; rfl
theorem State.modLine_accepted (f : Line → Line) (x : Xfer) (s : State) : (s.accepted x).modLine f = (s.modLine f).accepted x := by
  rw [State.accepted_eq, State.accepted_eq]; rfl
theorem State.modRm_accepted (f : Rm → Rm) (x : Xfer) (s : State) : (s.accepted x).modRm f = (s.modRm f).accepted x := by
  rw [State.accepted_eq, State.accepted_eq]; rfl
theorem State.modInv_accepted (f : Inv → Inv) (x : Xfer) (s : State) : (s.accepted x).modInv f = (s.modInv f).accepted x := by
  rw [State.accepted_eq, State.accepted_eq]; rfl

/-- Settles O31. -/
theorem closedSessionsAreTaken : Obligations.ClosedSessionsAreTaken := by
  refine ⟨fun x s c rest hready hservice hclosed hlast => ?take, fun x s hready hservice hpart => ⟨fun hnone => ?empty, ?lost⟩,
    fun s c rest hclosed hleft => ?stale⟩
  case take =>
    have htake := State.takeSession_of (s := s.accepted x) ((congrArg Acct.closed (State.accepted_acct x s)).trans hclosed)
    rw [State.modAcct_accepted, State.accepted_cfg] at htake
    rw [exec_takeSession, State.host_taken hready (modeCheck_other hservice) htake hlast hready.2.1]
    rfl
  case empty =>
    have htake : (s.accepted x).takeSession = .ok ([w1 0], s.accepted x) := by rw [State.takeSession, State.accepted_acct, hnone]
    rw [exec_takeSession, State.host_taken hready (modeCheck_other hservice) htake (asksLast_of_short hpart (by decide)) hready.2.1, hpart]
  case lost =>
    have hread : (s.accepted x).readLost = .ok ([w1 s.acct.sessionsLost, wFlag s.acct.lostOverflow],
        (s.modAcct fun a => { a with sessionsLost := 0, lostOverflow := false }).accepted x) := by
      rw [State.readLost, State.accepted_acct, State.modAcct_accepted]
    have hlast : AsksLast x [w1 s.acct.sessionsLost, wFlag s.acct.lostOverflow] :=
      asksLast_of_short hpart (by simp [w1, wFlag, numWords])
    rw [exec_readLost, State.host_taken hready (modeCheck_other hservice) hread hlast hready.2.1, hpart]
    rfl
  case stale =>
    rw [exec_staleTimerExpiry, State.stale, hclosed]
    simp only [hleft, if_true, List.length_cons]
    rfl

/-- READ BANDS' fields in the words of R161. -/
theorem bandFields_eq (c : StartUp) (a : Acct) : bandFields c a =
    a.bandTicks.map w3 ++ a.bandEntries.map w3 ++ [w3 a.driveSeconds, w1 a.peak,
      (match a.lastTick with
       | some t => w1 1 ++ w1 t.1 ++ w1 t.2
       | none => w1 0 ++ w2 0),
      w1 c.b1, w1 c.b2, w1 c.b3, w3 a.stationTime] := by
  unfold bandFields
  cases a.lastTick <;> rfl

/-- Settles O32. -/
theorem accountsAreReadAndCleared : Obligations.AccountsAreReadAndCleared := by
  intro x n s hready a fields bands
  have hready1 (hcount : 1 ≤ x.count) : Ready x 1 s := ⟨hready.1, hready.2.1, hcount⟩
  have hbands : (s.accepted x).readBands = .ok (bands, s.accepted x) := by
    rw [State.readBands, State.accepted_cfg, State.accepted_acct, bandFields_eq]; rfl
  refine ⟨fun halone => ?alone, fun hcount hservice hn hpart => ?read, fun hservice hpart => ?bands,
    fun hcount hservice hn hlast => ?clear, fun hcount hservice hn => ?bad⟩
  case alone =>
    have hrefuse : modeCheck .other s.sys.mode = some .notNow := by rw [halone]; rfl
    refine ⟨?_, fun hcount => ⟨?_, ?_⟩⟩
    · rw [exec_readBands, State.host_refused hready hrefuse]
    · rw [exec_readAccount, State.host_refused (hready1 hcount) hrefuse]
    · rw [exec_clearAccount, State.host_refused (hready1 hcount) hrefuse]
  case read =>
    have hread : (s.accepted x).readAccount n = .ok (fields, s.accepted x) := by
      rw [State.readAccount, if_neg (Nat.not_lt.mpr hn), State.accepted_account, State.accepted_acct]; rfl
    rw [exec_readAccount, State.host_read (hready1 hcount) (modeCheck_other hservice) hread hpart]
  case bands => rw [exec_readBands, State.host_read hready (modeCheck_other hservice) hbands hpart]
  case clear =>
    have hclear : (s.accepted x).clearAccount n = .ok (fields,
        (s.modAcct fun b => { b with accounts := b.accounts.set n .zero, total := a.less b.total }).accepted x) := by
      rw [State.clearAccount, if_neg (Nat.not_lt.mpr hn), State.accepted_account, State.accepted_acct, State.modAcct_accepted]; rfl
    rw [exec_clearAccount, State.host_taken (hready1 hcount) (modeCheck_other hservice) hclear hlast hready.2.1]
    rfl
  case bad =>
    rw [exec_readAccount, exec_clearAccount, State.host_error (hready1 hcount) (modeCheck_other hservice) (if_pos hn),
      State.host_error (hready1 hcount) (modeCheck_other hservice) (if_pos hn)]
    exact ⟨rfl, rfl⟩

/-! ## READ LINE, TAKE REPORT, READ STATUS, CLEAR RETRY -/

theorem exec_readLine (x : Xfer) (p : Option Nat) (s : State) :
    exec (.readLine x p) s = .next (s.hostCommand x 2 .other fun s => s.readLine p) := rfl
theorem exec_readStatus (x : Xfer) (s : State) : exec (.readStatus x) s = .next (s.hostCommand x 0 .standalone State.readStatus) := rfl
theorem exec_clearRetry (x : Xfer) (s : State) : exec (.clearRetry x) s = .next (s.hostCommand x 0 .other State.clearRetry) := rfl

/-- The pending reply is no field of READ STATUS. -/
theorem State.statusFields_accepted (x : Xfer) (c : ReplyCode) (w : List Data) (s : State) :
    (s.accepted x).statusFields = (Certificates.answered x c w s).statusFields := by rw [State.accepted_eq]; rfl

theorem State.modReports_accepted (rest : List Report) (x : Xfer) (s : State) :
    ((s.accepted x).modPort fun p => { p with reports := rest }) = (s.modPort fun p => { p with reports := rest }).accepted x := by
  rw [State.accepted_eq, State.accepted_eq]; rfl

theorem State.modReportsLost_accepted (x : Xfer) (s : State) :
    ((s.accepted x).modPort fun p => { p with reportsLost := 0 }) = (s.modPort fun p => { p with reportsLost := 0 }).accepted x := by
  rw [State.accepted_eq, State.accepted_eq]; rfl

/-- Settles O36. -/
theorem lineReportsAndStatusAreRead : Obligations.LineReportsAndStatusAreRead := by
  intro x s hready
  have hready2 (hcount : 2 ≤ x.count) : Ready x 2 s := ⟨hready.1, hready.2.1, hcount⟩
  have hstandalone := modeCheck_standalone s.sys.mode
  refine ⟨?line, fun hcount hservice p => ⟨fun hp hpart => ?station, fun hp => ?noStation⟩,
    fun r rest hreports hlast => ?report, fun hnone hpart => ?noReport, ?status, fun hservice hpart => ?retry⟩
  case line =>
    intro hcount hservice fields hlast
    have hread : (s.accepted x).readLine none = .ok (fields, (s.modLine fun l => { l with errors := 0, errOverflow := false }).accepted x) := by
      simp only [State.readLine, State.accepted_line, State.accepted_rosterAt, State.modLine_accepted]; rfl
    rw [exec_readLine, State.host_taken (hready2 hcount) (modeCheck_other hservice) hread hlast hready.2.1]
    rfl
  case station =>
    have hread : (s.accepted x).readLine (some p) = .ok (wRosterEntry (s.rosterAt p) s.sys.clock, s.accepted x) := by
      simp only [State.readLine, if_neg (Nat.not_lt.mpr hp), State.accepted_rosterAt, State.accepted_sys]
    rw [exec_readLine, State.host_read (hready2 hcount) (modeCheck_other hservice) hread hpart]
  case noStation => rw [exec_readLine, State.host_error (hready2 hcount) (modeCheck_other hservice) (if_pos hp)]
  case report =>
    have htake := State.takeReport_of ((State.accepted_reports x s).trans hreports)
    rw [State.modReports_accepted] at htake
    rw [exec_takeReport, State.host_taken hready hstandalone htake hlast hready.2.1]
    rfl
  case noReport =>
    have htake : (s.accepted x).takeReport = .ok ([], s.accepted x) := by rw [State.takeReport, State.accepted_reports, hnone]
    rw [exec_takeReport, State.host_silent hready hpart hstandalone htake hready.2.1]
  case status =>
    intro fields hlast
    have hread : (s.accepted x).readStatus = .ok (fields, (s.modPort fun p => { p with reportsLost := 0 }).accepted x) := by
      rw [State.readStatus, State.modReportsLost_accepted, State.statusFields_accepted x .ok []]
    rw [exec_readStatus, State.host_taken hready hstandalone hread hlast hready.2.1]
    rfl
  case retry =>
    have hclear : (s.accepted x).clearRetry = .ok ([w1 s.arm.retryCounter, w2 s.arm.stale],
        (s.modArm fun a => { a with retryCounter := 0 }).accepted x) := by
      rw [State.clearRetry, State.accepted_arm, State.modArm_accepted]
    have hlast : AsksLast x [w1 s.arm.retryCounter, w2 s.arm.stale] := asksLast_of_short hpart (by simp [w1, w2, numWords])
    rw [exec_clearRetry, State.host_taken hready (modeCheck_other hservice) hclear hlast hready.2.1, hpart]
    rfl

end Sys2Proof.Machine

/-! SUPPORT. The bits of a frame (R82) and the words shifted out (R178, R179, R181). -/

namespace Sys2Proof.Machine

open Sys2Proof.Certificates

/-! ## The bits of a frame -/

theorem bitsMsb_length (k n : Nat) : (bitsMsb k n).length = k := by
  induction k with
  | zero => rfl
  | succ k ih => rw [bitsMsb, List.length_cons, ih]

/-- One keeper for every 8 bits, those that have passed since the last one among them. -/
theorem withKeepers_length {k : Nat} (hk : k ≤ 7) (l : List Bool) : (withKeepers k l).length = l.length + (k + l.length) / 8 := by
  induction l generalizing k with
  | nil => rw [withKeepers, List.length_nil]; omega
  | cons b t ih =>
    rw [withKeepers]
    split
    · simp only [List.length_cons, ih (Nat.zero_le 7)]; omega
    · simp only [List.length_cons, ih (show k + 1 ≤ 7 by omega)]; omega

theorem headAndBody_length (k : MsgKind) (sender : Nat) (body : List (BitVec 8)) :
    (headAndBody k sender body).length = 15 + 8 * body.length := by
  have hbytes : ((body.map fun b => bitsMsb 8 b.toNat).flatten).length = 8 * body.length := by
    induction body with
    | nil => rfl
    | cons b t ih => simp only [List.map_cons, List.flatten_cons, List.length_append, List.length_cons, bitsMsb_length, ih]; omega
  simp only [headAndBody, List.length_append, bitsMsb_length, hbytes]

/-- Settles O46. -/
theorem frameLengths : Obligations.FrameLengths := by
  intro k sender body
  simp only [frameBits, List.length_append, List.length_cons, List.length_nil, List.length_replicate, withKeepers_length (Nat.zero_le 7),
    headAndBody_length, bitsMsb_length]
  omega

/-! ## The words shifted out -/

/-- A number's ones are its lowest bit and the ones above it. -/
theorem onesOf_eq (w : Word) : onesOf w = (w.getLsbD 0).toNat + ((List.range 15).filter fun i => w.getLsbD (i + 1)).length := by
  rw [onesOf, List.range_succ_eq_map, List.filter_cons, List.filter_map, Function.comp_def]
  cases w.getLsbD 0 <;> simp [Nat.add_comm]

/-- Data in the bits 15..1 of a word, before its parity is known. -/
def raised (d : Data) : Word := d.zeroExtend 16 <<< 1

theorem withParity_eq (d : Data) : withParity d = if oddParity (raised d) then raised d else raised d ||| 1 := rfl

theorem raised_toNat (d : Data) : (raised d).toNat = 2 * d.toNat := by
  have hlt := d.isLt
  simp only [raised, BitVec.toNat_shiftLeft, BitVec.toNat_setWidth, Nat.shiftLeft_eq]
  omega

theorem getLsbD_raised_succ (d : Data) (i : Nat) : (raised d).getLsbD (i + 1) = d.getLsbD i := by
  rw [BitVec.getLsbD, raised_toNat, Nat.mul_comm, ← pow_one 2, Nat.testBit_mul_two_pow]
  simp [BitVec.getLsbD]

theorem getLsbD_raised_zero (d : Data) : (raised d).getLsbD 0 = false := by simp [raised]

theorem getLsbD_or_one_succ (w : Word) (i : Nat) : (w ||| 1).getLsbD (i + 1) = w.getLsbD (i + 1) := by
  simp [BitVec.getLsbD_or, BitVec.getLsbD_one]

theorem getLsbD_or_one_zero (w : Word) : (w ||| 1).getLsbD 0 = true := by simp

theorem oddParity_withParity (d : Data) : oddParity (withParity d) = true := by
  rw [withParity_eq]
  split
  · assumption
  · next heven =>
    rw [oddParity, onesOf_eq, getLsbD_raised_zero] at heven
    simp only [oddParity, onesOf_eq, getLsbD_or_one_succ, getLsbD_or_one_zero]
    simp only [Bool.toNat_false, Bool.toNat_true, decide_eq_true_eq] at heven ⊢
    omega

theorem getLsbD_withParity (d : Data) (i : Nat) : (withParity d).getLsbD (i + 1) = d.getLsbD i := by
  rw [withParity_eq]
  split
  · exact getLsbD_raised_succ d i
  · rw [getLsbD_or_one_succ, getLsbD_raised_succ]

/-- The number in bits 15..1 of a word made of data. -/
theorem withParity_toNat (d : Data) : (withParity d).toNat / 2 = d.toNat := by
  refine Nat.eq_of_testBit_eq fun i => ?_
  rw [Nat.testBit_div_two]
  exact getLsbD_withParity d i

theorem oddParity_one : oddParity 1 = true := by decide

/-- The words of a transfer in full: status, pending reply, and parity words without end (R181). -/
theorem State.shiftOut_get (s : State) {n k : Nat} (h : k < n) : (s.shiftOut n)[k]? =
    ((s.statusWord :: s.port.reply.words.map withParity) ++ List.replicate n 1)[k]? := by
  rw [State.shiftOut, List.getElem?_take_of_lt h]

theorem State.shiftOut_length (s : State) (n : Nat) : (s.shiftOut n).length = n := by
  simp only [State.shiftOut, List.length_take, List.length_append, List.length_replicate]
  omega

theorem State.shiftOut_odd (s : State) (n : Nat) : ∀ w ∈ s.shiftOut n, oddParity w = true := by
  intro w hw
  rcases List.mem_append.mp (List.mem_of_mem_take hw) with hreply | hpad
  · rcases List.mem_cons.mp hreply with rfl | hdata
    · exact oddParity_withParity _
    · obtain ⟨d, -, rfl⟩ := List.mem_map.mp hdata
      exact oddParity_withParity d
  · rw [List.eq_of_mem_replicate hpad]
    exact oddParity_one

theorem State.shiftOut_reply {s : State} {n k : Nat} {d : Data} (h : k < n) (hd : s.port.reply.words[k]? = some d) :
    (s.shiftOut (n + 1))[k + 1]? = some (withParity d) := by
  have hlt := (List.getElem?_eq_some_iff.mp hd).1
  rw [State.shiftOut_get s (Nat.succ_lt_succ h), List.cons_append, List.getElem?_cons_succ, List.getElem?_append_left (by simpa using hlt),
    List.getElem?_map, hd]
  rfl

theorem State.shiftOut_pad {s : State} {n k : Nat} (h : k < n) (hd : s.port.reply.words.length ≤ k) :
    (s.shiftOut (n + 1))[k + 1]? = some 1#16 := by
  rw [State.shiftOut_get s (Nat.succ_lt_succ h), List.cons_append, List.getElem?_cons_succ, List.getElem?_append_right (by simpa using hd),
    List.getElem?_replicate_of_lt (by simp only [List.length_map]; omega)]
  rfl

/-! ## The status word -/

theorem lineBits_le (l : LineState) : lineBits l ≤ 3 := by cases l <;> decide
theorem ReplyCode.number_le (c : ReplyCode) : c.number ≤ 6 := by cases c <;> decide

/-- The status word's data as a number (R179). -/
def State.statusNumber (s : State) : Nat :=
  s.port.reply.heartbeat.toNat * 16384 + s.port.frameFault.toNat * 8192 + s.port.reply.code.number * 1024 + s.reportWaiting.toNat * 512 +
    s.orderWaiting.toNat * 256 + (decide (s.sys.mode = .standalone)).toNat * 128 + lineBits s.line.state * 32 +
    s.port.reply.words.length % 16 * 2

theorem State.statusData_eq (s : State) : s.statusData = BitVec.ofNat 15 s.statusNumber := by
  simp only [State.statusData, State.statusNumber, Bool.toNat, Bool.cond_eq_ite]

theorem toNat_le_one (b : Bool) : b.toNat ≤ 1 := by cases b <;> decide

theorem State.statusNumber_lt (s : State) : s.statusNumber < 32768 := by
  have h1 := toNat_le_one s.port.reply.heartbeat
  have h2 := toNat_le_one s.port.frameFault
  have h3 := toNat_le_one s.reportWaiting
  have h4 := toNat_le_one s.orderWaiting
  have h5 := toNat_le_one (decide (s.sys.mode = .standalone))
  have hc := s.port.reply.code.number_le
  have hl := lineBits_le s.line.state
  unfold State.statusNumber
  omega

theorem State.statusWord_toNat (s : State) : s.statusWord.toNat / 2 = s.statusNumber := by
  rw [State.statusWord, withParity_toNat, State.statusData_eq, BitVec.toNat_ofNat, Nat.mod_eq_of_lt s.statusNumber_lt]

/-- A bit of the status word by the number in its data bits. -/
theorem State.statusWord_bit (s : State) (i : Nat) (b : Bool) (h : s.statusNumber / 2 ^ i % 2 = b.toNat) :
    s.statusWord.getLsbD (i + 1) = b := by
  rw [BitVec.getLsbD, ← Nat.testBit_div_two, State.statusWord_toNat, Nat.testBit_eq_decide_div_mod_eq, h]
  cases b <;> rfl

/-- A field of the status word of `k` bits, above `i` data bits. -/
theorem State.statusWord_field (s : State) (i k : Nat) (hk : k ≤ 16) :
    (s.statusWord >>> (i + 1) &&& BitVec.ofNat 16 (2 ^ k - 1)).toNat = s.statusNumber / 2 ^ i % 2 ^ k := by
  have hpow : 2 ^ k ≤ 2 ^ 16 := Nat.pow_le_pow_right (by decide) hk
  have hpos : 0 < 2 ^ k := Nat.two_pow_pos k
  rw [BitVec.toNat_and, BitVec.toNat_ushiftRight, BitVec.toNat_ofNat, Nat.mod_eq_of_lt (by omega), Nat.and_two_pow_sub_one_eq_mod,
    Nat.shiftRight_eq_div_pow, Nat.pow_succ', ← Nat.div_div_eq_div_mul, State.statusWord_toNat]

theorem State.orderWaiting_iff (s : State) : s.orderWaiting = true ↔ ∃ o, s.arm.inFlight = some o ∧ o.taken = false := by
  simp [State.orderWaiting, Option.any_eq_true]

theorem State.attn_iff (s : State) :
    s.attn = true ↔ s.sys.resetHeld = false ∧ (s.port.reports ≠ [] ∨ ∃ o, s.arm.inFlight = some o ∧ o.taken = false) := by
  simp only [State.attn, Bool.and_eq_true, Bool.or_eq_true, Bool.not_eq_true', State.reportWaiting, decide_eq_true_eq,
    State.orderWaiting_iff]

/-- Settles O37: a word made of data holds it in bits 15..1, and the fields of the status word are the digits of one number. -/
theorem wordsHaveOddParity : Obligations.WordsHaveOddParity := by
  intro s
  have h1 := toNat_le_one s.port.reply.heartbeat
  have h2 := toNat_le_one s.port.frameFault
  have h3 := toNat_le_one s.reportWaiting
  have h4 := toNat_le_one s.orderWaiting
  have h5 := toNat_le_one (decide (s.sys.mode = .standalone))
  have hc := s.port.reply.code.number_le
  have hl := lineBits_le s.line.state
  have hn : s.statusNumber = s.port.reply.heartbeat.toNat * 16384 + s.port.frameFault.toNat * 8192 + s.port.reply.code.number * 1024 +
    s.reportWaiting.toNat * 512 + s.orderWaiting.toNat * 256 + (decide (s.sys.mode = .standalone)).toNat * 128 +
    lineBits s.line.state * 32 + s.port.reply.words.length % 16 * 2 := rfl
  refine ⟨fun n => ⟨s.shiftOut_length n, s.shiftOut_odd n⟩, fun n => s.shiftOut_get n.succ_pos,
    fun n k hk => ⟨fun d hd => ⟨_, State.shiftOut_reply hk hd, fun b _ => getLsbD_withParity d b⟩, State.shiftOut_pad hk⟩,
    ⟨s.statusWord_bit 14 _ ?heartbeat, s.statusWord_bit 13 _ ?fault, ?code, s.statusWord_bit 9 s.reportWaiting ?report, ?order,
     s.statusWord_bit 7 _ ?alone, ?line, fun hlen => ?length, s.statusWord_bit 0 false ?zero⟩, s.attn_iff⟩
  case code =>
    have hfield : (s.statusWord >>> 11 &&& 7#16).toNat = s.port.reply.code.number := by
      refine (s.statusWord_field 10 3 (by decide)).trans ?_
      omega
    rw [hfield]
    cases s.port.reply.code <;> rfl
  case order =>
    rw [s.statusWord_bit 8 s.orderWaiting (by omega)]
    exact s.orderWaiting_iff
  case line =>
    have hfield : (s.statusWord >>> 6 &&& 3#16).toNat = lineBits s.line.state := by
      refine (s.statusWord_field 5 2 (by decide)).trans ?_
      omega
    rw [hfield]
    cases s.line.state <;> rfl
  case length =>
    refine (s.statusWord_field 1 4 (by decide)).trans ?_
    omega
  case zero => rw [Bool.toNat_false]; omega
  all_goals omega

end Sys2Proof.Machine

/-! SUPPORT. The second tick, START, MOUNT, and the DISMOUNT of a mounted request. -/

namespace Sys2Proof.Machine

open Sys2Proof.Certificates

/-! ## The second tick -/

theorem exec_secondTick {n : Nat} {s : State} (h : s.acct.nextSecond = some n) : exec .secondTick s = .next (s.reach n).tick := by
  have hexec : exec .secondTick s = .next (match s.acct.nextSecond with
    | none => s
    | some n => (s.reach n).tick) := rfl
  rw [hexec, h]

theorem State.tick_init {s : State} (h : s.sys.mode = .init) : s.tick = s.modAcct fun a =>
    { a with stationTime := satAdd Config.max32 a.stationTime 1, nextSecond := a.nextSecond.map fun n => n + 1000,
             staleLeft := if a.closed = [] then a.staleLeft else a.staleLeft - 1 } := by
  rw [State.tick, if_pos h]

theorem State.tick_running {s : State} (h : s.sys.mode ≠ .init) : s.tick = s.countTick.modAcct fun a =>
    { a with stationTime := satAdd Config.max32 a.stationTime 1, nextSecond := a.nextSecond.map fun n => n + 1000,
             staleLeft := if a.closed = [] then a.staleLeft else a.staleLeft - 1 } := by
  rw [State.tick, if_neg h]

/-- A count of R164 in its range. -/
theorem tickBand_eq {n : Nat} (h : n ≤ 16777215) : tickBand n = (min 16777215 (n + 1), decide (n = 16777215)) := by
  unfold tickBand
  split
  · next hlt =>
    have hne : n ≠ 16777215 := by simp only [Config.max24] at hlt; omega
    rw [decide_eq_false hne, Nat.min_eq_right (by simp only [Config.max24] at hlt; omega)]
  · next hge =>
    obtain rfl : n = 16777215 := by simp only [Config.max24] at hge; omega
    rfl

/-- Settles O35. -/
theorem secondTickCounts : Obligations.SecondTickCounts := by
  intro n s hnext time O c b up
  have hsome : s.acct.nextSecond.map (fun k => k + 1000) = some (n + 1000) := by rw [hnext]; rfl
  refine ⟨fun hmode => ?init, fun hmode => ?running, fun z h0 h1 h2 h3 => ?session⟩
  case init =>
    rw [exec_secondTick hnext, State.tick_init (s := s.reach n) hmode]
    simp only [State.reach, State.modSys, State.modAcct, hsome]
    rfl
  case running =>
    rw [exec_secondTick hnext, State.tick_running (s := s.reach n) hmode]
    simp only [State.countTick, State.reach, State.modSys, State.modAcct, State.modDrv, Acct.countBand, hsome]
    rfl
  case session => simp only [Session.tick, tickBand_eq, h0, h1, h2, h3, true_and]

/-! ## START -/

theorem exec_start (x : Xfer) (s : State) : exec (.start x) s = .next (s.hostCommand x 0 .initOnly State.start) := rfl

theorem State.startRefused_iff (s : State) : s.startRefused = true ↔
    (∃ e ∈ s.inv.entries, ∃ n, e.slot = some n ∧ s.sys.startup.slotCount ≤ n) ∨
    (s.sys.startup.stationNumber = 0 ∧
      (s.sys.startup.leftHatch = true ∨ ∃ d ∈ s.drv.drives, ∃ i, d.position = .boundary .left i)) ∨
    (s.sys.startup.stationNumber = 7 ∧
      (s.sys.startup.rightHatch = true ∨ ∃ d ∈ s.drv.drives, ∃ i, d.position = .boundary .right i)) := by
  have hslot (e : Entry) : (match e.slot with
      | some n => decide (s.cfg.slotCount ≤ n)
      | none => false) = true ↔ ∃ n, e.slot = some n ∧ s.sys.startup.slotCount ≤ n := by
    cases e.slot with
    | none => simp
    | some n =>
      simp only [Option.some.injEq, exists_eq_left', decide_eq_true_eq]
      exact Iff.rfl
  have hleft (d : Drive) : (match d.position with
      | .boundary .left _ => true
      | _ => false) = true ↔ ∃ i, d.position = .boundary .left i := by
    rcases d.position with _ | ⟨_ | _, i⟩ <;> simp
  have hright (d : Drive) : (match d.position with
      | .boundary .right _ => true
      | _ => false) = true ↔ ∃ i, d.position = .boundary .right i := by
    rcases d.position with _ | ⟨_ | _, i⟩ <;> simp
  simp only [State.startRefused, Bool.or_eq_true, Bool.and_eq_true, decide_eq_true_eq, List.any_eq_true, or_assoc]
  exact or_congr (exists_congr fun e => and_congr_right fun _ => hslot e) (or_congr
    (and_congr_right fun _ => or_congr_right (exists_congr fun d => and_congr_right fun _ => hleft d))
    (and_congr_right fun _ => or_congr_right (exists_congr fun d => and_congr_right fun _ => hright d)))

@[simp] theorem State.accepted_startRefused (x : Xfer) (s : State) : (s.accepted x).startRefused = s.startRefused := by
  rw [State.accepted_eq]; rfl

theorem State.begin_accepted (x : Xfer) (s : State) : (s.accepted x).begin = s.begin.accepted x := by
  rw [State.accepted_eq, State.accepted_eq]; rfl

theorem State.start_begins {s : State} (h : s.startRefused = false) (hdoor : s.panel.doorIsOpen = false ∨ s.panel.doorExpired = false) :
    s.start = .ok ([], s.begin) := by
  have hclosed : ¬(s.panel.doorIsOpen = true ∧ s.panel.doorExpired = true) := by
    rcases hdoor with h | h <;> simp [h]
  rw [State.start, h, if_neg Bool.false_ne_true, if_neg hclosed]

/-- Settles O15. -/
theorem startJoins : Obligations.StartJoins := by
  intro x s hready hmode hpart refused
  have hcheck : modeCheck .initOnly s.sys.mode = none := by rw [hmode]; rfl
  refine ⟨fun hrefused => ?_, fun hfree hdoor => ?_⟩
  · have hbad : (s.accepted x).start = .error .notNow :=
      if_pos ((State.accepted_startRefused x s).trans (s.startRefused_iff.mpr hrefused))
    rw [exec_start, State.host_error hready hcheck hbad]
  · have hfree' : (s.accepted x).startRefused = false := by
      rw [State.accepted_startRefused]
      exact Bool.eq_false_iff.mpr (mt s.startRefused_iff.mp hfree)
    have hbegin := State.start_begins hfree' (by rwa [State.accepted_panel])
    rw [State.begin_accepted] at hbegin
    rw [exec_start, State.host_silent hready hpart hcheck hbegin hready.2.1]
    rfl

/-! ## What an accepted transfer keeps -/

/-- The parts of the state that no consequence changes, once the reply of an accepted transfer is pending. -/
theorem answered_kept (x : Xfer) (c : ReplyCode) (w : List Data) (s : State) : (Certificates.answered x c w s).kept =
    { (s.accepted x).kept with reply := { heartbeat := x.heartbeat, code := c, words := w } } := by rw [State.accepted_eq]; rfl

theorem kept_reply_settle (x : Xfer) (c : ReplyCode) (w : List Data) (t : State) : (t.reply x c w).settle.kept =
    { t.kept with reply := { heartbeat := x.heartbeat, code := c, words := w } } := by rw [State.kept_settle]; rfl

/-! ## MOUNT -/

/-- Fields of MOUNT that R45 refuses. -/
def MountBad (a : MountArgs) : Prop :=
  a.volume.isSome = a.pool.isSome ∨ (∃ v, a.volume = some v ∧ serialOk v = false) ∨ (∃ p, a.pool = some p ∧ (p < 1 ∨ 14 < p)) ∨
    a.access = none ∨ 65535 < a.jobTag ∨ (∃ c, a.classWish = some c ∧ (c < 1 ∨ 4 < c)) ∨ 7 < a.priority ∨ 63 < a.account ∨
    ∃ m, a.minutes = some m ∧ (m < 1 ∨ 255 < m)

/-- MOUNT names nothing legal when it names both or neither, or the one it names is out of its range. -/
theorem mountWant_eq_none_iff (a : MountArgs) : mountWant a = none ↔
    a.volume.isSome = a.pool.isSome ∨ (∃ v, a.volume = some v ∧ serialOk v = false) ∨ (∃ p, a.pool = some p ∧ (p < 1 ∨ 14 < p)) := by
  unfold mountWant
  split
  · next v hv hp => simp [hv, hp]
  · next p hv hp =>
    have hpool : poolOk p = false ↔ p < 1 ∨ 14 < p := by simp only [poolOk, Bool.and_eq_false_iff, decide_eq_false_iff_not]; omega
    simp only [hv, hp, ite_eq_right_iff, reduceCtorEq, imp_false, Bool.not_eq_true, hpool, Option.isSome_none, Option.isSome_some,
      Bool.false_eq_true, false_and, exists_false, Option.some.injEq, exists_eq_left', false_or]
  · next hvol hpool =>
    refine iff_of_true rfl (.inl ?_)
    cases hv : a.volume with
    | none => cases hp : a.pool with
      | none => rfl
      | some p => exact absurd hp (hpool p hv)
    | some v => cases hp : a.pool with
      | none => exact absurd hp (hvol v hv)
      | some p => rfl

theorem mountInRange_eq_false_iff (a : MountArgs) : mountInRange a = false ↔
    65535 < a.jobTag ∨ (∃ c, a.classWish = some c ∧ (c < 1 ∨ 4 < c)) ∨ 7 < a.priority ∨ 63 < a.account ∨
      ∃ m, a.minutes = some m ∧ (m < 1 ∨ 255 < m) := by
  have hwish : wishOk a.classWish = false ↔ ∃ c, a.classWish = some c ∧ (c < 1 ∨ 4 < c) := by
    cases hc : a.classWish with
    | none => simp [wishOk]
    | some c => simp [wishOk, classOk_eq_false_iff]
  have hminutes : (match a.minutes with
      | none => true
      | some m => decide (1 ≤ m) && decide (m ≤ 255)) = false ↔ ∃ m, a.minutes = some m ∧ (m < 1 ∨ 255 < m) := by
    cases hm : a.minutes with
    | none => simp
    | some m =>
      simp only [Bool.and_eq_false_iff, decide_eq_false_iff_not, Option.some.injEq, exists_eq_left', Nat.not_le]
  simp only [mountInRange, Bool.and_eq_false_iff, hwish, decide_eq_false_iff_not, Nat.not_le, or_assoc]
  exact or_congr_right (or_congr_right (or_congr_right (or_congr_right hminutes)))

theorem mountBad_iff (a : MountArgs) : MountBad a ↔ mountWant a = none ∨ a.access = none ∨ mountInRange a = false := by
  rw [mountWant_eq_none_iff, mountInRange_eq_false_iff, MountBad]
  simp only [or_assoc]

section

variable {a : MountArgs} {s : State}

theorem State.mount_init (h : s.sys.mode = .init) : s.mount a = .error .notNow := if_pos h

theorem State.mount_bad (hmode : s.sys.mode ≠ .init) (hbad : MountBad a) : s.mount a = .error .badValue := by
  simp only [State.mount, if_neg hmode]
  rcases (mountBad_iff a).mp hbad with hwant | haccess | hrange
  · simp only [hwant]
  · rw [haccess]
    cases mountWant a <;> rfl
  · split
    · rw [if_pos hrange]
    · rfl

theorem State.mount_full (hmode : s.sys.mode ≠ .init) (hgood : ¬MountBad a) (hfull : 32 ≤ s.rm.queue.length) :
    s.mount a = .error .full := by
  rw [mountBad_iff, not_or, not_or] at hgood
  obtain ⟨hwant, haccess, hrange⟩ := hgood
  obtain ⟨want, hwant⟩ := Option.ne_none_iff_exists'.mp hwant
  obtain ⟨access, haccess⟩ := Option.ne_none_iff_exists'.mp haccess
  simp only [State.mount, if_neg hmode, hwant, haccess, if_neg hrange]
  exact if_pos hfull

end

theorem State.kept_enterRequest (q : Request) (s : State) : (s.enterRequest q).kept = { s.kept with lastSeq := q.req.seq } := by
  rw [State.enterRequest, State.kept_reqReport, State.kept_addReq]
  rfl

/-- A report joins the Report Queue of the port whether or not a transfer has been accepted there. -/
theorem State.report_accepted (b : ReportBody) (x : Xfer) (s : State) : (s.accepted x).report b = (s.report b).accepted x := by
  rw [State.accepted_eq, State.accepted_eq, State.report, State.report]
  simp only [State.modPort]
  split <;> rfl

theorem State.enterRequest_own {q : Request} {s : State} (h : q.req.origin = s.self) : s.enterRequest q =
    ((s.modRm fun m => { m with lastSeq := q.req.seq }).addReq q).report (.request q.req q.jobTag .accepted) := if_pos h

theorem State.enterRequest_accepted (q : Request) (x : Xfer) {s : State} (h : q.req.origin = s.self) :
    (s.accepted x).enterRequest q = (s.enterRequest q).accepted x := by
  rw [State.enterRequest_own (by rwa [State.self, State.accepted_cfg]), State.enterRequest_own h, ← State.report_accepted,
    State.modRm_accepted, State.addReq, State.modRm_accepted]
  rfl

@[simp] theorem State.accepted_newRequest (a : MountArgs) (want : Want) (access : Access) (x : Xfer) (s : State) :
    (s.accepted x).newRequest a want access = s.newRequest a want access := by rw [State.accepted_eq]; rfl

theorem wReq_parts {x : Xfer} (hpart : x.part = 0) (r : ReqNo) : AsksLast x [wReq r] :=
  asksLast_of_short hpart (by simp [wReq, w1, numWords])

@[simp] theorem State.report_sys (b : ReportBody) (s : State) : (s.report b).sys = s.sys := rfl

/-- Settles O16: the guards of the owning rule in turn; a MOUNT taken enters its request, and in JOINING nothing follows. -/
theorem mountEntersTheRequest : Obligations.MountEntersTheRequest := by
  refine ⟨fun x a s hready hservice => ⟨fun hmode => ?init, fun hmode hbad => ?bad, fun hmode hgood hfull => ?full⟩,
    fun x a want access s hready hservice hmode hpart hwant haccess hrange hroom => ⟨?taken, fun hjoining => ?joining⟩⟩
  case init =>
    rw [exec_mount, State.host_error hready (modeCheck_other hservice) (State.mount_init (by rwa [State.accepted_sys]))]
  case bad =>
    rw [exec_mount, State.host_error hready (modeCheck_other hservice) (State.mount_bad (by rwa [State.accepted_sys]) hbad)]
  case full =>
    rw [exec_mount, State.host_error hready (modeCheck_other hservice)
      (State.mount_full (by rwa [State.accepted_sys]) hgood (by rwa [State.accepted_rm]))]
  all_goals
    have htaken := State.mount_taken (s := s.accepted x) (by rwa [State.accepted_sys]) hwant haccess hrange (by rwa [State.accepted_rm])
    rw [State.accepted_newRequest] at htaken
  case taken =>
    refine ⟨_, exec_mount x a s, ?_⟩
    rw [State.host_ok hready (modeCheck_other hservice) htaken (wReq_parts hpart _), kept_reply_settle, State.kept_firstLook,
      State.kept_enterRequest, answered_kept, hpart]
    rfl
  case joining =>
    set q := s.newRequest a want access
    have hfirst (r : ReqNo) : ((s.accepted x).enterRequest q).firstLook r = (s.accepted x).enterRequest q := by
      have hsame : ((s.accepted x).enterRequest q).sys = s.sys := by
        rw [State.enterRequest_accepted q x rfl, State.accepted_sys, State.enterRequest_own rfl, State.report_sys]; rfl
      rw [State.firstLook, hsame, if_pos hjoining]
    rw [hfirst, State.enterRequest_accepted q x rfl] at htaken
    have hagenda : (s.enterRequest q).agenda = [] := by
      rw [State.enterRequest_own rfl, State.report_agenda]; exact hready.2.1
    rw [exec_mount, State.host_taken hready (modeCheck_other hservice) htaken (wReq_parts hpart _) hagenda, hpart,
      State.enterRequest_own rfl]
    rfl

/-! ## The close of a session -/

/-- What an offered record makes of the accounting blocks (R173 to R175). -/
def Acct.offered (c : StartUp) (x : ClosedSession) (a : Acct) : Acct :=
  if a.closed.length < Config.closedQueueSize then
    { a with closed := a.closed ++ [x], armed := a.armed && !(a.armed && decide (a.closed.length + 1 = c.sessionWatermark)),
             staleLeft := if a.closed.length = 0 then 60 * c.sessionStaleTime else a.staleLeft }
  else { a with sessionsLost := satAdd Config.max8 a.sessionsLost 1, lostOverflow := a.lostOverflow || decide (a.sessionsLost = Config.max8) }

/-- A record offered changes the accounting blocks, and for the rest queues reports alone. -/
theorem State.kept_offerClosed (x : ClosedSession) (s : State) :
    (s.offerClosed x).kept = { s.kept with acct := s.acct.offered s.cfg x } := by
  unfold State.offerClosed Acct.offered
  dsimp only
  split
  · split
    · rw [State.kept_report]; rfl
    · rfl
  · rw [State.kept_report]; rfl

theorem State.offerClosed_acct (x : ClosedSession) (s : State) : (s.offerClosed x).acct = s.acct.offered s.cfg x :=
  congrArg Kept.acct (State.kept_offerClosed x s)

theorem State.kept_addCharge (n C secs : Nat) (s : State) :
    (s.addCharge n C secs).kept = { s.kept with acct := (s.addCharge n C secs).acct } := rfl

theorem State.addCharge_congr (n C secs : Nat) {s t : State} (h : t.acct = s.acct) : (t.addCharge n C secs).acct = (s.addCharge n C secs).acct := by
  simp only [State.addCharge, State.modAcct_acct, h]

theorem State.sys_of_kept {s t : State} (h : t.kept = s.kept) : t.sys = s.sys := congrArg Kept.sys h
theorem State.acct_of_kept {s t : State} (h : t.kept = s.kept) : t.acct = s.acct := congrArg Kept.acct h

/-- The record and the charge of a session that closes on a drive (R166). -/
theorem State.kept_closeSession {d n : Nat} {cause : CloseCause} {y : Drive} {z : Session} {s : State} (hy : s.findDrive d = some y)
    (hz : y.session = some z) :
    let closed := closedOf s.sys.startup z (((s.findReq z.req).map Request.promptAcks).getD 0) n s.acct.stationTime cause
    (s.closeSession d n cause).kept =
      { s.kept with acct := ((s.addCharge z.account closed.charge (z.t0 + z.t1 + z.t2 + z.t3)).offerClosed closed).acct } := by
  intro closed
  have hclosed : closed = closedOf s.cfg z (match s.findReq z.req with
      | some q => q.promptAcks
      | none => 0) n s.acct.stationTime cause := by
    simp only [closed]
    cases s.findReq z.req <;> rfl
  set t := ((s.updDrive d fun y => { y with session := none }).addCharge z.account closed.charge (z.t0 + z.t1 + z.t2 + z.t3)) with ht
  have hclose : s.closeSession d n cause = (t.wearReel z.volume n).offerClosed closed := by
    rw [ht, hclosed]
    simp only [State.closeSession, hy, Option.bind_some, hz] <;> rfl
  have hwear := State.kept_wearReel z.volume n t
  have hupd := State.kept_updDrive d (fun y => { y with session := none }) s
  rw [hclose, State.kept_offerClosed, hwear, State.acct_of_kept hwear, State.offerClosed_acct, ht, State.kept_addCharge, hupd,
    State.addCharge_congr _ _ _ (State.acct_of_kept hupd), State.cfg, State.sys_of_kept hwear]
  rfl

theorem State.kept_dismountDrive (d n : Nat) (s : State) : (s.dismountDrive d n).kept = (s.closeSession d n .host).kept := by
  unfold State.dismountDrive
  dsimp only
  split
  · exact State.kept_updDrive ..
  · split
    · rw [State.kept_driveToIdle, State.kept_updDrive]
    · rw [State.kept_examineDrive, State.kept_updDrive, State.kept_updDrive]

/-- A request dismounted closes the session of its drive; the rest that no consequence changes stays (R59). -/
theorem State.kept_dismountRequest {r : ReqNo} {n d : Nat} {e : End} {q : Request} {y : Drive} {z : Session} {s : State}
    (hq : s.findReq r = some q) (hd : q.drive = some d) (hy : s.findDrive d = some y) (hz : y.session = some z) (hr : z.req = r) :
    let closed := closedOf s.sys.startup z q.promptAcks n s.acct.stationTime .host
    (s.dismountRequest r n e).kept =
      { s.kept with acct := ((s.addCharge z.account closed.charge (z.t0 + z.t1 + z.t2 + z.t3)).offerClosed closed).acct } := by
  simp only [State.dismountRequest, hq, Option.bind_some, hd, State.kept_endRequest, State.kept_dismountDrive,
    State.kept_closeSession hy hz, hr, Option.map_some, Option.getD_some]

/-- The accounting blocks after a close, which reads no part of the port. -/
theorem State.closed_accepted (n C secs : Nat) (c : ClosedSession) (x : Xfer) (s : State) :
    (((s.accepted x).addCharge n C secs).offerClosed c).acct = ((s.addCharge n C secs).offerClosed c).acct := by
  simp only [State.offerClosed_acct, State.addCharge_congr n C secs (State.accepted_acct x s)]
  rw [State.accepted_eq]; rfl

theorem State.dismount_mounted {r : ReqNo} {n : Nat} {q : Request} {s : State} (hn : n ≤ 255) (hr : reqOk r = true)
    (h : s.hostReq r = some q) (hm : q.state = .mounted) :
    s.dismount r n = .ok ([], s.dismountRequest r n (.dismounted n)) := by
  simp only [State.dismount, hr, h, Nat.not_lt.mpr hn, Bool.true_eq_false, or_self, if_false, hm]

/-- A command without reply words whose effect closes a session: of the parts that no consequence changes the accounting blocks follow
that close, and the port its transfer. -/
theorem exists_dismounted {x : Xfer} {least n d : Nat} {r : ReqNo} {e : End} {q : Request} {y : Drive} {z : Session} {f : State → Answered}
    {s : State} (hready : Ready x least s) (hservice : InService s) (hpart : x.part = 0) (hq : s.findReq r = some q) (hd : q.drive = some d)
    (hy : s.findDrive d = some y) (hz : y.session = some z) (hr : z.req = r)
    (hf : f (s.accepted x) = .ok ([], (s.accepted x).dismountRequest r n e)) :
    let closed := closedOf s.sys.startup z q.promptAcks n s.acct.stationTime .host
    (s.hostCommand x least .other f).kept = { (answered x .ok [] s).kept with
      acct := ((s.addCharge z.account closed.charge (z.t0 + z.t1 + z.t2 + z.t3)).offerClosed closed).acct } := by
  have hlast : AsksLast x [] := asksLast_of_short hpart (by decide)
  have hwords : partOf [] x.part = [] := rfl
  intro closed
  rw [State.host_ok hready (modeCheck_other hservice) hf hlast, kept_reply_settle, answered_kept, hwords,
    State.kept_dismountRequest ((State.accepted_findReq x r s).trans hq) hd ((State.accepted_findDrive x d s).trans hy) hz hr,
    State.closed_accepted, State.accepted_sys, State.accepted_acct]

/-- Settles O18. -/
theorem dismountClosesAndChargesTheSession : Obligations.DismountClosesAndChargesTheSession := by
  intro x r n q d y z s hready hservice hpart hn hreq hq hrole hm hd hy hz hr closed
  have hf := State.dismount_mounted (s := s.accepted x) hn hreq ((State.accepted_hostReq x r s).trans (State.hostReq_some hq hrole)) hm
  exact ⟨_, exec_dismount x r n s, exists_dismounted hready hservice hpart hq hd hy hz hr hf⟩

end Sys2Proof.Machine

/-! SUPPORT. RESUME, the Silence and Listen timers, the door, and the timers of prompts. -/

namespace Sys2Proof.Machine

open Sys2Proof.Certificates

/-! ## A PRESENCE asked -/

theorem State.kept_askPresence (tag : PresTag) (s : State) : (s.askPresence tag).kept = s.kept := by
  unfold State.askPresence
  dsimp only
  rw [State.kept_push, State.kept_repeatYields]
  split
  · rfl
  · exact State.kept_sendTagged ..

/-- A change of the Condition touches the presence timer alone of what no consequence changes (R101). -/
theorem keptButPresence_withCondition (f : State → State) (s : State) :
    keptButPresence (s.withCondition f) = keptButPresence (f s) := by
  have hstart (t : State) : keptButPresence t.startPresence = keptButPresence t := rfl
  unfold State.withCondition
  dsimp only
  split
  · rw [hstart, keptButPresence, State.kept_askPresence, ← keptButPresence]
  · rfl

theorem keptButPresence_settle (s : State) : keptButPresence s.settle = keptButPresence s := by
  rw [keptButPresence, State.kept_settle, ← keptButPresence]

theorem keptButPresence_push (w : Work) (s : State) : keptButPresence (s.push w) = keptButPresence s := by
  rw [keptButPresence, State.kept_push, ← keptButPresence]

/-- A fold whose every step leaves the state it stands in. -/
theorem State.forEach_idle {α : Type} {f : α → State → State} {l : List α} {s : State} (h : ∀ a ∈ l, f a s = s) :
    State.forEach l f s = s := by
  unfold State.forEach
  induction l with
  | nil => rfl
  | cons a l ih =>
    have ⟨ha, hl⟩ := List.forall_mem_cons.mp h
    rw [List.foldl_cons, ha, ih hl]

theorem State.repeatYields_of_none {s : State} (h : ∀ c ∈ s.claim.records, c.own ≠ .yielding) : s.repeatYields = s := by
  refine State.forEach_idle fun res _ => ?_
  split
  · next c hc => exact if_neg fun hyield => h c (List.mem_of_find?_eq_some hc) hyield.1
  · rfl

/-- A PRESENCE asked changes the Transmit Queue alone: one that may not be sent leaves no report (R90). -/
theorem State.sendPresence_frame (tag : PresTag) (b : PresenceBody) (s : State) :
    ∃ q, s.sendTagged tag (.presence b) = { s with line := { s.line with txq := q } } := by
  unfold State.sendTagged
  split
  · exact ⟨s.line.txq, if_pos rfl⟩
  · split
    · exact ⟨s.line.txq, if_pos rfl⟩
    · exact ⟨_, rfl⟩

theorem State.push_frame (w : Work) (s : State) : s.push w = { s with agenda := (s.push w).agenda } := by
  unfold State.push
  split <;> rfl

/-- The first consequence of a command. -/
theorem State.push_of_empty {w : Work} {s : State} (h : s.agenda = []) : s.push w = { s with agenda := [w] } := by
  rw [State.push, h, if_neg List.not_mem_nil]
  rfl

theorem State.askPresence_frame (tag : PresTag) {s : State} (h : ∀ c ∈ s.claim.records, c.own ≠ .yielding) :
    ∃ q a, s.askPresence tag = { s with line := { s.line with txq := q }, agenda := a } := by
  unfold State.askPresence
  dsimp only
  split
  · rw [State.repeatYields_of_none h, State.push_frame]
    exact ⟨s.line.txq, _, rfl⟩
  · obtain ⟨q, hq⟩ := s.sendPresence_frame tag (s.presenceBody tag)
    rw [hq, State.repeatYields_of_none (s := { s with line := { s.line with txq := q } }) h, State.push_frame]
    exact ⟨q, _, rfl⟩

theorem State.withCondition_port {f : State → State} {s : State} (h : ∀ c ∈ (f s).claim.records, c.own ≠ .yielding) :
    (s.withCondition f).port = (f s).port := by
  unfold State.withCondition
  dsimp only
  split
  · obtain ⟨q, a, hask⟩ := State.askPresence_frame .plain h
    rw [hask]
    rfl
  · rfl

/-! ## RESUME, and the expiry of the Silence and Listen timers -/

/-- RESUME's change of mode, with its timer and Heartbeat bit (R186). -/
def State.wake (x : Xfer) (s : State) : State :=
  (s.modSys fun y => { y with mode := .active }).modPort fun p =>
    { p with lastHeartbeat := some x.heartbeat, silenceEnd := some s.silenceFull }

theorem State.resume_alone (x : Xfer) {s : State} (h : s.sys.mode = .standalone) :
    s.resume x = .ok ([], (((s.withCondition (State.wake x)).push .plan).push .claimTest).push .issue) := if_neg (by simp [h])

/-- Settles O38. -/
theorem resumeEntersActive : Obligations.ResumeEntersActive := by
  intro x s hready hpart
  have hcheck := modeCheck_standalone s.sys.mode
  refine ⟨fun hmode => ?_, fun hmode => ⟨_, exec_resume x s, ?_⟩⟩
  · rw [exec_resume, State.host_error hready hcheck (State.resume_elsewhere x (by rwa [State.accepted_sys]))]
  · have hwake := State.resume_alone (s := s.accepted x) x (by rwa [State.accepted_sys])
    have hreply (t : State) : keptButPresence (t.reply x .ok (partOf [] x.part)) =
        { keptButPresence t with reply := { heartbeat := x.heartbeat, code := .ok, words := [] } } := rfl
    rw [State.host_ok hready hcheck hwake (asksLast_of_short hpart (by decide)), keptButPresence_settle, hreply]
    simp only [keptButPresence_push, keptButPresence_withCondition]
    rw [State.accepted_eq]
    rfl

theorem exec_silenceTimerExpiry {e : Nat} {s : State} (h : s.port.silenceEnd = some e) (hmode : s.sys.mode = .active) :
    exec .silenceTimerExpiry s = .next (s.reach e).goAlone.settle := by
  have hexec : exec .silenceTimerExpiry s = .next (match s.port.silenceEnd with
    | none => s
    | some e => if s.sys.mode = .active then ((s.reach e).goAlone).settle else s) := rfl
  rw [hexec, h]
  simp only [hmode, if_true]

theorem keptButPresence_goAlone (s : State) : keptButPresence s.goAlone =
    { keptButPresence s with sys := { s.sys with mode := .standalone }, silenceEnd := none } := by
  rw [State.goAlone, keptButPresence, State.kept_yieldAlone, State.kept_quietHolds, ← keptButPresence, keptButPresence_withCondition]
  rfl

/-- The Listen timer has expired at `e`, and does not run. -/
def State.listened (e : Nat) (s : State) : State := (s.reach e).modSys fun y => { y with listenEnd := none }

theorem exec_listenTimerExpiry {e : Nat} {s : State} (h : s.sys.listenEnd = some e) (hmode : s.sys.mode = .joining) :
    exec .listenTimerExpiry s = .next (if (s.listened e).permits .presence then ((s.listened e).askPresence .joining).settle
      else (s.listened e).enterActive.settle) := by
  have hexec : exec .listenTimerExpiry s = .next (match s.sys.listenEnd with
    | none => s
    | some e =>
      if (s.listened e).sys.mode ≠ .joining then s.listened e
      else if (s.listened e).permits .presence then ((s.listened e).askPresence .joining).settle
      else (s.listened e).enterActive.settle) := rfl
  rw [hexec, h]
  exact congrArg _ (if_neg (not_not_intro hmode))

/-- The message of a PRESENCE asked (R89, R100). -/
def State.presenceMsg (tag : PresTag) (s : State) : TxMsg :=
  { msg := .presence (s.presenceBody tag), attempts := 0, onLine := false, withdrawn := false, tag := tag }

/-- A PRESENCE asked where it may be sent, none is queued and no YIELD is owed: it joins the queue, and the records are tested for a
HANDOFF (R101, R134). -/
theorem State.askPresence_queued {tag : PresTag} {s : State} (hcan : CanQueue .presence s)
    (hnone : ∀ m ∈ s.line.txq, isPresence m.msg = false) (hyield : ∀ c ∈ s.claim.records, c.own ≠ .yielding) (hagenda : s.agenda = []) :
    s.askPresence tag =
      { s with line := { s.line with txq := insertTx (s.presenceMsg tag) s.line.txq }, agenda := [.handoffTest] } := by
  obtain ⟨hpermits, hroom⟩ := hcan
  have hqueued : s.queuedMsg isPresence = false := by
    simp only [State.queuedMsg, List.any_eq_false]
    intro m hm
    simp [hnone m hm]
  have hsend : s.sendTagged tag (.presence (s.presenceBody tag)) =
      s.modLine fun l => { l with txq := insertTx (s.presenceMsg tag) l.txq } := by
    have hkind : (Msg.presence (s.presenceBody tag)).kind = .presence := rfl
    rw [State.sendTagged, hkind, hpermits, if_neg (by decide), if_neg (by simp only [Config.transmitQueueSize]; omega)]
    rfl
  set u := s.modLine fun l => { l with txq := insertTx (s.presenceMsg tag) l.txq }
  unfold State.askPresence
  dsimp only
  rw [hqueued, if_neg Bool.false_ne_true, hsend, State.repeatYields_of_none (s := u) hyield, State.push_of_empty (s := u) hagenda]
  rfl

theorem State.kept_startPresence (s : State) : s.startPresence.kept = { s.kept with presenceEnd := some (s.sys.clock + s.periodMs) } := rfl

/-- The timers that entry to ACTIVE starts (R184, R197), and the line state that it leaves. -/
theorem State.kept_enterActive {s : State} (h : s.line.state = .duplicate) : s.enterActive.kept = { s.kept with
    sys := { s.sys with mode := .active, listenEnd := none }
    presenceEnd := some (s.sys.clock + 1000 * s.sys.startup.presencePeriod)
    silenceEnd := some (s.sys.clock + 1000 * s.sys.startup.silenceLimit) } := by
  have hsilence (n : Nat) (t : State) : (t.modPort fun p => { p with silenceEnd := some n }).kept = { t.kept with silenceEnd := some n } := rfl
  unfold State.enterActive
  dsimp only
  rw [State.kept_push, State.kept_push, State.kept_push, State.kept_forEach _ _ _ fun c t => State.kept_takeUpCell c t,
    State.kept_forEach _ _ _ fun x t => State.kept_takeUpDrive x t, hsilence, State.kept_askPresence, State.kept_startPresence,
    State.kept_report, State.cfg, State.sys_of_kept (State.kept_askPresence ..)]
  simp only [h, if_true]
  have hline : s.kept = { s.kept with lineState := .duplicate } := by rw [← h]; rfl
  rw [hline]
  rfl

/-- Settles O40. -/
theorem silenceAndListenExpiry : Obligations.SilenceAndListenExpiry := by
  intro e s hagenda
  refine ⟨fun hmode hend => ⟨_, exec_silenceTimerExpiry hend hmode, ?silence⟩, fun hmode hend => ⟨fun hcan hnone hyield => ?queued,
    fun hline => ⟨_, exec_listenTimerExpiry hend hmode, ?duplicate⟩⟩⟩
  case silence =>
    rw [keptButPresence_settle, keptButPresence_goAlone]
    rfl
  case queued =>
    have hpermits : (s.listened e).permits .presence = true := hcan.1
    rw [exec_listenTimerExpiry hend hmode, hpermits, if_pos rfl,
      State.askPresence_queued (s := s.listened e) hcan hnone hyield hagenda]
    rfl
  case duplicate =>
    have hpermits : (s.listened e).permits .presence = false := by
      have hstate : (s.listened e).line.state = .duplicate := hline
      rw [State.permits, hstate]
    rw [hpermits, if_neg Bool.false_ne_true, State.kept_settle, State.kept_enterActive (s := s.listened e) hline]
    rfl

/-! ## What the Panel Controller's operations touch -/

theorem State.findPrompt_key {k : PromptKey} {p : Prompt} {s : State} (h : s.findPrompt k = some p) : p.key = k :=
  of_decide_eq_true (List.find?_some (p := fun q : Prompt => decide (q.key = k)) h)

theorem State.mem_of_findPrompt {k : PromptKey} {p : Prompt} {s : State} (h : s.findPrompt k = some p) : p ∈ s.panel.prompts :=
  List.mem_of_find?_eq_some h

/-- The lamp pattern decided afresh is the one that the prompts call for, with the instant of its last change (R154). -/
theorem State.relamp_frame (s : State) : s.relamp =
    { s with panel := { s.panel with lamp := lampFor s.panel.prompts, lampSince := s.relamp.panel.lampSince } } := by
  unfold State.relamp
  split
  · next h => rw [h]
  · rfl

/-- The cursor when a prompt becomes displayable (R153). -/
def cursorAfter (k : PromptKey) (c : Option PromptKey) : Option PromptKey :=
  match c with
  | none => some k
  | some c => if promptUrgency c.cls < promptUrgency k.cls then some k else some c

theorem State.cursorTo_eq (k : PromptKey) (s : State) :
    s.cursorTo k = { s with panel := { s.panel with cursor := cursorAfter k s.panel.cursor } } := by
  cases hc : s.panel.cursor with
  | none =>
    simp only [State.cursorTo, hc, cursorAfter]
    rfl
  | some c =>
    have hself : s = { s with panel := { s.panel with cursor := some c } } := by rw [← hc]
    simp only [State.cursorTo, hc, cursorAfter]
    split
    · rfl
    · exact hself

theorem State.leavePrompt_frame (k : PromptKey) (s : State) :
    s.leavePrompt k = { s with panel := (s.leavePrompt k).panel, agenda := (s.leavePrompt k).agenda } := by
  unfold State.leavePrompt
  split
  · rfl
  · dsimp only
    rw [State.push_frame, State.relamp_frame]
    rfl

theorem State.withdrawPrompt_frame (k : PromptKey) (s : State) :
    s.withdrawPrompt k = { s with panel := (s.withdrawPrompt k).panel, agenda := (s.withdrawPrompt k).agenda } := by
  unfold State.withdrawPrompt
  split
  · rfl
  · rw [State.leavePrompt_frame]
    split <;> rfl

theorem State.doorLongGone_frame (s : State) :
    s.doorLongGone = { s with panel := s.doorLongGone.panel, agenda := s.doorLongGone.agenda } := by
  unfold State.doorLongGone
  dsimp only
  split
  · rfl
  · split
    · rw [State.withdrawPrompt_frame]; rfl
    · rw [State.leavePrompt_frame]; rfl

/-! ## The door -/

theorem exec_doorChange {isOpen : Bool} {s : State} (hreset : s.sys.resetHeld = false) (h : s.panel.doorIsOpen ≠ isOpen) :
    exec (.doorChange isOpen) s = .next (s.withCondition (if isOpen then State.openDoor else State.closeDoor)).settle := by
  have hexec : exec (.doorChange isOpen) s = .next (if s.sys.resetHeld ∨ s.panel.doorIsOpen = isOpen then s
    else (s.withCondition (if isOpen then State.openDoor else State.closeDoor)).settle) := rfl
  rw [hexec, if_neg (by simp [hreset, h])]

theorem exec_doorLimitExpiry {e : Nat} {s : State} (h : s.panel.doorLimitEnd = some e) :
    exec .doorLimitExpiry s = .next
      (((s.reach e).modPanel fun u => { u with doorLimitEnd := none, doorExpired := true }).raisePlain .doorLong .door).settle := by
  have hexec : exec .doorLimitExpiry s = .next (match s.panel.doorLimitEnd with
    | none => s
    | some e =>
      (((s.reach e).modPanel fun u => { u with doorLimitEnd := none, doorExpired := true }).raisePlain .doorLong .door).settle) := rfl
  rw [hexec, h]

theorem State.openDoor_port (s : State) : s.openDoor.port = (s.report (.door true)).port := rfl

theorem State.kept_openDoor (s : State) : s.openDoor.kept = { s.kept with
    bay := .doorOpen, doorIsOpen := true, doorLimitEnd := some (s.sys.clock + 60000 * s.sys.startup.doorLimit), doorExpired := false } := by
  rw [State.openDoor, State.kept_report]; rfl

theorem State.closeDoor_port (s : State) : s.closeDoor.port = ((s.report .auditNeeded).report (.door false)).port := by
  unfold State.closeDoor
  dsimp only
  rw [State.push_frame, State.doorLongGone_frame]
  rfl

theorem State.closeDoor_claim (s : State) : s.closeDoor.claim = s.claim := by
  unfold State.closeDoor
  dsimp only
  rw [State.push_frame, State.doorLongGone_frame]
  rfl

theorem State.kept_closeDoor (s : State) :
    s.closeDoor.kept = { s.kept with bay := .audit, doorIsOpen := false, doorLimitEnd := none, doorExpired := false } := by
  have hshut (t : State) : (t.modPanel fun u => { u with doorIsOpen := false, doorLimitEnd := none, doorExpired := false }).kept =
      { t.kept with doorIsOpen := false, doorLimitEnd := none, doorExpired := false } := rfl
  unfold State.closeDoor
  dsimp only
  rw [State.kept_push, State.kept_doorLongGone, State.kept_report, hshut, State.kept_report]
  rfl

/-- A cause without a request that makes a new prompt which settles (R142 to R144). -/
theorem State.raisePlain_settles {cls : PromptClass} {sub : Subject} {s : State} (h : CanRaise cls sub s) :
    s.raisePlain cls sub = withSettling cls sub none s := by
  obtain ⟨hmode, hroom, hfresh, hsettles⟩ := h
  have hlist : s.panel.prompts.length < Config.promptListSize := hroom
  have hlasts : s.cfg.promptSettle ≠ 0 := hsettles
  simp only [State.raisePlain, State.raise, Cause.key, hmode, hfresh, hlist, if_true, if_false, State.makePrompt, hlasts]
  rfl

/-- Settles O43. -/
theorem doorEvents : Obligations.DoorEvents := by
  intro s hagenda hreset
  refine ⟨congrArg _ (if_pos (.inr rfl)), fun hclosed => ?opens, fun hopen => ?closes, fun e hend =>
    ⟨fun hmode => ?held, fun hmode hroom hfresh hsettles => ?raised⟩⟩
  case opens =>
    refine ⟨_, exec_doorChange (isOpen := true) hreset (by rw [hclosed]; decide), ?_, fun hyield => State.withCondition_port (f := State.openDoor) hyield⟩
    rw [keptButPresence_settle, keptButPresence_withCondition, if_pos rfl, keptButPresence, State.kept_openDoor]
    rfl
  case closes =>
    refine ⟨_, exec_doorChange (isOpen := false) hreset (by rw [hopen]; decide), ?_, fun hyield => ?_⟩
    · rw [keptButPresence_settle, keptButPresence_withCondition, if_neg Bool.false_ne_true, keptButPresence, State.kept_closeDoor]
      rfl
    · exact (State.withCondition_port (f := State.closeDoor) (by rwa [State.closeDoor_claim])).trans s.closeDoor_port
  all_goals
    rw [exec_doorLimitExpiry hend]
    set t := (s.reach e).modPanel fun u => { u with doorLimitEnd := none, doorExpired := true }
  case held =>
    have hraise : t.raisePlain .doorLong .door = t := if_pos hmode
    rw [hraise, State.settle_of_agenda (s := t) hagenda]
    rfl
  case raised =>
    have hcan : CanRaise .doorLong .door t := ⟨hmode, hroom, hfresh, hsettles⟩
    rw [State.raisePlain_settles hcan, State.settle_of_agenda (s := withSettling .doorLong .door none t) hagenda]
    rfl

/-! ## Settling and age -/

theorem exec_settleEnd {k : PromptKey} {e : Nat} {p : Prompt} {s : State} (h : s.findPrompt k = some p) (he : p.settleEnd = some e) :
    exec (.settleEnd k.cls k.subject) s = .next ((s.reach e).showPrompt k).settle := by
  have hexec : exec (.settleEnd k.cls k.subject) s = .next (match (s.findPrompt k).bind Prompt.settleEnd with
    | none => s
    | some e => ((s.reach e).showPrompt k).settle) := rfl
  rw [hexec, h, Option.bind_some, he]

theorem exec_promptAgeEscalation {k : PromptKey} {p : Prompt} {s : State} (h : s.findPrompt k = some p) (hshown : p.state = .shown)
    (hage : s.pastAge p = true) : exec (.promptAgeEscalation k.cls k.subject) s = .next (s.escalate k).settle := by
  have hexec : exec (.promptAgeEscalation k.cls k.subject) s = .next (match s.findPrompt k with
    | none => s
    | some p => if p.state = .shown ∧ s.pastAge p = true then (s.escalate p.key).settle else s) := rfl
  rw [hexec, h]
  simp only [hshown, hage, and_self, if_true, State.findPrompt_key h]

/-- A prompt of the name changes, a report on it is queued, and cursor and lamp follow; the rest stays. -/
theorem State.showPrompt_frame {k : PromptKey} {p : Prompt} {s : State} (h : s.findPrompt k = some p) (hsettling : p.state = .settling) :
    s.showPrompt k = { s.report (.prompt .raised k.cls k.subject p.links none) with panel := (s.showPrompt k).panel } ∧
    (s.showPrompt k).panel.prompts = s.panel.prompts.map (fun z => if z.key = k then { z with state := .shown, settleEnd := none } else z) ∧
    (s.showPrompt k).panel.cursor = cursorAfter k s.panel.cursor ∧
    (s.showPrompt k).panel.lamp = lampFor (s.showPrompt k).panel.prompts := by
  have hkey := State.findPrompt_key h
  have hcls : p.cls = k.cls := congrArg PromptKey.cls hkey
  have hsub : p.subject = k.subject := congrArg PromptKey.subject hkey
  unfold State.showPrompt
  simp only [h, hsettling, if_true]
  rw [State.relamp_frame, State.cursorTo_eq, State.reportPrompt, hcls, hsub]
  exact ⟨rfl, rfl, rfl, rfl⟩

theorem State.showPrompt_shown {k : PromptKey} {p : Prompt} {s : State} (h : s.findPrompt k = some p) (hstate : p.state ≠ .settling) :
    s.showPrompt k = s := by simp only [State.showPrompt, h, if_neg hstate]

theorem State.escalate_frame {k : PromptKey} {p : Prompt} {s : State} (h : s.findPrompt k = some p) (hshown : p.state = .shown)
    (hnot : p.escalated = false) :
    s.escalate k = { s.report (.prompt .escalated k.cls k.subject p.links none) with panel := (s.escalate k).panel } ∧
    (s.escalate k).panel.prompts = s.panel.prompts.map (fun z => if z.key = k then { z with escalated := true } else z) ∧
    (s.escalate k).panel.cursor = s.panel.cursor ∧ (s.escalate k).panel.lamp = lampFor (s.escalate k).panel.prompts := by
  have hkey := State.findPrompt_key h
  have hcls : p.cls = k.cls := congrArg PromptKey.cls hkey
  have hsub : p.subject = k.subject := congrArg PromptKey.subject hkey
  unfold State.escalate
  simp only [h, hnot, Bool.false_eq_true, if_false]
  rw [State.showPrompt_shown h (by simp [hshown]), State.relamp_frame, State.reportPrompt, hcls, hsub]
  exact ⟨rfl, rfl, rfl, rfl⟩

/-- One SHOWN prompt that is escalated calls for the fast lamp (R154). -/
theorem lampFor_of_escalated {p : Prompt} {ps : List Prompt} (hp : p ∈ ps) (hshown : p.state = .shown) (hesc : p.escalated = true) :
    lampFor ps = .fast := by
  have hany : (ps.filter fun p => decide (p.state = .shown)).any (fun p => decide (promptUrgency p.cls = 3) || p.escalated) = true :=
    List.any_eq_true.mpr ⟨p, List.mem_filter.mpr ⟨hp, decide_eq_true hshown⟩, by rw [hesc, Bool.or_true]⟩
  exact if_pos hany

/-- Settles O44. -/
theorem promptTimers : Obligations.PromptTimers := by
  intro k p s hagenda hfind
  refine ⟨fun e hstate hend => ⟨_, exec_settleEnd hfind hend, ?_⟩, fun hshown hnot hage =>
    ⟨_, exec_promptAgeEscalation hfind hshown (decide_eq_true hage), ?_⟩⟩
  · obtain ⟨hframe, hprompts, hcursor, hlamp⟩ := State.showPrompt_frame (s := s.reach e) hfind hstate
    have hsettle : ((s.reach e).showPrompt k).agenda = [] := by rw [hframe]; exact hagenda
    rw [State.settle_of_agenda hsettle]
    refine ⟨by rw [hframe]; rfl, hprompts, hcursor.trans ?_, hlamp, by rw [hframe]; rfl, by rw [hframe]; rfl, by rw [hframe]; rfl,
      by rw [hframe]; rfl⟩
    cases hc : s.panel.cursor <;> exact congrArg (cursorAfter k) hc
  · obtain ⟨hframe, hprompts, hcursor, hlamp⟩ := State.escalate_frame hfind hshown hnot
    have hsettle : (s.escalate k).agenda = [] := by rw [hframe]; exact hagenda
    have hfast : lampFor (s.escalate k).panel.prompts = .fast := by
      refine lampFor_of_escalated (p := { p with escalated := true }) ?_ hshown rfl
      rw [hprompts]
      exact List.mem_map.mpr ⟨p, State.mem_of_findPrompt hfind, if_pos (State.findPrompt_key hfind)⟩
    rw [State.settle_of_agenda hsettle]
    exact ⟨hprompts, hlamp.trans hfast, hcursor, by rw [hframe], by rw [hframe]; rfl, by rw [hframe]; rfl, by rw [hframe]; rfl⟩

end Sys2Proof.Machine

/-! SUPPORT. Orders: a completed GET from a slot, a retry, and the timers of an order. -/

namespace Sys2Proof.Machine

open Sys2Proof.Certificates

/-! ## Slots and cells as locations of an order -/

theorem State.locOnline_of_slot (n : Nat) (s : State) : s.locOnline (.slot n) = true := rfl

/-- An order at a slot concerns no claim. -/
theorem State.answered_of_slot {o : Order} {n : Nat} (h : o.loc = .slot n) (s : State) :
    s.answered o = s.modArm fun a => { a with inFlight := none } := by
  rw [State.answered, State.claimAnswered, h]
  rfl

theorem State.examineAlone_of_active {s : State} (h : s.sys.mode = .active) : s.examineAlone = s :=
  if_neg (by simp [h])

/-! ## A GET that completes -/

/-- The GET of a reel from a slot leaves it in the gripper, with its PUT next (R5, R72). -/
def State.gotFromSlot (m : Move) (ring : Bool) (s : State) : State :=
  (s.updEntry m.volume fun e => { e with state := .inGripper, ring := ring, unrecorded := false }).modArm fun a =>
    { a with inFlight := none, current := some { m with stage := .putNext } }

theorem State.gotFromSlot_destStands (m : Move) (ring : Bool) (s : State) : (s.gotFromSlot m ring).destStands m = s.destStands m := rfl

theorem State.gotFromSlot_moveReq (m : Move) (ring : Bool) (s : State) : (s.gotFromSlot m ring).moveReq m = s.moveReq m := rfl

theorem State.getEffects_of_slot {m : Move} {n : Nat} (ring : Bool) {s : State} (hm : s.arm.current = some m) (hsource : m.source = .slot n) :
    (s.modArm fun a => { a with inFlight := none }).getEffects m ring = s.gotFromSlot m ring := by
  simp only [State.getEffects, hsource, State.updCurrent, State.updEntry, State.modInv, State.modArm, State.gotFromSlot, hm,
    Option.map_some]

/-- Neither a cancel, an absent ring nor a lost destination redirects the PUT (R61, R54, R55, R77). -/
theorem State.afterGet_stands {m : Move} {ring : Bool} {s : State} (hcancel : s.moveCancelled m = false) (hstands : s.destStands m = true)
    (hring : (m.kind ≠ .mount ∧ m.kind ≠ .entryIn) ∨ ring = true ∨
      (∀ r q, m.req = some r → s.findReq r = some q → q.access = .read)) : s.afterGet m ring = s := by
  cases hq : s.moveReq m with
  | none => simp only [State.afterGet, hq, hstands, if_true]
  | some q =>
    have hpending : q.cancelPending = false := by simpa only [State.moveCancelled, hq] using hcancel
    have hpresent : ¬(q.access = .write ∧ ring = false ∧ (m.kind = .mount ∨ m.kind = .entryIn)) := by
      rintro ⟨hwrite, hnone, hkind⟩
      rcases hring with ⟨hmount, hentry⟩ | hring | hread
      · exact hkind.elim hmount hentry
      · exact Bool.noConfusion (hnone.symm.trans hring)
      · obtain ⟨r, hr, hfind⟩ := Option.bind_eq_some_iff.mp hq
        rw [hread r q hr hfind] at hwrite
        cases hwrite
    have hmount : ¬(q.access = .write ∧ ring = false ∧ m.kind = .mount ∧ m.source.isSlot = true) :=
      fun ⟨hwrite, hnone, hkind, _⟩ => hpresent ⟨hwrite, hnone, .inl hkind⟩
    have hentry : ¬(q.access = .write ∧ ring = false ∧ m.kind = .entryIn) :=
      fun ⟨hwrite, hnone, hkind⟩ => hpresent ⟨hwrite, hnone, .inr hkind⟩
    simp only [State.afterGet, hq, hpending, Bool.false_eq_true, false_and, if_false, if_neg hmount, if_neg hentry, hstands, if_true]

theorem State.gotFromSlot_accepted (m : Move) (ring : Bool) (x : Xfer) (s : State) :
    (s.accepted x).gotFromSlot m ring = (s.gotFromSlot m ring).accepted x := by
  rw [State.accepted_eq, State.accepted_eq]; rfl

theorem State.pushIssue_accepted (x : Xfer) {s : State} (h : s.agenda = []) :
    (s.accepted x).push .issue = ({ s with agenda := [.issue] } : State).accepted x := by
  rw [State.push_of_empty ((State.accepted_agenda x s).trans h), State.accepted_eq, State.accepted_eq]

section

variable {o : Order} {m : Move} {s : State}

theorem State.completeOrder_get {n : Nat} {ring : Bool} (hmode : s.sys.mode = .active) (hkind : o.kind = .get)
    (hloc : o.loc = .slot n) (hm : s.arm.current = some m) (hsource : m.source = .slot n) (hcancel : s.moveCancelled m = false)
    (hstands : s.destStands m = true)
    (hring : (m.kind ≠ .mount ∧ m.kind ≠ .entryIn) ∨ ring = true ∨
      (∀ r q, m.req = some r → s.findReq r = some q → q.access = .read)) :
    s.completeOrder o ring = (s.gotFromSlot m ring).push .issue := by
  have hentry : ¬m.source.isEntry = true := by rw [hsource]; exact Bool.false_ne_true
  have hafter : (s.gotFromSlot m ring).afterGet m ring = s.gotFromSlot m ring :=
    State.afterGet_stands (s := s.gotFromSlot m ring) hcancel hstands hring
  have hactive : ((s.gotFromSlot m ring).push .issue).sys.mode = .active := by rw [State.push_frame]; exact hmode
  have hdone : (s.modArm fun a => { a with inFlight := none }).getDone m ring = (s.gotFromSlot m ring).push .issue := by
    simp only [State.getDone, State.getEffects_of_slot ring hm hsource, if_neg hentry, hafter]
  simp only [State.completeOrder, State.answered_of_slot hloc, State.modArm_arm, hm, hkind, hdone]
  exact State.examineAlone_of_active hactive

theorem State.orderDone_get (ring : Bool) (hmode : s.sys.mode ≠ .init) (hleast : 1 ≤ o.number) (hmost : o.number ≤ 255)
    (ho : s.arm.inFlight = some o) (hkind : o.kind = .get) :
    s.orderDone o.number (some ring) = .ok ([], s.completeOrder o ring) := by
  rw [State.orderDone, State.answerOrder_inFlight hmode hleast hmost ho, hkind]

theorem State.orderDone_put (ring : Option Bool) (hmode : s.sys.mode ≠ .init) (hleast : 1 ≤ o.number) (hmost : o.number ≤ 255)
    (ho : s.arm.inFlight = some o) (hkind : o.kind = .put) :
    s.orderDone o.number ring = .ok ([], s.completeOrder o true) := by
  rw [State.orderDone, State.answerOrder_inFlight hmode hleast hmost ho, hkind]

end

@[simp] theorem State.accepted_moveCancelled (m : Move) (x : Xfer) (s : State) : (s.accepted x).moveCancelled m = s.moveCancelled m := by
  rw [State.accepted_eq]; rfl
@[simp] theorem State.accepted_destStands (m : Move) (x : Xfer) (s : State) : (s.accepted x).destStands m = s.destStands m := by
  rw [State.accepted_eq]; rfl

/-- Settles O22. -/
theorem orderDoneOnAGet : Obligations.OrderDoneOnAGet := by
  intro x o m ring n s hready hmode hpart hleast hmost ho hkind hloc hm hsource hcancel hstands hring
  have hmode' : (s.accepted x).sys.mode = .active := by rwa [State.accepted_sys]
  have hdone := State.orderDone_get (s := s.accepted x) ring (by rw [hmode']; decide) hleast hmost
    (by rwa [State.accepted_arm]) hkind
  rw [State.completeOrder_get (s := s.accepted x) hmode' hkind hloc (by rwa [State.accepted_arm]) hsource
    (by rwa [State.accepted_moveCancelled]) (by rwa [State.accepted_destStands])
    (by simpa only [State.accepted_findReq] using hring), State.gotFromSlot_accepted,
    State.pushIssue_accepted (s := s.gotFromSlot m ring) x hready.2.1] at hdone
  rw [exec_orderDone, State.host_settled hready (modeCheck_standalone _) hdone (asksLast_of_short hpart (by decide))]
  rfl

/-! ## A retry -/

/-- A retry of an order at a slot: its pause runs, and the Arm Retry Counter has risen (R73). -/
def State.retried (s : State) : State := s.modArm fun a =>
  { a with inFlight := none, retryEnd := some (s.sys.clock + 1000 * s.sys.startup.retryPause), retryCounter := a.retryCounter + 1 }

theorem State.orderFails_retried {o : Order} {m : Move} {n : Nat} {s : State} (hloc : o.loc = .slot n) (hcancel : s.moveCancelled m = false)
    (hcount : s.arm.retryCounter < 16) : (s.modArm fun a => { a with inFlight := none }).orderFails o m .retryable =
      if s.arm.retryCounter = 15 then s.retried.report (.retryFull o.number m.kind m.volume) else s.retried := by
  have hcancel' : (s.modArm fun a => { a with inFlight := none }).moveCancelled m = false := hcancel
  have hmay : (s.modArm fun a => { a with inFlight := none }).mayRetry o m = true := by
    simp [State.mayRetry, hcancel', hloc, State.locOnline_of_slot, Config.retryLimit, hcount]
  have hrise : satAdd Config.retryLimit s.arm.retryCounter 1 = s.arm.retryCounter + 1 := by
    simp only [satAdd, Config.retryLimit]; omega
  simp only [State.orderFails, hmay, if_true, State.retry, State.modArm_arm, hrise]
  have hfull : (s.arm.retryCounter < Config.retryLimit ∧ s.arm.retryCounter + 1 = Config.retryLimit) ↔ s.arm.retryCounter = 15 := by
    simp only [Config.retryLimit]; omega
  simp only [hfull]
  rfl

theorem failOf_retryable {k : OrderKind} {r : FaultReason} (h : r = .blocked ∨ r = .gripper) : failOf k r = some .retryable := by
  rcases h with rfl | rfl <;> cases k <;> rfl

theorem State.retried_accepted (x : Xfer) (s : State) : (s.accepted x).retried = s.retried.accepted x := by
  rw [State.accepted_eq, State.accepted_eq]; rfl

/-- Settles O24. -/
theorem retryableFaultStartsThePause : Obligations.RetryableFaultStartsThePause := by
  intro x o m reason n s hready hmode hpart hleast hmost ho hloc hm hcancel hreason hcount
  have harm : (s.accepted x).arm = s.arm := State.accepted_arm x s
  have hmode' : (s.accepted x).sys.mode = .active := by rwa [State.accepted_sys]
  set t := if s.arm.retryCounter = 15 then s.retried.report (.retryFull o.number m.kind m.volume) else s.retried with ht
  have hagenda : t.agenda = [] := by
    rw [ht]
    split
    · exact hready.2.1
    · exact hready.2.1
  have hactive : (t.accepted x).sys.mode = .active := by
    rw [State.accepted_sys, ht]
    split
    · exact hmode
    · exact hmode
  have hfails : ((s.accepted x).modArm fun a => { a with inFlight := none }).orderFails o m .retryable = t.accepted x := by
    rw [State.orderFails_retried hloc (by rwa [State.accepted_moveCancelled]) (by rwa [harm]), State.retried_accepted,
      State.report_accepted, harm, ht]
    split
    · rfl
    · rfl
  have hfault : (s.accepted x).orderFault o.number (some reason) = .ok ([], t.accepted x) := by
    rw [State.orderFault, State.answerOrder_inFlight (by rw [hmode']; decide) hleast hmost (by rwa [harm]), Option.bind_some,
      failOf_retryable hreason]
    simp only [State.faultOrder, State.answered_of_slot hloc, State.modArm_arm, harm, hm, hfails, State.examineAlone_of_active hactive]
  rw [exec_orderFault, State.host_silent hready hpart (modeCheck_standalone _) hfault hagenda]
  rfl

/-! ## The timers of an order -/

theorem Order.reaches_of {o : Order} {since : Nat} (h : o.runFrom = some since) (n : Nat) : o.reaches n = some (since + (n - o.counted)) := by
  rw [Order.reaches, h]; rfl

theorem exec_orderSlow {o : Order} {since : Nat} {s : State} (ho : s.arm.inFlight = some o) (hrun : o.runFrom = some since) :
    exec .orderSlow s = .next (if o.slow then s else (s.reach (since + (expectedMs s.cfg o.route - o.counted))).slow o) := by
  have hexec : exec .orderSlow s = .next (match s.arm.inFlight with
    | none => s
    | some o =>
      match o.reaches (expectedMs s.cfg o.route) with
      | none => s
      | some e => if o.slow then s else (s.reach e).slow o) := rfl
  rw [hexec, ho]
  simp only [Order.reaches_of hrun]

theorem exec_orderTimeout {o : Order} {since : Nat} {s : State} (ho : s.arm.inFlight = some o) (hrun : o.runFrom = some since) :
    exec .orderTimeout s = .next ((s.reach (since + (limitMs s.cfg o.route - o.counted))).timeOut o).settle := by
  have hexec : exec .orderTimeout s = .next (match s.arm.inFlight with
    | none => s
    | some o =>
      match o.reaches (limitMs s.cfg o.route) with
      | none => s
      | some e => ((s.reach e).timeOut o).settle) := rfl
  rw [hexec, ho]
  simp only [Order.reaches_of hrun]

theorem exec_retryPauseEnd {e : Nat} {s : State} (h : s.arm.retryEnd = some e) :
    exec .retryPauseEnd s = .next (((s.reach e).modArm fun a => { a with retryEnd := none }).push .issue).settle := by
  have hexec : exec .retryPauseEnd s = .next (match s.arm.retryEnd with
    | none => s
    | some e => (((s.reach e).modArm fun a => { a with retryEnd := none }).push .issue).settle) := rfl
  rw [hexec, h]

theorem State.withAgenda_self {s : State} (h : s.agenda = []) : s.withAgenda [] = s := by rw [State.withAgenda, ← h]

/-- The one consequence that waits, when it leads to no other. -/
theorem State.settle_of_single {w : Work} {s : State} (h : s.agenda = [w]) (hlast : ((s.withAgenda []).doWork w).agenda = []) :
    s.settle = (s.withAgenda []).doWork w := by
  have hone : State.drain Config.settleFuel s = (s.withAgenda []).doWork w := by
    unfold Config.settleFuel State.drain
    rw [h]
    dsimp only
    unfold State.drain
    rw [hlast]
  rw [State.settle, hone, State.withAgenda_self hlast]

/-- A GET of the current move from a slot, to a slot or a cell, may be issued in ACTIVE with the bay NORMAL (R69). -/
theorem State.mayGet_of_slot {m : Move} {n : Nat} {s : State} (hmode : s.sys.mode = .active) (hbay : s.inv.bay = .normal)
    (hsource : m.source = .slot n) (hdest : ∃ k, m.dest = .slot k ∨ m.dest = .entry k) : s.mayGet m = true := by
  obtain ⟨k, hslot | hcell⟩ := hdest
  · simp [State.mayGet, hmode, State.bayAllows, hbay, hsource, hslot, State.locOnline, State.locHeld, State.locRes, State.locQuiet,
      State.cradleFree]
  · simp [State.mayGet, hmode, State.bayAllows, hbay, hsource, hcell, State.locOnline, State.locHeld, State.locRes, State.locQuiet,
      State.cradleFree]

/-- The GET order of a move in the Order Slot (R70). -/
def State.getOrder (m : Move) (s : State) : Order :=
  { number := nextOrder s.arm.lastOrder, kind := .get, loc := m.source, volume := m.volume, route := routeOf m.source m.dest,
    taken := false, counted := 0, runFrom := none, slow := false }

theorem State.issueOrder_get (m : Move) (s : State) : s.issueOrder .get m = s.modArm fun a =>
    { a with lastOrder := nextOrder a.lastOrder, inFlight := some (s.getOrder m), current := some { m with stage := .get } } := rfl

/-- The GET of the current move goes into the Order Slot (R70). -/
theorem State.issue_current_get {m : Move} {s : State} (ho : s.arm.inFlight = none) (hretry : s.arm.retryEnd = none)
    (hm : s.arm.current = some m) (hstage : m.stage = .get) (hmay : s.mayGet m = true) : s.issue = s.issueOrder .get m := by
  simp [State.issue, ho, hretry, hm, hstage, hmay]

/-- Settles O26. -/
theorem orderTimers : Obligations.OrderTimers := by
  refine ⟨fun o m since s hagenda ho hm hrun => ⟨fun hfirst => ?slow, fun hagain => ?again, ?timeout⟩,
    fun e n m s hagenda hend ho hm hstage hsource hmode hbay hdest => ?pause⟩
  case slow =>
    rw [exec_orderSlow ho hrun, hfirst, if_neg Bool.false_ne_true, State.slow]
    simp only [State.reach, State.modSys, hm, State.modArm, ho]
    rfl
  case again => rw [exec_orderSlow ho hrun, hagain, if_pos rfl]
  case timeout =>
    intro n hslow hloc hcancel hcount hmode
    set t := s.reach (since + (limitMs s.cfg o.route - o.counted))
    have hfails : (t.modArm fun a => { a with inFlight := none }).orderFails o m .retryable = t.retried := by
      rw [State.orderFails_retried (s := t) hloc hcancel (hcount.trans (by decide))]
      exact if_neg (ne_of_lt hcount)
    have hout : t.timeOut o = t.retried := by
      have hcurrent : t.arm.current = some m := hm
      simp only [State.timeOut, hslow, if_true, State.answered_of_slot hloc, State.modArm_arm, hcurrent, hfails,
        State.examineAlone_of_active (s := t.retried) hmode]
    rw [exec_orderTimeout ho hrun, hout, State.settle_of_agenda (s := t.retried) hagenda]
    rfl
  case pause =>
    set t := (s.reach e).modArm fun a => { a with retryEnd := none } with ht
    have hissue : t.issue = t.issueOrder .get m :=
      State.issue_current_get ho rfl hm hstage (State.mayGet_of_slot (s := t) hmode hbay hsource hdest)
    have hself : ({ t with agenda := [.issue] } : State).withAgenda [] = t := by
      rw [State.withAgenda, ← show t.agenda = [] from hagenda]
    have hwork : (({ t with agenda := [.issue] } : State).withAgenda []).doWork .issue = t.issueOrder .get m := by rw [hself]; exact hissue
    have hsettle : ({ t with agenda := [.issue] } : State).settle = t.issueOrder .get m := by
      rw [State.settle_of_single rfl (by rw [hwork]; exact hagenda), hwork]
    rw [exec_retryPauseEnd hend, ← ht, State.push_of_empty (s := t) hagenda, hsettle, State.issueOrder_get, State.getOrder, hsource]
    rfl

end Sys2Proof.Machine

/-! SUPPORT. The Line Fault Score and the line state: the rules of a change of line state, and the attempts that make it. -/

namespace Sys2Proof.Machine

open Sys2Proof.Certificates

/-! ## A change of line state -/

theorem kept_enterLine (new : LineState) (s : State) : (s.enterLine new).kept =
    { s.kept with goodFrames := (s.enterLine new).line.goodFrames, quietEnd := (s.enterLine new).line.quietEnd } := by
  have hclear (cause : UndelCause) : ((s.clearTx cause).dropHolds).kept = s.kept := by rw [State.kept_dropHolds, State.kept_clearTx]
  have hself {t : State} (h : t.kept = s.kept) : t.kept = { s.kept with goodFrames := t.line.goodFrames, quietEnd := t.line.quietEnd } := by
    rw [← h]; rfl
  cases new with
  | muted => exact hself (State.kept_flushTx ..)
  | detached => rw [← hclear .detached]; rfl
  | duplicate => rw [← hclear .duplicate]; rfl
  | listen => rfl
  | clear => rfl
  | caution => rfl

theorem State.kept_withCondition (f : State → State) (s : State) :
    (s.withCondition f).kept = { (f s).kept with presenceEnd := (s.withCondition f).line.presenceEnd } := by
  have h := keptButPresence_withCondition f s
  simp only [keptButPresence, Kept.mk.injEq] at h
  rw [← show (s.withCondition f).kept.presenceEnd = (s.withCondition f).line.presenceEnd from rfl]
  revert h
  cases (s.withCondition f).kept
  cases (f s).kept
  simp +contextual

theorem State.kept_changeLine (new : LineState) (s : State) : (s.changeLine new).kept = { s.kept with
    lineState := new, goodFrames := (s.changeLine new).line.goodFrames, quietEnd := (s.changeLine new).line.quietEnd,
    presenceEnd := (s.changeLine new).line.presenceEnd } := by
  have h : (s.changeLine new).kept = {
      (((((s.inLine new).enterLine new).report (.line s.line.state new s.line.score)).push .plan).push .handoffTest).kept with
        presenceEnd := (s.changeLine new).line.presenceEnd } := State.kept_withCondition _ s
  rw [State.kept_push, State.kept_push, State.kept_report, kept_enterLine] at h
  change (s.changeLine new).kept = { s.kept with
    lineState := new, goodFrames := (s.changeLine new).kept.goodFrames, quietEnd := (s.changeLine new).kept.quietEnd,
    presenceEnd := (s.changeLine new).line.presenceEnd }
  rw [h]
  rfl

/-- In ACTIVE, and no RESTART under way, a change of line state goes no further than its entry (R92). -/
theorem State.setLine_active {new : LineState} {s : State} (hmode : s.sys.mode = .active) (hrestart : s.sys.restartPending = false) :
    (s.setLine new).kept = { s.kept with
      lineState := new, goodFrames := (s.setLine new).line.goodFrames, quietEnd := (s.setLine new).line.quietEnd,
      presenceEnd := (s.setLine new).line.presenceEnd } := by
  by_cases hsame : new = s.line.state
  · have hstays : s.setLine new = s := if_pos hsame
    rw [hstays, hsame]
    rfl
  · have hchanges : s.setLine new = s.changeLine new := by
      have hjoining : ¬(s.sys.mode = .joining ∧ (s.line.txq.any fun m => decide (m.tag = .joining)) = true) := by simp [hmode]
      unfold State.setLine
      dsimp only
      rw [if_neg hsame, hrestart, if_neg Bool.false_ne_true, if_neg hjoining]
      split <;> rfl
    rw [hchanges]
    exact State.kept_changeLine new s

/-- The state that follows the score is the one of R92's table. -/
theorem nextLine_eq {held : LineState} (h : held ≠ .listen ∧ held ≠ .duplicate) (n : Nat) : nextLine held n = lineByScore held n := by
  cases held with
  | listen => exact absurd rfl h.1
  | duplicate => exact absurd rfl h.2
  | detached => rfl
  | clear => simp [nextLine, lineByScore]
  | caution =>
    simp only [nextLine, lineByScore, reduceCtorEq, false_or, false_and, or_false, true_and]
    split_ifs <;> first | rfl | omega
  | muted =>
    simp only [nextLine, lineByScore, reduceCtorEq, false_or, true_and, true_or, or_true, if_true]
    split_ifs <;> first | rfl | omega

/-- The score with its line state, and what they leave of the line's own counters (R91, R92). -/
theorem State.score_active {f : Nat → Nat} {s : State} (hmode : s.sys.mode = .active) (hrestart : s.sys.restartPending = false)
    (h : Scored s) : (s.score f).line.score = f s.line.score ∧ (s.score f).line.state = lineByScore s.line.state (f s.line.score) ∧
      (s.score f).line.errors = s.line.errors ∧ (s.score f).line.errOverflow = s.line.errOverflow := by
  have hscore : s.score f = (s.modLine fun l => { l with score := f s.line.score }).setLine (nextLine s.line.state (f s.line.score)) := by
    unfold State.score
    split
    · next hl => exact absurd hl h.1
    · next hl => exact absurd hl h.2
    · rfl
  have hset := State.setLine_active (new := nextLine s.line.state (f s.line.score))
    (s := s.modLine fun l => { l with score := f s.line.score }) hmode hrestart
  rw [← hscore] at hset
  exact ⟨congrArg Kept.score hset, (congrArg Kept.lineState hset).trans (nextLine_eq h _), congrArg Kept.errors hset,
    congrArg Kept.errOverflow hset⟩

theorem State.score_unscored {f : Nat → Nat} {s : State} (h : ¬Scored s) : s.score f = s := by
  unfold State.score
  split
  · rfl
  · rfl
  · next hlisten hduplicate => exact absurd ⟨hlisten, hduplicate⟩ h

/-! ## The ends of attempts -/

theorem exec_badFrame {s : State} (h : s.sys.mode ≠ .init) : exec .badFrame s = .next s.badFrame.settle := congrArg _ (if_neg h)
theorem exec_transmitFault (s : State) : exec .transmitFault s = .next (s.failAttempt 8).settle := rfl
theorem exec_attemptWitnessed (s : State) : exec .attemptWitnessed s = .next s.attemptWitnessed.settle := rfl
theorem exec_attemptUnwitnessed (s : State) :
    exec .attemptUnwitnessed s = .next (s.failAttempt (if s.anyPresent then 4 else 0)).settle := rfl

theorem State.anyPresent_iff (s : State) : s.anyPresent = true ↔ ∃ e ∈ s.line.roster, e.state = .present := by
  simp [State.anyPresent]

section

variable {m : TxMsg} {rest : List TxMsg} {s : State}

theorem State.onLine_of_head (h : HeadOnLine m rest s) : s.onLine = some m := by
  rw [State.onLine, h.queue, List.find?_cons_of_pos (by exact h.onLine)]

theorem State.kept_attemptFailed (hplain : m.tag = .plain) (s : State) : (s.attemptFailed m).kept = s.kept := by
  unfold State.attemptFailed
  rw [hplain]
  dsimp only
  split
  · rw [State.kept_ownerWithdrawn, State.kept_dropOnLine]
  · split
    · exact State.kept_keepOnLine ..
    · rw [if_neg (by decide), State.kept_attemptsOut, State.kept_dropOnLine]

/-- What of the line an attempt's end leaves before the score follows it. -/
structure SameLine (s t : State) : Prop where
  sys : t.sys = s.sys
  state : t.line.state = s.line.state
  score : t.line.score = s.line.score

theorem sameLine_of_kept {s t : State} (h : t.kept = s.kept) : SameLine s t :=
  ⟨congrArg Kept.sys h, congrArg Kept.lineState h, congrArg Kept.score h⟩

theorem SameLine.scored {t : State} (h : SameLine s t) : Scored t ↔ Scored s := by unfold Scored; rw [h.state]

/-- An ordinary message's attempt ends: its own outcome leaves the line, and the score follows unless the line is in LISTEN. -/
theorem State.attempt_ends (h : HeadOnLine m rest s) :
    (∃ t, SameLine s t ∧ s.attemptWitnessed = if s.line.state = .listen then t else t.score fun n => n - 1) ∧
    ∀ k, ∃ t, SameLine s t ∧ s.failAttempt k = if s.line.state = .listen then t else t.score (raise_ k) := by
  have hon := State.onLine_of_head h
  have hplain : m.tag = .plain := h.plain
  have htag : (m.tag = .leaving ∨ s.line.state = .listen) ↔ s.line.state = .listen := by rw [hplain]; simp
  refine ⟨⟨s.dropOnLine.ownerWitnessed m.msg, sameLine_of_kept ?_, ?_⟩, fun k => ⟨s.attemptFailed m, sameLine_of_kept ?_, ?_⟩⟩
  · rw [State.kept_ownerWitnessed, State.kept_dropOnLine]
  · have hsettled : s.dropOnLine.settled m = s.dropOnLine.ownerWitnessed m.msg := by rw [State.settled, hplain]
    simp only [State.attemptWitnessed, hon, htag, hsettled]
  · exact State.kept_attemptFailed hplain s
  · simp only [State.failAttempt, hon, htag]

end

theorem raise_eq (k n : Nat) : raise_ k n = min 127 (n + k) := rfl

/-- The consequences of an event leave the line's own counters. -/
theorem State.line_of_settle (s : State) : s.settle.line.score = s.line.score ∧ s.settle.line.state = s.line.state ∧
    s.settle.line.errors = s.line.errors ∧ s.settle.line.errOverflow = s.line.errOverflow := by
  have h := State.kept_settle s
  exact ⟨congrArg Kept.score h, congrArg Kept.lineState h, congrArg Kept.errors h, congrArg Kept.errOverflow h⟩

/-- A bad frame counted, before the score follows it (R94, R97). -/
def State.errorCounted (s : State) : State := s.modLine fun l =>
  { l with errors := satAdd Config.max8 l.errors 1, errOverflow := l.errOverflow || decide (l.errors = Config.max8),
           quietEnd := if l.state = .detached then some (s.sys.clock + 8 * s.periodMs) else l.quietEnd }

theorem State.badFrame_eq (s : State) : s.badFrame = s.errorCounted.score (raise_ 1) := rfl

/-- Settles O48: an attempt's own outcome leaves score and line state, then the score takes its change and the state follows by the
table. -/
theorem lineStateFollowsTheScore : Obligations.LineStateFollowsTheScore := by
  intro m rest s hagenda hmode hrestart becomes
  have hrun : s.sys.mode ≠ .init := by rw [hmode]; decide
  have hbad := exec_badFrame hrun
  have becomes_of {c : Instr} {f : Nat → Nat} {t u : State} (hexec : exec c s = .next u.settle) (hu : u = t.score f) (hsame : SameLine s t)
      (hscored : Scored s) : becomes c (f s.line.score) := by
    obtain ⟨hscore, hstate, -, -⟩ := State.score_active (f := f) (s := t) (by rwa [hsame.sys]) (by rwa [hsame.sys])
      (hsame.scored.mpr hscored)
    obtain ⟨hscore', hstate', -, -⟩ := u.line_of_settle
    rw [hsame.score, hsame.state] at *
    exact ⟨_, hexec, by rw [hscore', hu, hscore], by rw [hstate', hu, hstate]⟩
  refine ⟨⟨_, hbad, ?errors⟩, fun hscored hle => ⟨?bad, fun hhead => ⟨?fault, ?witnessed, ?unwitnessed⟩⟩, fun hfixed c hc hhead => ?fixed⟩
  case errors =>
    obtain ⟨-, -, herrors, hover⟩ := s.badFrame.line_of_settle
    rw [herrors, hover, State.badFrame_eq]
    by_cases hscored : Scored s.errorCounted
    · obtain ⟨-, -, herrors, hover⟩ := State.score_active (f := raise_ 1) (s := s.errorCounted) hmode hrestart hscored
      rw [herrors, hover]
      exact ⟨rfl, rfl⟩
    · rw [State.score_unscored hscored]
      exact ⟨rfl, rfl⟩
  case bad => exact becomes_of (f := raise_ 1) hbad s.badFrame_eq ⟨rfl, rfl, rfl⟩ hscored
  case fault =>
    obtain ⟨t, hsame, hends⟩ := (State.attempt_ends hhead).2 8
    exact becomes_of (exec_transmitFault s) (hends.trans (if_neg hscored.1)) hsame hscored
  case witnessed =>
    obtain ⟨t, hsame, hends⟩ := (State.attempt_ends hhead).1
    exact becomes_of (f := fun n => n - 1) (exec_attemptWitnessed s) (hends.trans (if_neg hscored.1)) hsame hscored
  case unwitnessed =>
    obtain ⟨t, hsame, hends⟩ := (State.attempt_ends hhead).2 (if s.anyPresent then 4 else 0)
    have hbecomes := becomes_of (exec_attemptUnwitnessed s) (hends.trans (if_neg hscored.1)) hsame hscored
    have hrise : raise_ (if s.anyPresent = true then 4 else 0) s.line.score =
        if ∃ e ∈ s.line.roster, e.state = .present then min 127 (s.line.score + 4) else s.line.score := by
      rw [raise_eq]
      by_cases hany : s.anyPresent = true
      · rw [if_pos hany, if_pos (s.anyPresent_iff.mp hany)]
      · rw [if_neg hany, if_neg (mt s.anyPresent_iff.mpr hany)]
        omega
    rwa [hrise] at hbecomes
  case fixed =>
    have fixed_of {c : Instr} {u : State} (hexec : exec c s = .next u.settle) (hsame : SameLine s u) :
        ∃ t, exec c s = .next t ∧ t.line.score = s.line.score ∧ t.line.state = s.line.state := by
      obtain ⟨hscore, hstate, -, -⟩ := u.line_of_settle
      exact ⟨_, hexec, hscore.trans hsame.score, hstate.trans hsame.state⟩
    have stays {f : Nat → Nat} {t : State} (hsame : SameLine s t) : SameLine s (if s.line.state = .listen then t else t.score f) := by
      rw [State.score_unscored (mt hsame.scored.mp hfixed), ite_self]
      exact hsame
    have hhead' (h : c ≠ .badFrame) : HeadOnLine m rest s := hhead.resolve_left h
    simp only [List.mem_cons, List.not_mem_nil, or_false] at hc
    rcases hc with rfl | rfl | rfl | rfl
    · refine fixed_of hbad ?_
      rw [State.badFrame_eq, State.score_unscored (s := s.errorCounted) hfixed]
      exact ⟨rfl, rfl, rfl⟩
    · obtain ⟨t, hsame, hends⟩ := (State.attempt_ends (hhead' (by decide))).2 8
      exact fixed_of (exec_transmitFault s) (hends ▸ stays hsame)
    · obtain ⟨t, hsame, hends⟩ := (State.attempt_ends (hhead' (by decide))).1
      exact fixed_of (exec_attemptWitnessed s) (hends ▸ stays hsame)
    · obtain ⟨t, hsame, hends⟩ := (State.attempt_ends (hhead' (by decide))).2 (if s.anyPresent then 4 else 0)
      exact fixed_of (exec_attemptUnwitnessed s) (hends ▸ stays hsame)

end Sys2Proof.Machine

/-! SUPPORT. The roster and the line: frames of a PRESENT peer, the recovery and the presence timer. -/

namespace Sys2Proof.Machine

open Sys2Proof.Certificates

/-! ## Frames of a PRESENT peer -/

theorem State.reach_eq_clockAt (e : Nat) (s : State) : s.reach e = clockAt e s := rfl

/-- A roster entry that is PRESENT stands in the roster. -/
theorem State.lt_roster_of_present {p : Nat} {s : State} (h : (s.rosterAt p).state = .present) : p < s.line.roster.length := by
  by_contra hlt
  have hnone : s.rosterAt p = .unknown := List.getD_eq_default _ _ (by omega)
  rw [hnone] at h
  exact absurd h (by decide)

theorem State.updRoster_frame (p : Nat) (f : RosterEntry → RosterEntry) (s : State) :
    s.updRoster p f = { s with line := { s.line with roster := s.line.roster.set p (f (s.rosterAt p)) } } := rfl

/-- A good frame of a PRESENT peer restarts its absence timer and changes nothing else (R98). -/
theorem State.credit_present {p : Nat} {s : State} (h : (s.rosterAt p).state = .present) : s.credit p = credited p s := by
  have hms (n : Nat) : 3 * (1000 * n) = 3000 * n := by omega
  cases hpresence : (s.rosterAt p).presence with
  | none => simp only [State.credit, h, if_true, State.updRoster_frame, credited, hms, State.cfg, hpresence]
  | some b => simp only [State.credit, h, if_true, State.updRoster_frame, credited, hms, hpresence]

section

variable {p : Nat} {s : State}

theorem hearsPeer_self_ne (h : HearsPeer p s) : p ≠ s.self := h.other.2

/-- The frame of a PRESENT peer, outside DETACHED, is delivered on the state that its credit leaves, unless it is a PRESENCE, which makes
the credit itself (R84, R98). -/
theorem hearsPeer_hear (h : HearsPeer p s) (presence : Bool) (deliver : State → State) :
    s.hear p true presence deliver = (deliver (if presence then s else credited p s)).settle := by
  have hrun : s.sys.mode ≠ .init := by rw [h.mode]; decide
  have hattached (t : State) (ht : t.line.state = s.line.state) : decide (t.line.state = .detached) = false := by
    rw [ht]
    rcases h.line with hl | hl <;> rw [hl] <;> rfl
  have hcredited : (credited p s).line.state = s.line.state := rfl
  rw [State.hear, if_neg hrun, if_pos (by simp [h.other.1]), State.takeFrame, if_neg (hearsPeer_self_ne h), State.credit_present h.present]
  cases presence with
  | true => simp [hattached s rfl]
  | false => simp [hattached _ hcredited]

theorem hearsPeer_permits (h : HearsPeer p s) (k : MsgKind) : s.permits k = true := by
  rcases h.line with hl | hl <;> simp [State.permits, hl]

end

/-! ## Roster -/

theorem State.kept_updRoster (p : Nat) (f : RosterEntry → RosterEntry) (s : State) :
    (s.updRoster p f).kept = { s.kept with roster := s.line.roster.set p (f (s.rosterAt p)) } := rfl

theorem State.kept_peerGone (p : Nat) (s : State) : (s.peerGone p).kept =
    { s.kept with roster := s.line.roster.set p { s.rosterAt p with state := .absent, absentAt := none } } := by
  rw [State.peerGone]
  dsimp only
  rw [State.kept_push, State.kept_exchangeAbsent, State.kept_claimAbsent, State.kept_report, State.kept_updRoster]

/-- What a roster entry becomes when it hears a PRESENCE while PRESENT (R98, R99). -/
def heardEntry (b : PresenceBody) (s : State) : RosterEntry :=
  { state := .present, presence := some b, lastHeard := some s.acct.stationTime, absentAt := some (s.sys.clock + 3000 * b.period) }

theorem State.credit_heard {p : Nat} {b : PresenceBody} {s : State} (h : (s.rosterAt p).state = .present) :
    (s.updRoster p fun e => { e with presence := some b }).credit p =
      { s with line := { s.line with roster := s.line.roster.set p (heardEntry b s) } } := by
  have hat (e : RosterEntry) : (s.line.roster.set p e).getD p .unknown = e := by
    rw [List.getD_eq_getElem _ _ (by simpa using State.lt_roster_of_present h), List.getElem_set_self]
  have hrosterAt (f : RosterEntry → RosterEntry) : (s.updRoster p f).rosterAt p = f (s.rosterAt p) := hat _
  rw [State.credit_present (by rw [hrosterAt]; exact h), credited, hrosterAt]
  simp only [State.updRoster_frame, heardEntry, List.set_set, h]

theorem kept_hearPresence {p : Nat} {b : PresenceBody} {s : State} (h : (s.rosterAt p).state = .present) :
    (s.hearPresence b p).kept = { s.kept with roster := s.line.roster.set p (if b.condition = .leaving
      then { state := .absent, presence := some b, lastHeard := some s.acct.stationTime, absentAt := none } else heardEntry b s) } := by
  rw [State.hearPresence, State.credit_heard h]
  set t := State.neighbourHeard p (presenceDiffers (s.rosterAt p).presence b)
    { s with line := { s.line with roster := s.line.roster.set p (heardEntry b s) } } with ht
  have hkept : t.kept = { s.kept with roster := s.line.roster.set p (heardEntry b s) } := by
    rw [ht, State.kept_neighbourHeard]
    rfl
  have hroster : t.line.roster = s.line.roster.set p (heardEntry b s) := congrArg Kept.roster hkept
  dsimp only
  by_cases hleaving : b.condition = .leaving
  · have hat : t.rosterAt p = heardEntry b s := by
      rw [State.rosterAt, hroster, List.getD_eq_getElem _ _ (by simpa using State.lt_roster_of_present h), List.getElem_set_self]
    rw [if_pos hleaving, if_pos hleaving, State.kept_peerGone, hat, hroster, List.set_set, hkept]
    rfl
  · rw [if_neg hleaving, if_neg hleaving, hkept]

/-! ## The events -/

theorem exec_presenceHeard {b : PresenceBody} (hb : presenceOk b = true) (p : Nat) (s : State) :
    exec (.presenceHeard p b) s = .next (s.hear p true true fun t => t.hearPresence b p) := by
  change Host.Outcome.next (s.hear p (presenceOk b) true fun t => t.hearPresence b p) = _
  rw [hb]

theorem exec_peerAbsent {p e : Nat} {s : State} (hpresent : (s.rosterAt p).state = .present) (hat : (s.rosterAt p).absentAt = some e) :
    exec (.peerAbsent p) s = .next ((s.reach e).peerGone p).settle := by
  change Host.Outcome.next (match (s.rosterAt p).absentAt with
    | none => s
    | some e => if s.isPresent p then ((s.reach e).peerGone p).settle else s) = _
  rw [hat, State.isPresent, hpresent]
  rfl

theorem exec_presenceTimerExpiry {e : Nat} {s : State} (h : s.line.presenceEnd = some e) :
    exec .presenceTimerExpiry s = .next (((s.reach e).askPresence .plain).startPresence).settle := by
  change Host.Outcome.next (match s.line.presenceEnd with
    | none => s
    | some e => (((s.reach e).askPresence .plain).startPresence).settle) = _
  rw [h]

theorem exec_detachedRecovery {e : Nat} {s : State} (hstate : s.line.state = .detached) (hquiet : s.line.quietEnd = some e) :
    exec .detachedRecovery s = .next ((if 32 ≤ s.line.goodFrames then s else s.reach e).recover).settle := by
  change Host.Outcome.next (if s.line.state = .detached then
      match s.line.quietEnd with
      | some e => ((if Config.recoveryFrames ≤ s.line.goodFrames then s else s.reach e).recover).settle
      | none => s
    else s) = _
  rw [if_pos hstate, hquiet]
  rfl

/-- Settles O50: a PRESENCE and an absence change the roster entry alone, and the presence timer queues its message. -/
theorem peersComeAndGo : Obligations.PeersComeAndGo := by
  intro p s
  refine ⟨fun b hp hb => ⟨_, (exec_presenceHeard hb p s).trans (congrArg _ (hearsPeer_hear hp true _)), ?_⟩,
    fun e _ hpresent hat => ⟨_, exec_peerAbsent hpresent hat, ?_⟩, ?timer⟩
  · rw [State.kept_settle]
    exact kept_hearPresence hp.present
  · rw [State.kept_settle, State.kept_peerGone]
    rfl
  case timer =>
    intro e hagenda hend hcan hnone hyield t m
    rw [exec_presenceTimerExpiry hend, State.askPresence_queued (s := s.reach e) hcan hnone hyield hagenda]
    rfl

theorem State.kept_recover (s : State) : s.recover.kept = { s.kept with
    lineState := .clear, score := 0, goodFrames := 0, quietEnd := none, presenceEnd := some (s.sys.clock + s.periodMs) } := by
  set u := ((((s.modLine fun l => { l with score := 0, state := .clear, goodFrames := 0, quietEnd := none }).report
    (.line .detached .clear 0)).push .settleDropped).push .plan).askPresence .joining with hu
  have hkept : u.kept = { s.kept with lineState := .clear, score := 0, goodFrames := 0, quietEnd := none } := by
    rw [hu, State.kept_askPresence, State.kept_push, State.kept_push, State.kept_report]
    rfl
  have hsys : u.sys = s.sys := congrArg Kept.sys hkept
  change u.startPresence.kept = _
  rw [State.kept_startPresence, hkept, State.periodMs, State.cfg, hsys]
  rfl

/-- Settles O49: the frame that is broken off, the recovery, and the frame with this station's own number. -/
theorem framesThatChangeTheLine : Obligations.FramesThatChangeTheLine := by
  intro s hagenda
  refine ⟨rfl, fun e hstate hquiet => ⟨_, exec_detachedRecovery hstate hquiet, ?recovered⟩,
    fun b hb hself hmode hrestart hnone => ⟨_, exec_presenceHeard hb _ s, ?own⟩⟩
  case recovered =>
    dsimp only
    rw [State.kept_settle, State.kept_recover]
    split <;> rfl
  case own =>
    have hrun : s.sys.mode ≠ .init := by rw [hmode]; decide
    have hquiet : s.line.txq.any TxMsg.onLine = false := by
      rw [List.any_eq_false]
      intro m hm
      simp [hnone m hm]
    have hheard (deliver : State → State) : s.hear s.sys.startup.stationNumber true true deliver = (s.setLine .duplicate).settle := by
      rw [State.hear, if_neg hrun, if_pos (by simp [hself]), State.takeFrame, if_pos (show s.sys.startup.stationNumber = s.self from rfl), hquiet]
      rfl
    have hset := State.setLine_active (new := .duplicate) hmode hrestart
    rw [hheard]
    obtain ⟨hscore, hstate, -, -⟩ := (s.setLine .duplicate).line_of_settle
    exact ⟨hstate.trans (congrArg Kept.lineState hset), hscore.trans (congrArg Kept.score hset)⟩

end Sys2Proof.Machine

/-! SUPPORT. Records found by their names, and the timers of drives, reels and requests. -/

namespace Sys2Proof.Machine

open Sys2Proof.Certificates

/-! ## Records found by their name, and found again after a change -/

theorem find?_map_key {α κ : Type} [DecidableEq κ] (key : α → κ) {f : α → α} (hf : ∀ a, key (f a) = key a) (k : κ) (l : List α) :
    (l.map fun a => if key a = k then f a else a).find? (fun a => decide (key a = k)) = (l.find? fun a => decide (key a = k)).map f := by
  induction l with
  | nil => rfl
  | cons a l ih =>
    by_cases h : key a = k
    · simp [h, hf]
    · simp [h, ih]

/-- A table in which a change of the record named `k` finds no such record stays as it is. -/
theorem map_key_of_none {α κ : Type} [DecidableEq κ] (key : α → κ) (f : α → α) {k : κ} {l : List α}
    (h : l.find? (fun a => decide (key a = k)) = none) : (l.map fun a => if key a = k then f a else a) = l := by
  have hnone : ∀ a ∈ l, ¬key a = k := by simpa using h
  exact (List.map_congr_left fun a ha => if_neg (hnone a ha)).trans (List.map_id l)

section

variable {s : State}

theorem State.findReq_key {r : ReqNo} {q : Request} (h : s.findReq r = some q) : q.req = r :=
  of_decide_eq_true (List.find?_some (p := fun z : Request => decide (z.req = r)) h)

theorem State.findDrive_key {d : Nat} {y : Drive} (h : s.findDrive d = some y) : y.address = d :=
  of_decide_eq_true (List.find?_some (p := fun z : Drive => decide (z.address = d)) h)

theorem State.findEntry_key {v : Serial} {e : Entry} (h : s.findEntry v = some e) : e.volume = v :=
  of_decide_eq_true (List.find?_some (p := fun z : Entry => decide (z.volume = v)) h)

theorem State.findRec_key {res : Resource} {c : ClaimRec} (h : s.findRec res = some c) : c.res = res :=
  of_decide_eq_true (List.find?_some (p := fun z : ClaimRec => decide (z.res = res)) h)

theorem State.mem_of_findReq {r : ReqNo} {q : Request} (h : s.findReq r = some q) : q ∈ s.rm.queue := List.mem_of_find?_eq_some h
theorem State.mem_of_findDrive {d : Nat} {y : Drive} (h : s.findDrive d = some y) : y ∈ s.drv.drives := List.mem_of_find?_eq_some h
theorem State.mem_of_findEntry {v : Serial} {e : Entry} (h : s.findEntry v = some e) : e ∈ s.inv.entries := List.mem_of_find?_eq_some h
theorem State.mem_of_findRec {res : Resource} {c : ClaimRec} (h : s.findRec res = some c) : c ∈ s.claim.records :=
  List.mem_of_find?_eq_some h

theorem State.findDrive_updDrive {f : Drive → Drive} (hf : ∀ x, (f x).address = x.address) (d : Nat) (s : State) :
    (s.updDrive d f).findDrive d = (s.findDrive d).map f := find?_map_key Drive.address hf d s.drv.drives

theorem State.findReq_updReq {f : Request → Request} (hf : ∀ x, (f x).req = x.req) (r : ReqNo) (s : State) :
    (s.updReq r f).findReq r = (s.findReq r).map f := find?_map_key Request.req hf r s.rm.queue

theorem State.findEntry_updEntry {f : Entry → Entry} (hf : ∀ x, (f x).volume = x.volume) (v : Serial) (s : State) :
    (s.updEntry v f).findEntry v = (s.findEntry v).map f := find?_map_key Entry.volume hf v s.inv.entries

theorem State.findRec_updRec {f : ClaimRec → ClaimRec} (hf : ∀ x, (f x).res = x.res) (res : Resource) (s : State) :
    (s.updRec res f).findRec res = (s.findRec res).map f := find?_map_key ClaimRec.res hf res s.claim.records

/-- Changes of one record follow one another. -/
theorem State.updReq_updReq {f g : Request → Request} (hf : ∀ x, (f x).req = x.req) (r : ReqNo) (s : State) :
    (s.updReq r f).updReq r g = s.updReq r fun x => g (f x) := by
  simp only [State.updReq, State.modRm, List.map_map]
  congr 2
  refine List.map_congr_left fun x _ => ?_
  by_cases h : x.req = r <;> simp [h, hf]

theorem State.updRec_updRec {f g : ClaimRec → ClaimRec} (hf : ∀ x, (f x).res = x.res) (res : Resource) (s : State) :
    (s.updRec res f).updRec res g = s.updRec res fun x => g (f x) := by
  simp only [State.updRec, State.modClaim, List.map_map]
  congr 2
  refine List.map_congr_left fun x _ => ?_
  by_cases h : x.res = res <;> simp [h, hf]

/-- An asker that stands nowhere leaves nothing behind (R126). -/
theorem State.dropAsk_of_none {res : Resource} {a : Asker} (h : ∀ c ∈ s.claim.records, a ∉ c.asks) : s.dropAsk res a = s := by
  unfold State.dropAsk
  split
  · rfl
  · next c hc => exact if_neg (h c (State.mem_of_findRec hc))

theorem State.dropAsker_of_none {a : Asker} (h : ∀ c ∈ s.claim.records, a ∉ c.asks) : s.dropAsker a = s :=
  State.forEach_idle fun _ _ => State.dropAsk_of_none h

/-- The Reservations of a request end (R8). -/
theorem State.endReservations_frame (r : ReqNo) (s : State) : s.endReservations r =
    { s with inv := { s.inv with entries := s.inv.entries.map fun e =>
        if (e.reservation.any fun v => decide (v.req = r)) = true then { e with reservation := none } else e } } := by
  have hmap (l : List Entry) {f g : Entry → Entry} (h : ∀ e, f e = g e) : l.map f = l.map g := List.map_congr_left fun e _ => h e
  refine congrArg (fun l => ({ s with inv := { s.inv with entries := l } } : State)) (hmap s.inv.entries fun e => ?_)
  cases hv : e.reservation with
  | none => rfl
  | some v => simp

theorem State.endReservations_of_none {r : ReqNo} (h : ∀ e ∈ s.inv.entries, ∀ v, e.reservation = some v → v.req ≠ r) :
    s.endReservations r = s := by
  have hmap : ∀ e ∈ s.inv.entries,
      (if (e.reservation.any fun v => decide (v.req = r)) = true then { e with reservation := none } else e) = id e := by
    intro e he
    refine if_neg ?_
    cases hv : e.reservation with
    | none => simp
    | some v => simpa using h e he v hv
  rw [State.endReservations_frame, List.map_congr_left hmap, List.map_id]

end

/-! ## Timers of drives, reels and requests -/

theorem State.due_some {t : Nat} {s : State} (h : t ≤ s.acct.stationTime) : s.due (some t) = true := by simpa [State.due] using h

theorem exec_graceExpiry {d t : Nat} {y : Drive} {s : State} (hy : s.findDrive d = some y) (hstate : y.state = .grace)
    (hexpiry : y.graceExpiry = some t) (hdue : t ≤ s.acct.stationTime) : exec (.graceExpiry d) s = .next (s.driveToIdle d).settle := by
  change Host.Outcome.next (match s.findDrive d with
    | none => s
    | some x => if x.state = DriveState.grace ∧ s.due x.graceExpiry = true then (s.driveToIdle d).settle else s) = _
  rw [hy]
  exact congrArg _ (if_pos ⟨hstate, by rw [hexpiry]; exact State.due_some hdue⟩)

theorem exec_cleaningEnd {d t : Nat} {y : Drive} {s : State} (hy : s.findDrive d = some y) (hstate : y.state = .cleaning)
    (hend : y.cleaningEnd = some t) (hdue : t ≤ s.acct.stationTime) : exec (.cleaningEnd d) s = .next (s.endCleaning d y).settle := by
  change Host.Outcome.next (match s.findDrive d with
    | none => s
    | some x => if x.state = DriveState.cleaning ∧ s.due x.cleaningEnd = true then (s.endCleaning d x).settle else s) = _
  rw [hy]
  exact congrArg _ (if_pos ⟨hstate, by rw [hend]; exact State.due_some hdue⟩)

theorem exec_reservationExpiry {v : Serial} {t : Nat} {r : ReqNo} {e : Entry} {s : State} (he : s.findEntry v = some e)
    (hres : e.reservation = some { req := r, kind := .timed t }) :
    exec (.reservationExpiry v) s = .next ((s.reach t).updEntry v fun x => { x with reservation := none }) := by
  have hbind : (s.findEntry v).bind Entry.reservation = some { req := r, kind := .timed t } := by rw [he]; exact hres
  change Host.Outcome.next (match (s.findEntry v).bind Entry.reservation with
    | some { kind := .timed e, .. } => (s.reach e).updEntry v fun x => { x with reservation := none }
    | _ => s) = _
  rw [hbind]

theorem exec_deadlinePassed {r : ReqNo} {q : Request} {t : Nat} {s : State} (hq : s.findReq r = some q) (harmed : q.armed = true)
    (hlate : q.late = false) (hdeadline : q.deadline = some t) (hdue : t ≤ s.acct.stationTime)
    (hmode : q.lineWait = false ∨ s.sys.mode ≠ .standalone) : exec (.deadlinePassed r) s = .next (s.becomeLate q).settle := by
  change Host.Outcome.next (match s.findReq r with
    | none => s
    | some q =>
      if q.armed ∧ q.late = false ∧ s.due q.deadline = true then
        (if q.lineWait ∧ s.sys.mode = Mode.standalone then s.failRequest r .standalone else s.becomeLate q).settle
      else s) = _
  have hstays : ¬(q.lineWait = true ∧ s.sys.mode = .standalone) := by
    rintro ⟨hwait, halone⟩
    exact hmode.elim (fun h => by simp [h] at hwait) fun h => h halone
  rw [hq]
  simp only [harmed, hlate, hdeadline, State.due_some hdue, and_self, if_true, if_neg hstays]

theorem exec_hopExpiry {r : ReqNo} {q : Request} {t : Nat} {s : State} (hq : s.findReq r = some q) (hstate : q.state = .hopping)
    (hexpiry : q.hopExpiry = some t) (hdue : t ≤ s.acct.stationTime) : exec (.hopExpiry r) s = .next (s.hopLapse q).settle := by
  change Host.Outcome.next (match s.findReq r with
    | none => s
    | some q => if q.state = ReqState.hopping ∧ s.due q.hopExpiry = true then (s.hopLapse q).settle else s) = _
  rw [hq]
  exact congrArg _ (if_pos ⟨hstate, by rw [hexpiry]; exact State.due_some hdue⟩)

theorem exec_forwardCheck {r : ReqNo} {q : Request} {t : Nat} {s : State} (hq : s.findReq r = some q) (hrole : q.role = .proxy)
    (hforward : q.forwardDue = some t) (hdue : t ≤ s.acct.stationTime) (hmode : s.sys.mode = .active ∨ s.sys.mode = .standalone) :
    exec (.forwardCheck r) s = .next (s.forward q).settle := by
  change Host.Outcome.next (match s.findReq r with
    | none => s
    | some q =>
      if q.role = Role.proxy ∧ s.due q.forwardDue = true ∧ (s.sys.mode = Mode.active ∨ s.sys.mode = Mode.standalone) then (s.forward q).settle
      else s) = _
  rw [hq]
  exact congrArg _ (if_pos ⟨hrole, by rw [hforward]; exact State.due_some hdue, hmode⟩)

/-! ## A drive that goes to IDLE_LOADED -/

/-- A local drive that goes to IDLE_LOADED (R26, R32). -/
def Drive.idled (x : Drive) : Drive :=
  { x with state := .idleLoaded, serving := none, graceExpiry := none, cleaningEnd := none, cleaningStart := none, parked := false }

/-- The STOW of a local drive's own reel, with room in the Arm Order Queue, goes straight to the reel's slot (R31, R67). -/
theorem State.driveToIdle_stows {d n : Nat} {v : Serial} {y : Drive} {e : Entry} {s : State} (hy : s.findDrive d = some y)
    (hposition : y.position = .loc) (hloaded : y.loaded = some v) (he : s.findEntry v = some e) (hhome : e.home = .here)
    (hslot : e.slot = some n) (hretired : e.retired = false) (hmove : s.hasMove v = false) (hroom : s.arm.queue.length < 8)
    (hagenda : s.agenda = []) : s.driveToIdle d =
      { s.updDrive d Drive.idled with
        arm := { s.arm with queue := insertMove (ownMove .stow v (.drive d) (.slot n) s) s.arm.queue }, agenda := [.issue] } := by
  set t := s.updDrive d Drive.idled with ht
  have hfound : t.findDrive d = some y.idled := by rw [ht, State.findDrive_updDrive (f := Drive.idled) (fun _ => rfl), hy]; rfl
  have hres : t.posRes y.idled.position = none := by rw [show y.idled.position = y.position from rfl, hposition]; rfl
  have hheld : t.driveHeld y.idled = true := by rw [State.driveHeld, hres]
  have hroom' : t.armRoom = true := decide_eq_true hroom
  have hmove' : t.hasMove v = false := hmove
  have he' : t.findEntry v = some e := he
  have hstate : y.idled.state = .idleLoaded := rfl
  have hparked : y.idled.parked = false := rfl
  have hloaded' : y.idled.loaded = some v := hloaded
  have hdest : t.homeDest e = (.slot n, none, t) := by rw [State.homeDest, hretired, hslot]; rfl
  change t.stowDrive d = _
  simp only [State.stowDrive, hfound, hstate, hloaded', hmove', hparked, hheld, hroom', hres, he', hhome, hdest]
  simp [State.queueMove, State.push, ht, hagenda, State.updDrive]
  rfl

/-! ## The end of a cleaning -/

theorem State.driveId_loc {y : Drive} {s : State} (h : y.position = .loc) : s.driveId y = .own s.sys.startup.stationNumber y.address := by
  rw [State.driveId, h]
  rfl

/-- A cleaning record closes: charge 0, in account 0 (R34, R166). -/
theorem State.kept_closeCleaning {d from_ : Nat} {lost : Bool} {v : Serial} {y : Drive} {s : State} (hy : s.findDrive d = some y)
    (hloaded : y.loaded = some v) (hstart : y.cleaningStart = some from_) (hposition : y.position = .loc) :
    let closed : ClosedSession :=
      { req := none, origin := s.sys.startup.stationNumber, account := 0, volume := v, drive := .own s.sys.startup.stationNumber d,
        start := from_, finish := s.acct.stationTime, t0 := 0, t1 := 0, t2 := 0, t3 := 0, charge := 0, errors := 0, promptAcks := 0,
        write := false, hopped := false, remount := false, cleaning := true, restartClosed := false, driveLost := lost,
        timeSaturated := false, chargeSaturated := false }
    (s.closeCleaning d lost).kept = { s.kept with acct := ((s.addCharge 0 0 0).offerClosed closed).acct } := by
  intro closed
  have hclosed : s.closeCleaning d lost = ((s.addCharge 0 0 0).wearReel v 0).offerClosed closed := by
    simp only [State.closeCleaning, hy, hloaded, hstart, State.driveId_loc hposition, State.findDrive_key hy, Option.getD_some]
    rfl
  have hacct : ((s.addCharge 0 0 0).wearReel v 0).acct = (s.addCharge 0 0 0).acct := State.acct_of_kept (State.kept_wearReel ..)
  have hcfg : ((s.addCharge 0 0 0).wearReel v 0).cfg = (s.addCharge 0 0 0).cfg := congrArg Sys.startup (State.sys_of_kept (State.kept_wearReel ..))
  rw [hclosed, State.kept_offerClosed, State.kept_wearReel, State.kept_addCharge, State.offerClosed_acct, hacct, hcfg]

theorem kept_endCleaning {d from_ : Nat} {v : Serial} {y : Drive} {s : State} (hy : s.findDrive d = some y)
    (hloaded : y.loaded = some v) (hstart : y.cleaningStart = some from_) (hposition : y.position = .loc) :
    let closed : ClosedSession :=
      { req := none, origin := s.sys.startup.stationNumber, account := 0, volume := v, drive := .own s.sys.startup.stationNumber d,
        start := from_, finish := s.acct.stationTime, t0 := 0, t1 := 0, t2 := 0, t3 := 0, charge := 0, errors := 0, promptAcks := 0,
        write := false, hopped := false, remount := false, cleaning := true, restartClosed := false, driveLost := false,
        timeSaturated := false, chargeSaturated := false }
    (s.endCleaning d y).kept = { s.kept with acct := ((s.addCharge 0 0 0).offerClosed closed).acct } := by
  intro closed
  set u := (s.updDrive d Drive.cleaned).countPass (y.loaded.getD []) with hu
  have hkept : u.kept = s.kept := by rw [hu, State.kept_countPass, State.kept_updDrive]
  have hsys : u.sys = s.sys := State.sys_of_kept hkept
  have hacct : u.acct = s.acct := State.acct_of_kept hkept
  have hcharged : (u.addCharge 0 0 0).acct = (s.addCharge 0 0 0).acct := State.addCharge_congr 0 0 0 hacct
  have hcfg : (u.addCharge 0 0 0).cfg = (s.addCharge 0 0 0).cfg := congrArg Sys.startup hsys
  have hfound : u.findDrive d = some y.cleaned := by
    rw [hu]
    change (s.updDrive d Drive.cleaned).findDrive d = _
    rw [State.findDrive_updDrive (f := Drive.cleaned) (fun _ => rfl), hy]
    rfl
  have hclosed := State.kept_closeCleaning (lost := false) hfound hloaded hstart hposition
  dsimp only at hclosed
  rw [State.offerClosed_acct, hcharged, hcfg, hsys, hacct, hkept, ← State.offerClosed_acct] at hclosed
  rw [State.endCleaning, State.kept_driveToIdle, hclosed]

/-- Settles O41: the drive of an expired grace, the record of a cleaning and the Reservation that lapses. -/
theorem driveAndReservationTimers : Obligations.DriveAndReservationTimers := by
  refine ⟨?grace, ?cleaning, ?reservation⟩
  case grace =>
    intro d t n v y e s hagenda hy hstate hexpiry hdue hposition hloaded he hhome hslot hretired hmove hroom m
    rw [exec_graceExpiry hy hstate hexpiry hdue, State.driveToIdle_stows hy hposition hloaded he hhome hslot hretired hmove hroom hagenda]
    rfl
  case cleaning =>
    intro d t from_ v y s hagenda hy hstate hend hdue hloaded hstart hposition closed
    exact ⟨_, exec_cleaningEnd hy hstate hend hdue, (State.kept_settle _).trans (kept_endCleaning hy hloaded hstart hposition)⟩
  case reservation =>
    intro v t r e s he hres
    rw [exec_reservationExpiry he hres]
    rfl

/-! ## Messages that join the Transmit Queue -/

theorem State.send_queued {m : Msg} {s : State} (hcan : CanQueue m.kind s) : s.send m = queued m s := by
  rw [State.send, State.sendTagged, hcan.1, if_neg (by decide), if_neg (by simpa [Config.transmitQueueSize] using hcan.2)]
  rfl

/-! ## Requests -/

theorem State.promptOf_of_none {r : ReqNo} {s : State} (h : ∀ p ∈ s.panel.prompts, r ∉ p.links) : s.promptOf r = none := by
  simpa [State.promptOf] using h

theorem State.push_new {w : Work} {l : List Work} {s : State} (h : s.agenda = l) (hw : w ∉ l) : s.push w = s.withAgenda (l ++ [w]) := by
  rw [State.push, h, if_neg hw]

theorem State.driveToEmpty_frame (d : Nat) {s : State} (h : s.agenda = []) : s.driveToEmpty d =
    { s.updDrive d fun x => { x with state := .empty, loaded := none, serving := none, cleaningReel := none } with
      agenda := [.driveEmpty d, .plan] } := by
  rw [State.driveToEmpty, State.push_of_empty (s := s.updDrive d _) h, State.push_new (l := [.driveEmpty d]) rfl (by simp)]
  rfl

/-- The one drive RESERVED for a request is released with it (R44). -/
theorem State.releaseDrivesOf_one {r : ReqNo} {d : Nat} {y : Drive} {s : State}
    (hone : (s.drv.drives.filter fun z => decide (z.serving = some (.request r))) = [y]) (hd : y.address = d) (hy : s.findDrive d = some y)
    (hstate : y.state = .reserved) : s.releaseDrivesOf r = s.driveToEmpty d := by
  rw [State.releaseDrivesOf, hone, State.forEach, List.foldl_cons, List.foldl_nil, State.releaseDrive, hd, hy]
  exact if_pos (.inl hstate)

/-- Settles O42: the deadline, the lapse of a hop and the forward check. -/
theorem requestTimers : Obligations.RequestTimers := by
  intro r q s hagenda hq
  have hkey : q.req = r := State.findReq_key hq
  refine ⟨?late, ?hop, ?forward⟩
  case late =>
    intro t harmed hlate hdeadline hdue hrole horigin hmode hprompts
    have hreport (u : State) (hself : u.self = s.self) : u.reqReport q .late = u.report (.request r q.jobTag .late) := by
      rw [State.reqReport, hkey, if_pos (horigin.trans hself.symm)]
    have hbecomes : s.becomeLate q = (s.updReq r fun z => { z with late := true }).report (.request r q.jobTag .late) := by
      have hprompt (u : State) (hu : u.panel = s.panel) : u.promptOf r = none := State.promptOf_of_none (by rw [hu]; exact hprompts)
      simp only [State.becomeLate, hrole, hkey, reduceCtorEq, if_false]
      rw [hreport (s.updReq r _) rfl, hprompt ((s.updReq r _).report _) rfl]
    rw [exec_deadlinePassed hq harmed hlate hdeadline hdue hmode, hbecomes]
    exact congrArg _ (State.settle_of_agenda hagenda)
  case hop =>
    intro t d y hrole hstate hexpiry hdue hone hd hy hreserved hnone hasks
    have hlapse : s.hopLapse q = (((s.driveToEmpty d).dropArrival r).dropAsker (.request r)).delReq r := by
      rw [State.hopLapse, hkey, State.endReservations_of_none hnone, State.releaseDrivesOf_one hone hd hy hreserved]
      exact if_pos hrole
    have hstays : ((s.driveToEmpty d).dropArrival r).dropAsker (.request r) = (s.driveToEmpty d).dropArrival r :=
      State.dropAsker_of_none (by
        have hclaim : ((s.driveToEmpty d).dropArrival r).claim = s.claim := by
          rw [State.driveToEmpty_frame d hagenda]
          rfl
        rw [hclaim]
        exact hasks)
    rw [exec_hopExpiry hq hstate hexpiry hdue, hlapse, hstays, State.driveToEmpty_frame d hagenda]
    rfl
  case forward =>
    intro t p hrole hforward hdue hmode hserver hsent hcan
    have hsends : s.forward q = queued (.ask { server := p, req := r })
        (s.updReq r fun z => { z with forwardDue := some (s.acct.stationTime + s.sys.startup.forwardCheckInterval) }) := by
      simp only [State.forward, hserver, hsent, hkey]
      refine (if_pos hcan.1).trans (State.send_queued hcan)
    rw [exec_forwardCheck hq hrole hforward hdue hmode, hsends]
    exact congrArg _ (State.settle_of_agenda hagenda)

end Sys2Proof.Machine

/-! SUPPORT. The questions that peers ask, and the frames of the neighbour of a resource. -/

namespace Sys2Proof.Machine

open Sys2Proof.Certificates

/-! ## A PRESENT peer's frames to this station -/

section

variable {p : Nat} {s : State}

theorem hearsPeer_silentLine (h : HearsPeer p s) {t : State} (hline : t.line.state = s.line.state) : t.silentLine = false := by
  rcases h.line with hl | hl <;> simp [State.silentLine, hline, hl]

/-- An answer to a PRESENT peer joins the Transmit Queue (R89, R111). -/
theorem hearsPeer_answer (h : HearsPeer p s) (hroom : s.line.txq.length < 16) {t : State} (hline : t.line = (credited p s).line)
    (hsys : t.sys = s.sys) (m : Msg) : t.answer m = queued m t := by
  have hsilent : t.silentLine = false := hearsPeer_silentLine h (by rw [hline]; rfl)
  have hpermits : t.permits m.kind = true := by
    rw [State.permits, hline, hsys]
    exact hearsPeer_permits h m.kind
  rw [State.answer, hsilent, if_neg Bool.false_ne_true]
  exact State.send_queued ⟨hpermits, by rw [hline]; exact hroom⟩

/-- A frame addressed to this station is delivered, and a delivery without consequences ends there (R84, R103). -/
theorem hearsPeer_addressed (h : HearsPeer p s) {n : Nat} (hn : n = s.sys.startup.stationNumber) (act : State → State)
    (hagenda : (act (credited p s)).agenda = []) : (s.hear p true false fun t => t.addressed n act) = act (credited p s) := by
  have hself : n = (credited p s).self := hn
  rw [hearsPeer_hear h false, if_neg Bool.false_ne_true, State.addressed, if_pos hself, State.settle_of_agenda hagenda]

end

/-! ## Via-hatch PLACE -/

theorem State.updReq_of_none {r : ReqNo} {f : Request → Request} {s : State} (h : s.findReq r = none) : s.updReq r f = s := by
  rw [State.updReq, State.modRm, map_key_of_none Request.req f h]

theorem exec_viaHatchPlaceHeard {b : PlaceBody} (hb : placeOk b = true) (p : Nat) (s : State) :
    exec (.viaHatchPlaceHeard p b) s = .next (s.hear p true false fun t => t.addressed b.target fun t => t.takePlace b p) := by
  change Host.Outcome.next (s.hear p (placeOk b) false fun t => t.addressed b.target fun t => t.takePlace b p) = _
  rw [hb]

/-- A change of the record that joins the queue under a new number touches no other (R40). -/
theorem updated_insertReq {q : Request} {f : Request → Request} {l : List Request} (hnew : ∀ x ∈ l, x.req ≠ q.req) (hf : f q = q) :
    ((insertReq q l).map fun x => if x.req = q.req then f x else x) = insertReq q l := by
  have hold (l : List Request) (h : ∀ x ∈ l, x.req ≠ q.req) : (l.map fun x => if x.req = q.req then f x else x) = l :=
    (List.map_congr_left fun x hx => if_neg (h x hx)).trans (List.map_id l)
  induction l with
  | nil => simp [insertReq, hf]
  | cons x l ih =>
    rw [insertReq]
    split
    · rw [List.map_cons, if_pos rfl, hf, hold _ hnew]
    · rw [List.map_cons, if_neg (hnew x List.mem_cons_self), ih fun y hy => hnew y (List.mem_cons_of_mem _ hy)]

theorem State.hearViaHatch_new {b : PlaceBody} {p : Nat} {s : State} (h : s.findReq b.req = none) (hother : b.req.origin ≠ s.self) :
    s.hearViaHatch b p = s.hopDecide b p false := by
  rw [State.hearViaHatch, h]
  exact if_neg hother

/-- Settles O52: the bay that is shut refuses, and an open one takes the hop in. -/
theorem hopsAreTakenIn : Obligations.HopsAreTakenIn := by
  intro p b s hp hroom hb htarget hvia hnew hother
  have hheard (hagenda : ((credited p s).hopDecide b p false).agenda = []) :
      exec (.viaHatchPlaceHeard p b) s = .next ((credited p s).hopDecide b p false) := by
    have htake : (credited p s).takePlace b p = (credited p s).hopDecide b p false :=
      (if_pos hvia).trans (State.hearViaHatch_new hnew hother)
    rw [exec_viaHatchPlaceHeard hb, hearsPeer_addressed hp htarget _ (by rw [htake]; exact hagenda), htake]
  have hmode : (credited p s).sys.mode = .active := hp.mode
  have hsilent : (credited p s).silentLine = false := hearsPeer_silentLine hp rfl
  have hmuted : (credited p s).line.state ≠ .muted := by
    have hline : (credited p s).line.state = s.line.state := rfl
    rcases hp.line with hl | hl <;> rw [hline, hl] <;> decide
  have hanswer := hearsPeer_answer hp hroom rfl rfl
  refine ⟨fun hbay => ?door, ?taken⟩
  case door =>
    have hdecides : (credited p s).hopDecide b p false =
        queued (.refused { target := p, req := b.req, reason := .door }) (credited p s) := by
      have hshut : (credited p s).bayShut = true := decide_eq_true hbay
      simp only [State.hopDecide, hmode, hsilent, hmuted, hshut, ne_eq, not_true_eq_false, Bool.false_eq_true, or_false, if_false, if_true,
        State.refuse, hanswer]
    rw [hheard (by rw [hdecides]; exact hp.idle), hdecides]
  case taken =>
    intro side y hbay hside hhatch hqueue htable hy taken
    have hshut : (credited p s).bayShut = false := by simp [State.bayShut, credited, hbay]
    have hside' : (credited p s).sideOf p = some side := hside
    have hhatch' : (credited p s).hasHatch side = true := hhatch
    have hqueue' : ¬Config.mountQueueSize ≤ (credited p s).rm.queue.length := Nat.not_le.mpr hqueue
    have htable' : ¬(credited p s).tableRoom = 0 := Nat.one_le_iff_ne_zero.mp htable
    have hy' : (credited p s).chooseLocal (requiredClass b.classWish b.reelClass) = some y := hy
    have hfresh : ∀ x ∈ s.rm.queue, x.req ≠ b.req := by simpa [State.findReq] using hnew
    have htaken : (credited p s).takenIn b .hopping (some y.address) (some (s.acct.stationTime + s.sys.startup.hopTimeout)) = taken := by
      simp only [taken, State.takenIn, hvia, if_true]
      rfl
    have hdecides : (credited p s).hopDecide b p false = queued (.placed { target := p, req := b.req })
        { credited p s with
          inv := { s.inv with hatchArrivals := s.inv.hatchArrivals ++ [b.req] }
          drv := { s.drv with drives := s.drv.drives.map fun z => if z.address = y.address then
            { z with state := .reserved, serving := some (.request b.req) } else z }
          rm := { s.rm with queue := insertReq taken s.rm.queue } } := by
      simp only [State.hopDecide, hmode, hsilent, hmuted, hshut, hside', hhatch', hqueue', htable', hy', ne_eq, not_true_eq_false,
        Bool.false_eq_true, or_false, and_false, if_false, Bool.not_true, State.accept, hanswer]
      have hdrive := updated_insertReq (q := taken) (f := fun q => { q with drive := some y.address }) hfresh rfl
      rw [← hdrive, ← htaken]
      rfl
    rw [hheard (by rw [hdecides]; exact hp.idle), hdecides]

/-! ## Questions of peers -/

theorem exec_seekHeard {b : SeekBody} (hb : seekOk b = true) (p : Nat) (s : State) :
    exec (.seekHeard p b) s = .next (s.hear p true false fun t => t.hearSeek b p) := by
  change Host.Outcome.next (s.hear p (seekOk b) false fun t => t.hearSeek b p) = _
  rw [hb]

theorem exec_askHeard {b : AskBody} (hb : askOk b = true) (p : Nat) (s : State) :
    exec (.askHeard p b) s = .next (s.hear p true false fun t => t.addressed b.server fun t => t.hearAsk b.req) := by
  change Host.Outcome.next (s.hear p (askOk b) false fun t => t.addressed b.server fun t => t.hearAsk b.req) = _
  rw [hb]

theorem exec_placeHeard {b : PlaceBody} (hb : placeOk b = true) (p : Nat) (s : State) :
    exec (.placeHeard p b) s = .next (s.hear p true false fun t => t.addressed b.target fun t => t.takePlace b p) := by
  change Host.Outcome.next (s.hear p (placeOk b) false fun t => t.addressed b.target fun t => t.takePlace b p) = _
  rw [hb]

/-- A claim on a reel that no request holds is granted (R7). -/
theorem State.claimReel_home {v : Serial} {e : Entry} {s : State} (he : s.findEntry v = some e) (hstate : e.state = .home)
    (hfree : e.reservation = none) (r : ReqNo) (k : ReservKind) :
    s.claimReel v r k = (.granted, s.updEntry v fun e => { e with reservation := some (claimStored e.reservation r k) }) := by
  have hdecision : claimDecision (s.findEntry v) r = .granted := by rw [he]; simp [claimDecision, hstate, hfree]
  rw [State.claimReel, hdecision]

theorem claimStored_held (old : Option Reservation) (r : ReqNo) : claimStored old r .held = { req := r, kind := .held } := by
  unfold claimStored
  split <;> rfl

/-- The HELD claim of a PLACE on a reel that is HOME and free (R7, R111). -/
theorem State.claimReel_held {v : Serial} {e : Entry} {s : State} (he : s.findEntry v = some e) (hstate : e.state = .home)
    (hfree : e.reservation = none) (r : ReqNo) :
    s.claimReel v r .held = (.granted, s.updEntry v fun e => { e with reservation := some { req := r, kind := .held } }) := by
  rw [State.claimReel_home he hstate hfree]
  simp only [claimStored_held]

/-- The TIMED claim of a SEEK on the one entry of its volume (R7, R104). -/
theorem State.claimReel_timed {v : Serial} {e : Entry} {s : State} (he : s.findEntry v = some e) (hstate : e.state = .home)
    (hfree : e.reservation = none) (hone : ∀ z ∈ s.inv.entries, z.volume = v → z = e) (r : ReqNo) (n : Nat) :
    s.claimReel v r (.timed n) = (.granted, s.updEntry v fun e => { e with reservation := some { req := r, kind := .timed n } }) := by
  rw [State.claimReel_home he hstate hfree]
  refine congrArg (fun l => (ClaimResult.granted, ({ s with inv := { s.inv with entries := l } } : State))) ?_
  refine List.map_congr_left fun z hz => ?_
  by_cases hv : z.volume = v
  · simp only [hone z hz hv, hfree]
    rfl
  · rw [if_neg hv, if_neg hv]

/-- The credit of a frame leaves the period that the peer announced, and with it the expiry of a TIMED claim (R7, R98). -/
theorem credited_claimExpiry {p : Nat} {s : State} (h : (s.rosterAt p).state = .present) :
    (credited p s).claimExpiry p = s.claimExpiry p := by
  have hpresence : ((credited p s).rosterAt p).presence = (s.rosterAt p).presence := by
    rw [State.rosterAt, credited]
    dsimp only
    rw [List.getD_eq_getElem _ _ (by simpa using State.lt_roster_of_present h), List.getElem_set_self]
  rw [State.claimExpiry, hpresence]
  rfl

theorem State.askAnswer_unknown {r : ReqNo} {s : State} (h : s.findReq r = none) (hmoved : ∀ m ∈ s.px.moved, m.1 ≠ r) :
    s.askAnswer r = .unknown := by
  have hnone : (s.px.moved.find? fun m => decide (m.1 = r)) = none := by simpa using hmoved
  rw [State.askAnswer, h, hnone]

theorem State.hearPlace_again {b : PlaceBody} {p : Nat} {q : Request} {s : State} (hq : s.findReq b.req = some q) (hrole : q.role = .takenIn) :
    s.hearPlace b p = s.accept p b.req := by
  cases q
  cases hrole
  rw [State.hearPlace, hq]

/-- The decision on a PLACE for a request that is not known, in ACTIVE with the line open (R111). -/
theorem State.hearPlace_new {b : PlaceBody} {p : Nat} {s : State} (h : s.findReq b.req = none) (hother : b.req.origin ≠ s.self)
    (hmode : s.sys.mode = .active) (hmuted : s.line.state ≠ .muted) (hsilent : s.silentLine = false) :
    (32 ≤ s.rm.queue.length → s.hearPlace b p = s.refuse p b.req .noRoom) ∧
    (s.rm.queue.length < 32 → s.findEntry b.reel = none → s.hearPlace b p = s.refuse p b.req .notHere) ∧
    (∀ e, s.rm.queue.length < 32 → s.findEntry b.reel = some e → e.state = .home → e.retired = false → e.reservation = none →
      let t := (((s.updEntry b.reel fun e => { e with reservation := some { req := b.req, kind := .held } }).accept p b.req).addReq
        (s.takenIn b .waiting none none))
      s.hearPlace b p = if s.inv.bay = .audit then t.push .plan else (t.lookup b.req).push .plan) := by
  have hopen : ¬(s.sys.mode ≠ .active ∨ s.line.state = .muted ∨ s.silentLine = true) := by simp [hmode, hmuted, hsilent]
  refine ⟨fun hfull => ?_, fun hroom hreel => ?_, fun e hroom he hstate hretired hfree => ?_⟩
  · simp only [State.hearPlace, h, if_neg hother, if_neg hopen]
    exact if_pos hfull
  · simp only [State.hearPlace, h, if_neg hother, if_neg hopen, hreel]
    exact if_neg (Nat.not_le.mpr hroom)
  · simp only [State.hearPlace, h, if_neg hother, if_neg hopen, he, hstate, hretired, State.claimReel_held he hstate hfree]
    simp only [Bool.false_eq_true, and_false, if_false]
    exact if_neg (Nat.not_le.mpr hroom)

/-- Settles O51: the SEEK, the ASK and the PLACE, each answered by one message in the queue. -/
theorem questionsOfPeersAreAnswered : Obligations.QuestionsOfPeersAreAnswered := by
  intro p s hp hroom me u
  have hmode : u.sys.mode = .active := hp.mode
  have hsilent : u.silentLine = false := hearsPeer_silentLine hp rfl
  have hmuted : u.line.state ≠ .muted := by
    have hline : u.line.state = s.line.state := rfl
    rcases hp.line with hl | hl <;> rw [hline, hl] <;> decide
  have hanswer {t : State} (hline : t.line = u.line) (hsys : t.sys = s.sys) (m : Msg) : t.answer m = queued m t :=
    hearsPeer_answer hp hroom hline hsys m
  have hpermits (k : MsgKind) : u.permits k = true := hearsPeer_permits hp k
  refine ⟨?seek, ?ask, fun b hb htarget hvia => ?place⟩
  case seek =>
    intro b v e hb hwant he hone hhome hstate hfree period until_
    have hclaim := State.claimReel_timed (s := u) he hstate hfree hone b.req (u.claimExpiry p)
    have hstatus : u.haveStatus e = some .home := by rw [State.haveStatus, hhome, hstate]
    have hsend {m : Msg} {t : State} (hline : t.line = u.line) (hsys : t.sys = s.sys) : t.send m = queued m t :=
      State.send_queued ⟨by rw [State.permits, hline, hsys]; exact hpermits _, by rw [hline]; exact hroom⟩
    have he' : u.findEntry v = some e := he
    have hhears : u.hearSeek b p = queued
        (.have_ { req := b.req, volume := v, status := .home, cls := e.cls, ring := e.ring, retired := e.retired,
                  freeDrive := s.freeDriveFor (max (b.classWish.getD 0) e.cls) })
        { u with inv := { s.inv with entries := s.inv.entries.map fun z => if z.volume = v then
            { z with reservation := some { req := b.req, kind := .timed until_ } } else z } } := by
      simp only [State.hearSeek, hmode, hpermits, hwant, he', hstatus, hclaim, true_or, and_self, if_true]
      rw [State.sendHave, hsend (t := u.updEntry v _) rfl rfl, State.findEntry_key he, credited_claimExpiry hp.present]
      rfl
    rw [exec_seekHeard hb, hearsPeer_hear hp false, if_neg Bool.false_ne_true]
    change Host.Outcome.next (u.hearSeek b p).settle = _
    rw [hhears]
    exact congrArg _ (State.settle_of_agenda hp.idle)
  case ask =>
    intro b hb hserver hnone hmoved
    have hhears : u.hearAsk b.req = queued (.state { req := b.req, answer := .unknown }) u := by
      have hunknown : u.askAnswer b.req = .unknown := State.askAnswer_unknown hnone hmoved
      simp only [State.hearAsk, hsilent, Bool.false_eq_true, if_false, hunknown]
      exact State.send_queued ⟨hpermits _, hroom⟩
    rw [exec_askHeard hb, hearsPeer_addressed hp hserver _ (by rw [hhears]; exact hp.idle), hhears]
  case place =>
    have hheard : exec (.placeHeard p b) s = .next (u.hearPlace b p).settle := by
      have htake : u.takePlace b p = u.hearPlace b p := if_neg (by rw [hvia]; decide)
      rw [exec_placeHeard hb, hearsPeer_hear hp false, if_neg Bool.false_ne_true, State.addressed, if_pos (show b.target = u.self from htarget),
        htake]
    have settles {m : Msg} (h : u.hearPlace b p = queued m u) : exec (.placeHeard p b) s = .next (queued m u) := by
      rw [hheard, h]
      exact congrArg _ (State.settle_of_agenda hp.idle)
    refine ⟨fun q hq hrole => settles ((State.hearPlace_again (s := u) hq hrole).trans (hanswer rfl rfl _)), fun hnone hother => ?_⟩
    obtain ⟨hfull, hmissing, htaken⟩ := State.hearPlace_new (b := b) (p := p) (s := u) hnone hother hmode hmuted hsilent
    refine ⟨fun hroom' => settles ((hfull hroom').trans (hanswer rfl rfl _)),
      fun hroom' hreel => settles ((hmissing hroom' hreel).trans (hanswer rfl rfl _)), ?_⟩
    intro e hroom' he hstate hretired hfree taken
    rw [hheard, htaken e hroom' he hstate hretired hfree, State.accept, hanswer (t := u.updEntry b.reel _) rfl rfl]
    rfl

/-! ## Frames of the neighbour of a resource -/

theorem exec_holdHeard {b : HoldBody} (hb : holdOk b = true) (p : Nat) (s : State) :
    exec (.holdHeard p b) s = .next (s.hear p true false fun t => match t.sharedWith b.resource p with
      | none => t
      | some c => t.hearHold b c) := by
  rw [← hb]
  rfl

theorem exec_yieldHeard {b : YieldBody} (hb : yieldOk b = true) (p : Nat) (s : State) :
    exec (.yieldHeard p b) s = .next (s.hear p true false fun t => match t.sharedWith b.resource p with
      | none => t
      | some c => t.hearYield b c) := by
  rw [← hb]
  rfl

theorem exec_handoffHeard {b : HandoffBody} (hb : handoffOk b = true) (p : Nat) (s : State) :
    exec (.handoffHeard p b) s = .next (s.hear p true false fun t => match t.sharedWith (.hatch b.boundary) p with
      | none => t
      | some _ => t.hearHandoff b p) := by
  rw [← hb]
  rfl

theorem State.sharedWith_neighbour {res : Resource} {c : ClaimRec} {p : Nat} {s : State} (hc : s.findRec res = some c)
    (hp : c.neighbour = p) : s.sharedWith res p = some c := by
  rw [State.sharedWith, hc, Option.filter_some, if_pos (by simpa using hp)]

theorem State.updRec_congr {res : Resource} {c : ClaimRec} {f g : ClaimRec → ClaimRec} {s : State}
    (hone : ∀ z ∈ s.claim.records, z.res = res → z = c) (h : f c = g c) : s.updRec res f = s.updRec res g := by
  refine congrArg (fun l => ({ s with claim := { s.claim with records := l } } : State)) (List.map_congr_left fun z hz => ?_)
  by_cases hres : z.res = res
  · rw [if_pos hres, if_pos hres, hone z hz hres, h]
  · rw [if_neg hres, if_neg hres]

/-! ## A conflict that is gone -/

theorem State.endConflict_frame (res : Resource) (s : State) : s.endConflict res =
    { s with claim := (s.endConflict res).claim, panel := (s.endConflict res).panel, agenda := (s.endConflict res).agenda } := by
  unfold State.endConflict
  split
  · rfl
  · split
    · rfl
    · split
      · rw [State.push_frame, State.leavePrompt_frame]
        rfl
      · rfl

/-- The record of a hatch that has arrived here with a reel (R135). -/
def ClaimRec.arrived (v : Serial) (c : ClaimRec) : ClaimRec :=
  { c with holder := .self, own := .held, dropped := false, dispute := .none, conflictAcked := false, conflictGone := false,
           concede := false, alone := false, cradle := .volume v }

/-- The record of a resource that the neighbour has yielded, with the cradle it names (R130). -/
def ClaimRec.yielded (k : Cradle) (c : ClaimRec) : ClaimRec :=
  { c with holder := .none, own := .none, dropped := false, dispute := .none, cradle := k }

/-- The record of a hatch from which a reel is owed back at once (R134, R135). -/
def ClaimRec.owedBack (v : Serial) (c : ClaimRec) : ClaimRec := { c with handoffDue := some .noRequest, owed := some v }

/-- The record's arrival leaves nothing of the end of a conflict in it (R135). -/
theorem State.endConflict_arrived {res : Resource} {c : ClaimRec} {s : State} (v : Serial) (hc : s.findRec res = some c) :
    ((s.endConflict res).updRec res (ClaimRec.arrived v)).claim = (s.updRec res (ClaimRec.arrived v)).claim ∧
    ((c.dispute = .conflict → c.conflictAcked = false) →
      (s.endConflict res).updRec res (ClaimRec.arrived v) = s.updRec res (ClaimRec.arrived v)) := by
  have hover {f : ClaimRec → ClaimRec} (hf : ∀ x, (f x).res = x.res) (h : ∀ x, (f x).arrived v = x.arrived v) :
      (s.updRec res f).updRec res (ClaimRec.arrived v) = s.updRec res (ClaimRec.arrived v) := by
    rw [State.updRec_updRec hf]
    exact congrArg (fun g => s.updRec res g) (funext h)
  by_cases hdispute : c.dispute = .conflict
  · cases hacked : c.conflictAcked with
    | false =>
      have hends : s.endConflict res = s.updRec res fun c => { c with conflictGone := true } := by
        simp [State.endConflict, hc, hdispute, hacked]
      rw [hends, hover (f := fun c => { c with conflictGone := true }) (fun _ => rfl) (fun _ => rfl)]
      exact ⟨rfl, fun _ => rfl⟩
    | true =>
      have hends : s.endConflict res =
          (((s.updRec res fun c => { c with dispute := .none, conflictAcked := false, conflictGone := false }).leavePrompt
            (s.conflictKey res)).push .issue) := by simp [State.endConflict, hc, hdispute, hacked]
      have hclaim (t : State) (k : PromptKey) : ((t.leavePrompt k).push .issue).claim = t.claim := by
        rw [State.push_frame, State.leavePrompt_frame]
      refine ⟨?_, fun h => absurd (h hdispute) (by simp)⟩
      rw [← hover (f := fun c => { c with dispute := .none, conflictAcked := false, conflictGone := false }) (fun _ => rfl) (fun _ => rfl),
        hends]
      simp only [State.updRec, State.modClaim_claim, hclaim]
  · have hends : s.endConflict res = s := by simp [State.endConflict, hc, hdispute]
    rw [hends]
    exact ⟨rfl, fun _ => rfl⟩

/-! ## HANDOFF -/

theorem State.withdraw_of_none {f : Msg → Bool} {s : State} (h : ∀ m ∈ s.line.txq, f m.msg = false) : s.withdraw f = s := by
  have hfilter : (s.line.txq.filter fun t => !(f t.msg) || t.onLine) = s.line.txq :=
    List.filter_eq_self.mpr fun m hm => by simp [h m hm]
  have hmap : (s.line.txq.map fun t => if f t.msg = true then { t with withdrawn := true } else t) = s.line.txq :=
    (List.map_congr_left fun m hm => if_neg (by simp [h m hm])).trans (List.map_id _)
  rw [State.withdraw, State.modLine, hfilter, hmap]

theorem State.heldSelf_arrived {res : Resource} {c : ClaimRec} {v : Serial} {s : State} (hc : c ∈ s.claim.records) (hres : c.res = res) :
    ((s.updRec res (ClaimRec.arrived v)).updRec res (ClaimRec.owedBack v)).heldSelf res = true := by
  rw [State.updRec_updRec (f := ClaimRec.arrived v) fun _ => rfl]
  refine List.any_eq_true.mpr ⟨(c.arrived v).owedBack v, ?_, by simp [ClaimRec.arrived, ClaimRec.owedBack, hres]⟩
  exact List.mem_map.mpr ⟨c, hc, if_pos hres⟩

/-- What a HANDOFF of the neighbour's own reel, unknown here, makes (R6, R135): the visiting entry, the record as holder with the reel owed
back, and the tests that follow. -/
theorem State.hearHandoff_visiting {b : HandoffBody} {p : Nat} {side : Side} {c : ClaimRec} {s : State}
    (hopen : s.line.state ≠ .detached ∧ s.line.state ≠ .duplicate) (hside : s.resSide (.hatch b.boundary) = some side)
    (hc : s.findRec (.hatch b.boundary) = some c) (hreq : b.req = none) (hhome : b.home = p) (hnew : s.findEntry b.volume = none)
    (htable : 1 ≤ s.tableRoom)
    (hquiet : ∀ m ∈ s.line.txq, isHold (.hatch b.boundary) false m.msg = false ∧ isHold (.hatch b.boundary) true m.msg = false ∧
      isYield (.hatch b.boundary) m.msg = false) :
    s.hearHandoff b p = (((((((s.endConflict (.hatch b.boundary)).updRec (.hatch b.boundary) (ClaimRec.arrived b.volume)).addEntry
      (visitingEntry b side)).updRec (.hatch b.boundary) (ClaimRec.owedBack b.volume)).push (.handoffOn (.hatch b.boundary))).push
      (.obtained (.hatch b.boundary))).push .useEnd) := by
  have hwithdraw : ((s.withdraw (isHold (.hatch b.boundary) false)).withdraw (isYield (.hatch b.boundary))).withdraw
      (isHold (.hatch b.boundary) true) = s := by
    rw [State.withdraw_of_none fun m hm => (hquiet m hm).1, State.withdraw_of_none fun m hm => (hquiet m hm).2.2,
      State.withdraw_of_none fun m hm => (hquiet m hm).2.1]
  set t := (s.endConflict (.hatch b.boundary)).updRec (.hatch b.boundary) (ClaimRec.arrived b.volume) with ht
  have hinv : t.inv = s.inv := by
    rw [ht, State.endConflict_frame]
    rfl
  have hnew' : t.findEntry b.volume = none := by rw [State.findEntry, hinv]; exact hnew
  have htable' : 1 ≤ t.tableRoom := by rw [State.tableRoom, State.shelfArrivals, hinv]; exact htable
  have hheld : ((t.addEntry (visitingEntry b side)).updRec (.hatch b.boundary) (ClaimRec.owedBack b.volume)).heldSelf
      (.hatch b.boundary) = true := by
    have hclaim := (State.endConflict_arrived b.volume hc).1
    rw [← ht] at hclaim
    rw [← State.heldSelf_arrived (v := b.volume) (State.mem_of_findRec hc) (State.findRec_key hc)]
    simp only [State.heldSelf, State.updRec, State.modClaim_claim, State.addEntry, State.modInv_claim, hclaim]
  have hplaced : t.placeArrival b p side = ((t.addEntry (visitingEntry b side)).updRec (.hatch b.boundary)
      (ClaimRec.owedBack b.volume)).push (.handoffOn (.hatch b.boundary)) := by
    simp only [State.placeArrival, hnew', hreq, Option.bind_none, hhome, htable', and_self, if_true, State.owe]
    exact congrArg (State.push _) (if_pos hheld)
  have hsilent : (decide (s.line.state = .detached) || decide (s.line.state = .duplicate)) = false := by simp [hopen.1, hopen.2]
  simp only [State.hearHandoff, hside, hwithdraw, hsilent, Bool.false_eq_true, if_false]
  rw [← hplaced]
  rfl

theorem State.push_inv (w : Work) (s : State) : (s.push w).inv = s.inv := by rw [State.push_frame]
theorem State.push_claim (w : Work) (s : State) : (s.push w).claim = s.claim := by rw [State.push_frame]
theorem State.push_line (w : Work) (s : State) : (s.push w).line = s.line := by rw [State.push_frame]

/-- The tests that follow an arrival, in their order. -/
theorem State.push_arrivalTests {r : Resource} {s : State} (h : s.agenda = []) :
    ((s.push (.handoffOn r)).push (.obtained r)).push .useEnd = s.withAgenda [.handoffOn r, .obtained r, .useEnd] := by
  rw [State.push_of_empty h, State.push_new (w := .obtained r) (l := [.handoffOn r]) rfl (by simp),
    State.push_new (l := [.handoffOn r, .obtained r]) rfl (by simp)]
  rfl

/-- Settles O55: the HOLD, the YIELD and the HANDOFF of the neighbour. -/
theorem claimFramesOfTheNeighbour : Obligations.ClaimFramesOfTheNeighbour := by
  intro p res c s hp hc hneighbour hone u sets
  have hshared : u.sharedWith res p = some c := State.sharedWith_neighbour hc hneighbour
  have hheard (deliver : State → State) : s.hear p true false deliver = (deliver u).settle := by
    rw [hearsPeer_hear hp false, if_neg Bool.false_ne_true]
  refine ⟨fun b hb hres hholder hown => ?hold, fun b n hb hres hhatch hholder hdispute hgone => ?yield, ?handoff⟩
  case hold =>
    have hhears : u.hearHold b c = u.updRec res fun z => { z with holder := .peer, own := .none, dropped := false } := by
      simp only [State.hearHold, hholder, hown, hres]
    rw [exec_holdHeard hb, hheard, hres, hshared]
    dsimp only
    rw [hhears]
    exact congrArg _ (State.settle_of_agenda hp.idle)
  case yield =>
    have hends : u.endConflict res = u := by
      have hc' : u.findRec res = some c := hc
      simp [State.endConflict, hc', hdispute]
    have hyields : u.hearYield b c = ((u.updRec res fun z =>
        { z with holder := .none, own := .none, dropped := false, dispute := if z.conflictGone then z.dispute else .none,
                 cradle := cradleFrom b.cradle }).push .plan).push .claimTest := by
      simp only [State.hearYield, hholder, hres, hends]
      rw [hhatch]
    have hgives : u.hearYield b c = ((u.updRec res (ClaimRec.yielded (cradleFrom b.cradle))).push .plan).push .claimTest := by
      rw [hyields, State.updRec_congr (s := u) (g := ClaimRec.yielded (cradleFrom b.cradle)) hone]
      simp only [hgone, ClaimRec.yielded, Bool.false_eq_true, if_false]
    have hcradle : cradleFrom b.cradle = (match b.cradle with
        | some v => .volume v
        | none => .empty) := by cases b.cradle <;> rfl
    have hhears : u.hearYield b c = { u.updRec res (ClaimRec.yielded (cradleFrom b.cradle)) with agenda := [.plan, .claimTest] } := by
      rw [hgives, State.push_of_empty (s := u.updRec res _) hp.idle, State.push_new (l := [.plan]) rfl (by simp)]
      rfl
    rw [exec_yieldHeard hb, hheard, hres, hshared]
    dsimp only
    rw [hhears, hcradle]
    rfl
  case handoff =>
    intro b side hb hres hside hreq hhome hnew htable hquiet entries records
    subst hres
    have hopen : u.line.state ≠ .detached ∧ u.line.state ≠ .duplicate := by
      have hline : u.line.state = s.line.state := rfl
      rcases hp.line with hl | hl <;> rw [hline, hl] <;> decide
    have hhears := State.hearHandoff_visiting (s := u) hopen hside hc hreq hhome hnew htable hquiet
    have hexec : exec (.handoffHeard p b) s = .next (u.hearHandoff b p).settle := by
      rw [exec_handoffHeard hb, hheard, hshared]
    obtain ⟨hclaim, hsame⟩ := State.endConflict_arrived (s := u) b.volume hc
    have hrecords : ((u.updRec (.hatch b.boundary) (ClaimRec.arrived b.volume)).updRec (.hatch b.boundary)
        (ClaimRec.owedBack b.volume)).claim = { s.claim with records := records } := by
      rw [State.updRec_updRec (f := ClaimRec.arrived b.volume) fun _ => rfl]
      rfl
    have hentries : entries = s.inv.entries ++ [visitingEntry b side] := by simp only [entries, visitingEntry, Entry.carried, hhome]
    refine ⟨fun hplain => ?_, fun _ _ => ⟨_, hexec, ?_, ?_, ?_⟩⟩
    · rw [hexec, hhears, hsame hplain, State.push_arrivalTests (s := (((u.updRec _ _).addEntry _).updRec _ _)) hp.idle, hentries,
        ← hrecords]
      rfl
    · rw [hhears, State.push_inv, State.push_inv, State.push_inv, hentries]
      change ({ (u.endConflict (.hatch b.boundary)).inv with
        entries := (u.endConflict (.hatch b.boundary)).inv.entries ++ [visitingEntry b side] } : Inv) = _
      rw [State.endConflict_frame]
      rfl
    · rw [hhears, State.push_claim, State.push_claim, State.push_claim, ← hrecords]
      exact congrArg (fun k : Claim =>
        { k with records := k.records.map fun z => if ClaimRec.res z = Resource.hatch b.boundary then ClaimRec.owedBack b.volume z else z }) hclaim
    · rw [hhears, State.push_line, State.push_line, State.push_line]
      change (u.endConflict (.hatch b.boundary)).line = _
      rw [State.endConflict_frame]

end Sys2Proof.Machine

/-! SUPPORT. Two ends of requests that leave a visiting reel in a hatch. -/

namespace Sys2Proof.Machine

open Sys2Proof.Certificates

/-! ## A request that ends while its reel lies in a hatch -/

/-- A visiting reel of station 1 in the right hatch of station 0. -/
def strandedReel : Entry where
  volume := []
  home := .station 1
  slot := none
  cls := 1
  ring := false
  pool := none
  passes := 0
  errors := 0
  retired := false
  unrecorded := false
  exitPending := false
  state := .inHatch .right
  reservation := none

/-- Station 0 in ACTIVE on a CLEAR line, with station 1 PRESENT and the reel in the hatch between them. -/
def strandedStation (q : Request) : State :=
  { State.reset with
    sys := { State.reset.sys with mode := .active }
    inv := { State.reset.inv with entries := [strandedReel] }
    rm := { State.reset.rm with queue := [q] }
    line := { State.reset.line with
      state := .clear, roster := State.reset.line.roster.set 1 { RosterEntry.unknown with state := .present } }
    claim := { State.reset.claim with records := [{ newRec (.hatch 0) 1 with cradle := .volume [] }] } }

/-- The PLACE by which station 1 put its request for the reel here. -/
def strandedPlace : PlaceBody where
  target := 0
  req := { origin := 1, seq := 1 }
  want := .volume []
  reel := []
  reelClass := 1
  access := .read
  classWish := none
  priority := 1
  account := 0
  minutes := 0
  late := false
  hop := 0
  viaHatch := false
  promptAcks := 0

/-- The request taken in, WAITING, with no Reservation of its reel. -/
def strandedRequest : Request := State.reset.takenIn strandedPlace .waiting none none

/-- No HANDOFF is owed. -/
def nothingOwed (o : Host.Outcome State Fault Refusal) : Bool :=
  match o with
  | .next t => t.claim.records.all fun c => decide (c.handoffDue = none)
  | _ => true

/-- The end of the request leaves the visiting reel in the hatch, where it becomes owed to its home (R44, R136). -/
theorem release_owes : nothingOwed (exec (.releaseHeard 1 { server := 0, req := { origin := 1, seq := 1 }, kind := .cancel })
    (strandedStation strandedRequest)) = false := by decide

theorem holdsNothing_stranded (q : Request) (r : ReqNo) : HoldsNothing r (strandedStation q) where
  reels := by simp [strandedStation, strandedReel]
  drives := by simp [strandedStation, State.reset]
  arrivals := by simp [strandedStation, State.reset]
  asks := by simp [strandedStation, newRec]
  prompts := by simp [strandedStation, State.reset]
  queuedMoves := by simp [strandedStation, State.reset]
  currentMove := by simp [strandedStation, State.reset]

theorem hearsPeer_stranded (q : Request) : HearsPeer 1 (strandedStation q) where
  mode := rfl
  line := .inl rfl
  other := ⟨by omega, Nat.one_ne_zero⟩
  present := rfl
  idle := rfl

/-- Refutes O53: a RELEASE(cancel) ends a WAITING request whose visiting reel lies in a hatch toward its home without being reserved; the
claim record then owes the reel a HANDOFF (R136), which the stated end leaves out. -/
theorem not_answersOfPeersAreTaken : ¬Obligations.AnswersOfPeersAreTaken := by
  intro h
  obtain ⟨-, -, -, -, -, hrelease⟩ :=
    (h 1 { origin := 1, seq := 1 } (strandedStation strandedRequest) (hearsPeer_stranded _)).2 strandedRequest rfl
  have hstated := hrelease { server := 0, req := { origin := 1, seq := 1 }, kind := .cancel } rfl rfl rfl rfl rfl rfl rfl rfl
    (holdsNothing_stranded _ _) (by decide)
  exact absurd (congrArg nothingOwed hstated) (by rw [release_owes]; decide)

/-- A pool request of station 0 itself whose window is open, while the reel that it was once given lies in the hatch. -/
def strandedPoolRequest : Request :=
  { strandedRequest with
    req := { origin := 0, seq := 1 }, role := .own, want := .pool 1, state := .locating, phase := .window, windowEnd := some 0 }

/-- The end of a pool request leaves the visiting reel in the hatch, where it becomes owed to its home (R44, R136). -/
theorem windowClose_owes : nothingOwed (exec (.windowClose { origin := 0, seq := 1 }) (strandedStation strandedPoolRequest)) = false := by
  decide

/-- Refutes O54: the window of a pool request closes without an answer while a visiting reel recorded as the request's lies in a hatch toward
its home; the claim record then owes that reel a HANDOFF (R136), which the stated end leaves out. -/
theorem not_waitsOfAnExchangeEnd : ¬Obligations.WaitsOfAnExchangeEnd := by
  intro h
  obtain ⟨hwindow, -⟩ := h { origin := 0, seq := 1 } strandedPoolRequest 0 (strandedStation strandedPoolRequest) rfl rfl
  have hstated := hwindow 1 rfl rfl rfl rfl rfl (by decide) rfl rfl rfl (holdsNothing_stranded _ _)
  exact absurd (congrArg nothingOwed hstated) (by rw [windowClose_owes]; decide)

end Sys2Proof.Machine

/-! SUPPORT. CANCEL of a request that leaves a visiting reel in a hatch. -/

namespace Sys2Proof.Machine

open Sys2Proof.Certificates

/-- A WAITING request of station 0 itself, whose reel lies in the hatch without being reserved. -/
def strandedOwnRequest : Request := { strandedRequest with req := { origin := 0, seq := 1 }, role := .own }

/-- A transfer with the two data words of CANCEL. -/
def cancelTransfer : Xfer := { heartbeat := false, part := 0, count := 2 }

/-- CANCEL of the request leaves the visiting reel in the hatch, where it becomes owed to its home (R44, R136). -/
theorem cancel_owes :
    nothingOwed (exec (.cancel cancelTransfer { origin := 0, seq := 1 }) (strandedStation strandedOwnRequest)) = false := by
  decide

/-- Refutes O19: CANCEL ends a WAITING request whose visiting reel lies in a hatch toward its home without being reserved; the claim record
then owes the reel a HANDOFF (R136), which the stated end leaves out. -/
theorem not_cancelAndReleaseByState : ¬Obligations.CancelAndReleaseByState := by
  intro h
  obtain ⟨hwaiting, -⟩ := h cancelTransfer { origin := 0, seq := 1 } strandedOwnRequest (strandedStation strandedOwnRequest)
    ⟨rfl, rfl, Nat.le_refl 2⟩ (by decide) rfl rfl rfl
  exact absurd (congrArg nothingOwed (hwaiting rfl rfl rfl rfl (holdsNothing_stranded _ _))) (by rw [cancel_owes]; decide)

end Sys2Proof.Machine

/-! SUPPORT. ORDER DONE on a PUT. -/

namespace Sys2Proof.Machine

open Sys2Proof.Certificates

/-! ## A message or a report leaves the other blocks -/

theorem State.giveUpMsg_frame (m : Msg) (cause : UndelCause) (n : Nat) (s : State) :
    s.giveUpMsg m cause n = { s with port := (s.giveUpMsg m cause n).port, agenda := (s.giveUpMsg m cause n).agenda } := by
  unfold State.giveUpMsg
  split
  · rfl
  · rw [State.push_frame]
    rfl

theorem State.send_frame (m : Msg) (s : State) :
    s.send m = { s with line := (s.send m).line, port := (s.send m).port, agenda := (s.send m).agenda } := by
  unfold State.send State.sendTagged
  split
  · rw [State.giveUpMsg_frame]
  · split
    · rw [State.giveUpMsg_frame]
    · rfl

theorem State.reqReport_frame (q : Request) (ev : ReqEvent) (s : State) :
    s.reqReport q ev = { s with port := (s.reqReport q ev).port } := by
  unfold State.reqReport
  split <;> rfl

theorem State.report_reply (b : ReportBody) (x : Xfer) (c : ReplyCode) (w : List Data) (s : State) :
    (s.report b).reply x c w = (s.reply x c w).report b := by
  by_cases h : s.port.reports.length < Config.reportQueueSize <;> simp [State.report, State.reply, State.modPort, h]

/-! ## A move that ends -/

/-- A move whose hold no ask stands for ends with the tests of R72 alone. -/
theorem State.endMove_free {m : Move} {s : State} (hasks : ∀ c ∈ s.claim.records, Asker.move m.volume ∉ c.asks)
    (hagenda : s.agenda = []) : s.endMove m = { s with arm := { s.arm with current := none }, agenda := [.useEnd, .issue] } := by
  have hdrop : (s.modArm fun a => { a with current := none }).dropAsker (.move m.volume) = s.modArm fun a => { a with current := none } :=
    State.dropAsker_of_none hasks
  rw [State.endMove, State.moveGone, hdrop, State.push_of_empty (s := s.modArm _) hagenda, State.push_new (l := [.useEnd]) rfl (by simp)]
  rfl

/-- An order in no dispute is answered without a word about its claim (R131, R132). -/
theorem State.answered_quiet {o : Order} {s : State} (h : ∀ c ∈ s.claim.records, c.concede = false ∧ c.dispute ≠ .conflict) :
    s.answered o = s.modArm fun a => { a with inFlight := none } := by
  unfold State.answered State.claimAnswered
  split
  · rfl
  · split
    · rfl
    · next c hc =>
      obtain ⟨hconcede, hdispute⟩ := h c (State.mem_of_findRec hc)
      rw [if_neg (by simp [hconcede]), if_neg fun hc => hdispute hc.1]

/-- The state in which an answered PUT's effects begin: no order in flight and no current move. -/
def State.putAnswered (s : State) : State :=
  { s with arm := { s.arm with inFlight := none, current := none }, agenda := [.useEnd, .issue] }

/-- A PUT that completes outside STANDALONE ends with its effects (R72, R138). -/
theorem State.completeOrder_put {o : Order} {m : Move} {s t : State} {ring : Bool} (hkind : o.kind = .put)
    (hm : s.arm.current = some m) (hanswered : s.answered o = s.modArm fun a => { a with inFlight := none })
    (hasks : ∀ c ∈ s.claim.records, Asker.move m.volume ∉ c.asks) (hagenda : s.agenda = [])
    (hput : (match m.dest with
      | .drive d => s.putAnswered.putToDrive m d
      | .hatch side => s.putAnswered.putToHatch m side
      | .entry c => s.putAnswered.putToCell m c
      | .slot _ => s.putAnswered.putToSlotDone m) = t) (hmode : t.sys.mode = .active) : s.completeOrder o ring = t := by
  have hend : (s.modArm fun a => { a with inFlight := none }).endMove m = s.putAnswered :=
    State.endMove_free (s := s.modArm fun a => { a with inFlight := none }) hasks hagenda
  have hdone : (s.modArm fun a => { a with inFlight := none }).putDone m = t := by
    rw [State.putDone, hend]
    exact hput
  simp only [State.completeOrder, hanswered, State.modArm_arm, hm, hkind, hdone]
  exact State.examineAlone_of_active hmode

/-! ## A drive becomes MOUNTED -/

/-- The request of a drive that becomes MOUNTED (R25, R53). -/
def Request.mountedOn (d : Nat) (v : Serial) (q : Request) : Request :=
  { q with state := .mounted, drive := some d, reel := some v, phase := .none, roomWait := none, promptPending := none, lineWait := false }

/-- What a PUT to a drive changes before the request's origin is told (R9, R25, R163). -/
def State.mountEffects (r : ReqNo) (d : Nat) (v : Serial) (x : Session) (s : State) : State :=
  (((s.updDrive d (Drive.mountFor r v s.cfg.cleanLimit false x)).countPass v).endReservations r).updReq r (Request.mountedOn d v)

theorem State.enterMounted_eq {r : ReqNo} {d : Nat} {v : Serial} {q : Request} {y : Drive} {s : State} (hq : s.findReq r = some q)
    (hy : s.findDrive d = some y) : s.enterMounted r d v false =
      let t := s.mountEffects r d v (sessionOf q v (s.driveId y) s.acct.stationTime false)
      if q.role = .takenIn then t.sendOutcome r (.mounted (s.driveId y)) else t.reqReport q (.mounted (s.driveId y) (some v)) := by
  simp only [State.enterMounted, hq, hy]
  rfl

/-- The tidings of a mount leave every block but the line and the port. -/
theorem State.enterMounted_frame {r : ReqNo} {d : Nat} {v : Serial} {q : Request} {y : Drive} {s : State} (hq : s.findReq r = some q)
    (hy : s.findDrive d = some y) :
    let t := s.mountEffects r d v (sessionOf q v (s.driveId y) s.acct.stationTime false)
    let u := s.enterMounted r d v false
    u = { t with line := u.line, port := u.port, agenda := u.agenda } := by
  intro t u
  have hu : u = if q.role = .takenIn then t.sendOutcome r (.mounted (s.driveId y)) else t.reqReport q (.mounted (s.driveId y) (some v)) :=
    State.enterMounted_eq hq hy
  rw [hu]
  split
  · rw [State.sendOutcome, State.send_frame]
  · rw [State.reqReport_frame]

/-- Without a cancel the mount ends there (R61). -/
theorem State.mountDone_stands {r : ReqNo} {d : Nat} {v : Serial} {q : Request} {y : Drive} {s : State} (hq : s.findReq r = some q)
    (hy : s.findDrive d = some y) (hcancel : q.cancelPending = false) : s.mountDone r d v = s.enterMounted r d v false := by
  have hfound : (s.enterMounted r d v false).findReq r = some (q.mountedOn d v) := by
    rw [State.enterMounted_frame hq hy]
    change ((((s.updDrive d _).countPass v).endReservations r).updReq r (Request.mountedOn d v)).findReq r = _
    rw [State.findReq_updReq (f := Request.mountedOn d v) fun _ => rfl]
    exact congrArg (Option.map (Request.mountedOn d v)) hq
  simp only [State.mountDone, hfound]
  exact if_neg (by simp [Request.mountedOn, hcancel])

/-! ## PUT -/

theorem State.putAnswered_moveReq (m : Move) (s : State) : s.putAnswered.moveReq m = s.moveReq m := rfl

theorem State.putAnswered_accepted (x : Xfer) (s : State) : (s.accepted x).putAnswered = s.putAnswered.accepted x := by
  rw [State.accepted_eq, State.accepted_eq]
  rfl

theorem State.driveId_accepted (y : Drive) (x : Xfer) (s : State) : (s.accepted x).driveId y = s.driveId y := by
  rw [State.accepted_eq]
  rfl

/-- What is left of ORDER DONE on a PUT to a drive for a request, at the state its effects begin in. -/
def State.onDrive (d : Nat) (v : Serial) (s : State) : State := s.putAnswered.updEntry v fun e => { e with state := .onDrive d }

theorem State.completeOrder_putToDrive {o : Order} {m : Move} {d : Nat} {r : ReqNo} {q : Request} {y : Drive} {s : State}
    (hmode : s.sys.mode = .active) (hkind : o.kind = .put) (hm : s.arm.current = some m) (hdest : m.dest = .drive d) (hclean : m.kind ≠ .clean)
    (hr : m.req = some r) (hq : s.findReq r = some q) (hcancel : q.cancelPending = false) (hy : s.findDrive d = some y)
    (hclaims : ∀ c ∈ s.claim.records, c.concede = false ∧ c.dispute ≠ .conflict ∧ Asker.move m.volume ∉ c.asks) (hagenda : s.agenda = []) :
    s.completeOrder o true = (s.onDrive d m.volume).enterMounted r d m.volume false := by
  have hreq : (s.onDrive d m.volume).moveReq m = some q := by
    change (m.req.bind fun r => s.findReq r) = some q
    rw [hr]
    exact hq
  have hput : s.putAnswered.putToDrive m d = (s.onDrive d m.volume).mountDone q.req d m.volume := by
    change (match m.kind, (s.onDrive d m.volume).moveReq m with
      | .clean, _ => _
      | _, some q => (s.onDrive d m.volume).mountDone q.req d m.volume
      | _, none => _) = _
    rw [hreq]
    cases hk : m.kind <;> first | exact absurd hk hclean | rfl
  have hmounts : (s.onDrive d m.volume).mountDone q.req d m.volume = (s.onDrive d m.volume).enterMounted r d m.volume false := by
    rw [State.findReq_key hq]
    exact State.mountDone_stands (s := s.onDrive d m.volume) hq hy hcancel
  refine State.completeOrder_put hkind hm (State.answered_quiet fun c hc => ⟨(hclaims c hc).1, (hclaims c hc).2.1⟩)
    (fun c hc => (hclaims c hc).2.2) hagenda ?_ ?_
  · rw [hdest, ← hmounts]
    exact hput
  · rw [State.enterMounted_frame (s := s.onDrive d m.volume) hq hy]
    exact hmode

/-- The entries of a reel that has come to a drive: its state, its pass, and the request's Reservations gone (R5, R8, R9). -/
theorem mountEffects_entries (r : ReqNo) (d : Nat) (v : Serial) (z : Session) (s : State) :
    ((s.onDrive d v).mountEffects r d v z).inv.entries = s.inv.entries.map fun e =>
      let e := if e.volume = v then { e with state := .onDrive d, passes := min 65535 (e.passes + 1) } else e
      if (e.reservation.any fun w => decide (w.req = r)) = true then { e with reservation := none } else e := by
  have hends (t : State) : (t.endReservations r).inv.entries = t.inv.entries.map fun e =>
      if (e.reservation.any fun w => decide (w.req = r)) = true then { e with reservation := none } else e := by
    rw [State.endReservations_frame]
  change ((((s.onDrive d v).updDrive d _).countPass v).endReservations r).inv.entries = _
  rw [hends]
  simp only [State.countPass, State.updEntry, State.onDrive, State.modInv_inv, List.map_map, State.updDrive, State.modDrv_inv]
  refine List.map_congr_left fun e _ => ?_
  by_cases hv : e.volume = v <;> simp [hv, satAdd, Config.max16]

/-- A reel without a request has come to its slot (R35, R47, R69, R72). -/
def State.putHome (v : Serial) (s : State) : State :=
  { s.updEntry v fun e => { e with state := .home } with
    arm := { s.arm with inFlight := none, current := none }, agenda := [.useEnd, .issue, .reelHome v, .plan] }

/-- Settles O23: the PUT to a drive, then the PUT to a slot. -/
theorem orderDoneOnAPutToASlot : Obligations.OrderDoneOnAPutToASlot := by
  refine ⟨?drive, ?slot⟩
  case drive =>
    intro x o m ring d r q y s hready hmode hpart hleast hmost ho hkind hloc hm hdest hclean hr hq hcancel hy hclaims passes session
    have hmode' : (s.accepted x).sys.mode = .active := by rwa [State.accepted_sys]
    have hdone := State.orderDone_put (s := s.accepted x) ring (by rw [hmode']; decide) hleast hmost (by rwa [State.accepted_arm]) hkind
    rw [State.completeOrder_putToDrive (s := s.accepted x) hmode' hkind (by rwa [State.accepted_arm]) hdest hclean hr
      (by rwa [State.accepted_findReq]) hcancel (by rwa [State.accepted_findDrive]) (by rwa [State.accepted_claim])
      ((State.accepted_agenda x s).trans hready.2.1)] at hdone
    set w := (s.accepted x).onDrive d m.volume with hw
    have hq' : w.findReq r = some q := (State.accepted_findReq x r s).trans hq
    have hy' : w.findDrive d = some y := (State.accepted_findDrive x d s).trans hy
    have hid : w.driveId y = s.driveId y := State.driveId_accepted y x s
    have hsys : w.sys = s.sys := State.accepted_sys x s
    have hacct : w.acct = s.acct := State.accepted_acct x s
    have hsession : sessionOf q m.volume (w.driveId y) w.acct.stationTime false =
        { session with req := q.req } := by rw [hid, hacct]; rfl
    have htells := State.enterMounted_eq (v := m.volume) hq' hy'
    have hframe := State.enterMounted_frame (v := m.volume) hq' hy'
    dsimp only at htells hframe
    rw [hsession, State.findReq_key hq] at htells hframe
    set t := w.mountEffects r d m.volume session with ht
    set u := w.enterMounted r d m.volume false with hu
    refine ⟨u.reply x .ok (partOf [] x.part), (exec_orderDone ..).trans (congrArg _ (State.host_ok hready (modeCheck_standalone _) hdone
      (asksLast_of_short hpart (by decide)))), ?_, ?_, ?_, ?_, ?_, fun hrole horigin => ⟨?_, ?_⟩, fun hrole hcan => ?_⟩
    · change u.findDrive d = _
      rw [hframe]
      change (w.updDrive d (Drive.mountFor r m.volume w.sys.startup.cleanLimit false session)).findDrive d = _
      rw [State.findDrive_updDrive (f := Drive.mountFor r m.volume w.sys.startup.cleanLimit false session) fun _ => rfl, hy', hsys]
      rfl
    · change u.inv.entries = _
      rw [hframe]
      exact (mountEffects_entries r d m.volume session (s.accepted x)).trans (by rw [State.accepted_inv])
    · change u.rm = _
      rw [hframe]
      change (w.updReq r (Request.mountedOn d m.volume)).rm = _
      rw [State.updReq, State.modRm_rm, show w.rm = s.rm from State.accepted_rm x s]
      rfl
    · change u.arm = _
      rw [hframe]
      change ({ (s.accepted x).arm with inFlight := none, current := none } : Arm) = _
      rw [State.accepted_arm]
    · change u.acct = _
      rw [hframe]
      exact hacct
    · have hport : u = t.report (.request r q.jobTag (.mounted (s.driveId y) (some m.volume))) := by
        rw [htells, if_neg hrole, hid, State.reqReport, State.findReq_key hq]
        exact if_pos (horigin.trans (congrArg (fun z : Sys => z.startup.stationNumber) hsys.symm))
      rw [hport, State.report_reply]
      have hreply : (t.reply x .ok (partOf [] x.part)).port = (Certificates.answered x .ok [] s).port := by
        rw [← State.accepted_reply, hpart]
        rfl
      have hreport {a b : State} (hab : a.port = b.port) (hacct : a.acct = b.acct) (e : ReportBody) :
          (a.report e).port = (b.report e).port := by simp only [State.report, State.modPort_port, hab, hacct]
      exact hreport hreply hacct _
    · change u.line = _
      rw [htells, if_neg hrole, State.reqReport_frame]
      exact State.accepted_line x s
    · change u.line = _
      have hline : t.line = s.line := State.accepted_line x s
      have hsends : t.sendOutcome r (.mounted (w.driveId y)) = queued (.outcome { req := r, event := .mounted (w.driveId y) }) t :=
        State.send_queued ⟨by rw [State.permits, hline, show t.sys = s.sys from hsys]; exact hcan.1, by rw [hline]; exact hcan.2⟩
      rw [htells, if_pos hrole, hsends, hid]
      simp only [queued, hline]
  case slot =>
    intro x o m ring n s hready hmode hpart hleast hmost ho hkind hloc hm hdest hreq hasks
    have hmode' : (s.accepted x).sys.mode = .active := by rwa [State.accepted_sys]
    have hdone := State.orderDone_put (s := s.accepted x) ring (by rw [hmode']; decide) hleast hmost (by rwa [State.accepted_arm]) hkind
    have hhome : (s.accepted x).putAnswered.putToSlotDone m = (s.putHome m.volume).accepted x := by
      have hnone (u : State) : u.moveReturns m = u := by simp [State.moveReturns, State.moveReq, hreq]
      rw [State.putToSlotDone, hnone, State.push_new (s := (s.accepted x).putAnswered.updEntry m.volume _) (l := [.useEnd, .issue]) rfl (by simp),
        State.push_new (l := [.useEnd, .issue, .reelHome m.volume]) rfl (by simp), State.accepted_eq, State.accepted_eq]
      rfl
    have hcomplete := State.completeOrder_put (s := s.accepted x) (t := (s.putHome m.volume).accepted x) (ring := true) hkind
      (by rwa [State.accepted_arm]) (State.answered_of_slot hloc _) (by rwa [State.accepted_claim])
      ((State.accepted_agenda x s).trans hready.2.1) (by rw [hdest]; exact hhome) (by rw [State.accepted_sys]; exact hmode)
    rw [hcomplete] at hdone
    rw [exec_orderDone, State.host_settled hready (modeCheck_standalone _) hdone (asksLast_of_short hpart (by decide))]
    rfl

end Sys2Proof.Machine

/-! SUPPORT. The head of the Transmit Queue, and the HANDOFF witnessed. -/

namespace Sys2Proof.Machine

open Sys2Proof.Certificates

/-! ## The head of the Transmit Queue -/

theorem exec_frameSendStart (s : State) : exec .frameSendStart s = .next s.beginFrame := rfl
theorem exec_contentionLost (s : State) : exec .contentionLost s = .next s.contentionLost.settle := rfl

section

variable {m : TxMsg} {rest : List TxMsg} {s : State}

/-- The head, begun, with the rest of the queue behind it. -/
theorem State.beginFrame_head (hqueue : s.line.txq = m :: rest) (hidle : ∀ n ∈ s.line.txq, n.onLine = false) (hmode : s.sys.mode ≠ .init)
    (hpermits : s.permits m.msg.kind = true) (hplain : isPresence m.msg = false) :
    s.beginFrame = { s with line := { s.line with txq := { m with onLine := true } :: rest } } := by
  have hnone : s.line.txq.any TxMsg.onLine = false := by
    rw [List.any_eq_false]
    intro n hn
    simp [hidle n hn]
  have hmsg : (match m.msg with
      | .presence _ => Msg.presence (s.presenceBody m.tag)
      | x => x) = m.msg := by
    cases h : m.msg with
    | presence b => rw [h] at hplain; exact absurd hplain (by simp [isPresence])
    | _ => rfl
  have hopen : ¬(s.sys.mode = .init ∨ s.line.txq.any TxMsg.onLine = true) := by simp [hmode, hnone]
  unfold State.beginFrame
  rw [if_neg hopen, hqueue]
  dsimp only
  rw [if_pos hpermits]
  exact congrArg (fun x => ({ s with line := { s.line with txq := { m with msg := x, onLine := true } :: rest } } : State)) hmsg

theorem State.keepOnLine_head (h : HeadOnLine m rest s) (n : Nat) :
    s.keepOnLine n = { s with line := { s.line with txq := { m with onLine := false, attempts := n } :: rest } } := by
  have hrest : (rest.map fun t => if t.onLine = true then { t with onLine := false, attempts := n } else t) = rest :=
    (List.map_congr_left fun t ht => if_neg (by simp [h.others t ht])).trans (List.map_id _)
  have hmap : (s.line.txq.map fun t => if t.onLine = true then { t with onLine := false, attempts := n } else t) =
      { m with onLine := false, attempts := n } :: rest := by rw [h.queue, List.map_cons, if_pos h.onLine, hrest]
  rw [← hmap]
  rfl

/-- The queue without its head (R86). -/
def State.withTx (l : List TxMsg) (s : State) : State := { s with line := { s.line with txq := l } }

theorem State.dropOnLine_head (h : HeadOnLine m rest s) : s.dropOnLine = s.withTx rest := by
  have hrest : (rest.filter fun t => !t.onLine) = rest := List.filter_eq_self.mpr fun t ht => by simp [h.others t ht]
  have hfilter : (s.line.txq.filter fun t => !t.onLine) = rest := by
    rw [h.queue, List.filter_cons_of_neg (by simp [h.onLine]), hrest]
  rw [State.dropOnLine, State.modLine, hfilter]
  rfl

/-- A change of score within the band of the line state goes no further (R91, R92). -/
theorem State.score_stays {f : Nat → Nat} (hscored : Scored s) (hstays : lineByScore s.line.state (f s.line.score) = s.line.state) :
    s.score f = { s with line := { s.line with score := f s.line.score } } := by
  have hnext : nextLine s.line.state (f s.line.score) = s.line.state := (nextLine_eq hscored _).trans hstays
  have hscore : s.score f = (s.modLine fun l => { l with score := f s.line.score }).setLine (nextLine s.line.state (f s.line.score)) := by
    unfold State.score
    split
    · next hl => exact absurd hl hscored.1
    · next hl => exact absurd hl hscored.2
    · rfl
  rw [hscore, hnext]
  exact if_pos rfl

/-- A failed attempt before the 4th keeps the message, and raises the score (R88). -/
theorem State.failAttempt_head (h : HeadOnLine m rest s) (hattempts : m.attempts < 3) (hscored : Scored s) {k : Nat}
    (hstays : lineByScore s.line.state (raise_ k s.line.score) = s.line.state) : s.failAttempt k =
      { s with line := { s.line with
        txq := { m with onLine := false, attempts := m.attempts + 1 } :: rest, score := raise_ k s.line.score } } := by
  have hplain : m.tag = .plain := h.plain
  have hkeeps : s.attemptFailed m = { s with line := { s.line with
      txq := { m with onLine := false, attempts := m.attempts + 1 } :: rest } } := by
    have hroom : m.attempts + 1 < Config.maxAttempts := by simp only [Config.maxAttempts]; omega
    have hstands : ¬m.withdrawn = true := by simp [h.kept]
    unfold State.attemptFailed
    split
    · next hleaving => exact absurd (hplain.symm.trans hleaving) (by decide)
    · rw [if_neg hstands, if_pos hroom, State.keepOnLine_head h]
  have hgoes : ¬(m.tag = .leaving ∨ s.line.state = .listen) := by simp [hplain, hscored.1]
  simp only [State.failAttempt, State.onLine_of_head h, if_neg hgoes, hkeeps]
  exact State.score_stays (s := { s with line := { s.line with
    txq := { m with onLine := false, attempts := m.attempts + 1 } :: rest } }) hscored hstays

/-- A witnessed message leaves the queue, its owner acts, and the score falls by one (R88, R91). -/
theorem State.attemptWitnessed_head (h : HeadOnLine m rest s) (hscored : Scored s)
    (hstays : lineByScore s.line.state (s.line.score - 1) = s.line.state) {t : State}
    (howner : (s.withTx rest).ownerWitnessed m.msg = t) (hkept : t.kept = s.kept) :
    s.attemptWitnessed = { t with line := { t.line with score := s.line.score - 1 } } := by
  have hplain : m.tag = .plain := h.plain
  have hsettled : s.dropOnLine.settled m = t := by rw [State.settled, hplain, State.dropOnLine_head h]; exact howner
  have hgoes : ¬(m.tag = .leaving ∨ s.line.state = .listen) := by simp [hplain, hscored.1]
  have hstate : t.line.state = s.line.state := congrArg Kept.lineState hkept
  have hscore : t.line.score = s.line.score := congrArg Kept.score hkept
  simp only [State.attemptWitnessed, State.onLine_of_head h, if_neg hgoes, hsettled]
  rw [State.score_stays (s := t) (by unfold Scored; rw [hstate]; exact hscored) (by rw [hstate, hscore]; exact hstays), hscore]

end

theorem State.updReq_congr {r : ReqNo} {q : Request} {f g : Request → Request} {s : State} (hone : ∀ z ∈ s.rm.queue, z.req = r → z = q)
    (h : f q = g q) : s.updReq r f = s.updReq r g := by
  refine congrArg (fun l => ({ s with rm := { s.rm with queue := l } } : State)) (List.map_congr_left fun z hz => ?_)
  by_cases hr : z.req = r
  · rw [if_pos hr, if_pos hr, hone z hz hr, h]
  · rw [if_neg hr, if_neg hr]

/-! ## A HANDOFF witnessed -/

/-- One record of a resource stays the only one. -/
theorem State.updRec_one {res : Resource} {c : ClaimRec} {f : ClaimRec → ClaimRec} {s : State}
    (hone : ∀ z ∈ s.claim.records, z.res = res → z = c) : ∀ z ∈ (s.updRec res f).claim.records, z.res = res → z = f c := by
  intro z hz hres
  obtain ⟨y, hy, rfl⟩ := List.mem_map.mp hz
  by_cases hyres : y.res = res
  · rw [if_pos hyres, hone y hy hyres]
  · rw [if_neg hyres] at hres
    exact absurd hres hyres

theorem State.updRec_self {res : Resource} {f : ClaimRec → ClaimRec} {s : State} (h : ∀ c, f c = c) : s.updRec res f = s := by
  have hmap : (s.claim.records.map fun c => if c.res = res then f c else c) = s.claim.records := by simp [h]
  rw [State.updRec, State.modClaim, hmap]

/-- The Ask List of a record that some askers have left (R126). -/
def ClaimRec.without (l : List Asker) (c : ClaimRec) : ClaimRec := { c with asks := l.foldl List.erase c.asks }

/-- Askers leave the record of a resource that wants no hold, and the end of its use is tested (R126). -/
theorem State.dropAsks_unwanted {res : Resource} (l : List Asker) : ∀ {c : ClaimRec} {s : State}, s.findRec res = some c →
    (∀ z ∈ s.claim.records, z.res = res → z = c) → c.own = .none →
    ∃ k, l.foldl (fun t a => t.dropAsk res a) s = { s.updRec res (ClaimRec.without l) with agenda := k } := by
  induction l with
  | nil =>
    intro c s hc hone hown
    refine ⟨s.agenda, ?_⟩
    rw [State.updRec_self (f := ClaimRec.without []) fun _ => rfl]
    rfl
  | cons a l ih =>
    intro c s hc hone hown
    have hfirst : ∃ k, s.dropAsk res a = { s.updRec res (ClaimRec.without [a]) with agenda := k } := by
      by_cases ha : a ∈ c.asks
      · refine ⟨((s.updRec res (ClaimRec.without [a])).push .useEnd).agenda, ?_⟩
        rw [← State.push_frame]
        simp only [State.dropAsk, hc, if_pos ha, hown, reduceCtorEq, false_and, if_false]
        rfl
      · refine ⟨s.agenda, ?_⟩
        have hsame : s.updRec res (ClaimRec.without [a]) = s.updRec res id :=
          State.updRec_congr hone (by simp [ClaimRec.without, List.erase_of_not_mem ha])
        rw [hsame, State.updRec_self (f := id) fun _ => rfl]
        simp only [State.dropAsk, hc, if_neg ha]
    obtain ⟨k, hk⟩ := hfirst
    have hfound : ({ s.updRec res (ClaimRec.without [a]) with agenda := k } : State).findRec res = some (c.without [a]) := by
      change (s.updRec res (ClaimRec.without [a])).findRec res = _
      rw [State.findRec_updRec (f := ClaimRec.without [a]) (fun _ => rfl), hc]
      rfl
    obtain ⟨k', hk'⟩ := ih hfound (State.updRec_one (f := ClaimRec.without [a]) hone) hown
    refine ⟨k', ?_⟩
    rw [List.foldl_cons, hk, hk']
    have htwice := State.updRec_updRec (f := ClaimRec.without [a]) (g := ClaimRec.without l) (fun _ => rfl) res s
    have hboth : (fun x => ClaimRec.without l (ClaimRec.without [a] x)) = ClaimRec.without (a :: l) := rfl
    rw [hboth] at htwice
    rw [← htwice]
    rfl

/-! ## A HANDOFF witnessed: the record, the reel and the request -/

/-- The record of a hatch passed to the neighbour (R134). -/
def ClaimRec.handedOff (c : ClaimRec) : ClaimRec :=
  { c with holder := .peer, own := .none, handoffDue := none, owed := none, dropped := false }

/-- The askers that a HANDOFF relieves (R126, R134). -/
def reliefOf (b : HandoffBody) : List Asker := [.move b.volume, .claimUnit] ++ (b.req.map Asker.request).toList

/-- The record of a hatch that has passed to the neighbour, without the asks for it. -/
def State.hatchPassed (b : HandoffBody) (s : State) : State :=
  s.updRec (.hatch b.boundary) fun z => z.handedOff.without (reliefOf b)

/-- The entries without a reel that has departed (R6). -/
def departed (e : Entry) (p : Nat) (l : List Entry) : List Entry :=
  match e.home with
  | .here => l.map fun y => if y.volume = e.volume then { y with state := .away p, reservation := none } else y
  | .station _ => l.filter fun y => decide (y.volume ≠ e.volume)

theorem State.depart_frame {v : Serial} {e : Entry} (p : Nat) {s : State} (he : s.findEntry v = some e) :
    s.depart v p = { s with inv := { s.inv with entries := departed e p s.inv.entries }, agenda := (s.depart v p).agenda } := by
  have hv : e.volume = v := State.findEntry_key he
  subst hv
  simp only [State.depart, he, departed]
  cases e.home <;> rw [State.push_frame] <;> rfl

/-- The hatch passes to the neighbour with its reel (R6, R134): what is left is the hop's request. -/
theorem State.handoffWitnessed_eq {b : HandoffBody} {c : ClaimRec} {e : Entry} {s : State} (hc : s.findRec (.hatch b.boundary) = some c)
    (hone : ∀ z ∈ s.claim.records, z.res = .hatch b.boundary → z = c) (he : s.findEntry b.volume = some e) :
    ∃ k, s.handoffWitnessed b =
      let t : State := { s.hatchPassed b with inv := { s.inv with entries := departed e c.neighbour s.inv.entries }, agenda := k }
      match b.req with
      | some r => t.hopDone r c.neighbour
      | none => t := by
  have hfound : (s.updRec (.hatch b.boundary) ClaimRec.handedOff).findRec (.hatch b.boundary) = some c.handedOff := by
    rw [State.findRec_updRec (f := ClaimRec.handedOff) (fun _ => rfl), hc]
    rfl
  obtain ⟨k, hk⟩ := State.dropAsks_unwanted (reliefOf b) hfound (State.updRec_one (f := ClaimRec.handedOff) hone) rfl
  have hpassed : (s.updRec (.hatch b.boundary) ClaimRec.handedOff).updRec (.hatch b.boundary) (ClaimRec.without (reliefOf b)) =
      s.hatchPassed b := State.updRec_updRec (f := ClaimRec.handedOff) (fun _ => rfl) _ _
  rw [hpassed] at hk
  set t : State := { s.hatchPassed b with agenda := k } with ht
  have he' : t.findEntry b.volume = some e := he
  refine ⟨(t.depart b.volume c.neighbour).agenda, ?_⟩
  have hdeparts : ({ s.hatchPassed b with
      inv := { s.inv with entries := departed e c.neighbour s.inv.entries }
      agenda := (t.depart b.volume c.neighbour).agenda } : State) = t.depart b.volume c.neighbour :=
    (State.depart_frame c.neighbour he').symm
  dsimp only
  rw [hdeparts, ← hk]
  simp only [State.handoffWitnessed, hc]
  cases hreq : b.req with
  | none => rw [reliefOf, hreq]; rfl
  | some r => rw [reliefOf, hreq]; rfl

/-- The request of a hop as its PROXY in FORWARDED (R51, R121). -/
def Request.handedOn (p due : Nat) (q : Request) : Request :=
  { q with role := .proxy, state := .forwarded, hop := 1, server := some p, phase := .none, placeTarget := none, waitEnd := none,
           followUp := none, placeWait := false, lineWait := false, unanswered := false, drive := none, hopTo := none, roomWait := none,
           forwardDue := some due }

section

variable {r : ReqNo} {p : Nat} {q : Request} {s : State}

/-- At its origin the request of a hop becomes a PROXY, and says so (R51). -/
theorem State.hopDone_own (hq : s.findReq r = some q) (hstate : q.state = .hopping) (hexpiry : q.hopExpiry = none)
    (hcancel : q.cancelPending = false) (horigin : r.origin = s.self) : s.hopDone r p =
      (s.updReq r (Request.handedOn p (s.acct.stationTime + s.cfg.forwardCheckInterval))).report (.request r q.jobTag (.forwarded p)) := by
  have hfound : (s.updReq r fun q => { q with hop := 1 }).findReq r = some { q with hop := 1 } := by
    rw [State.findReq_updReq (f := fun q => { q with hop := 1 }) (fun _ => rfl), hq]
    rfl
  have hproxy : (s.updReq r fun q => { q with hop := 1 }).becomeProxy r p =
      (s.updReq r (Request.handedOn p (s.acct.stationTime + s.cfg.forwardCheckInterval))).report (.request r q.jobTag (.forwarded p)) := by
    have hself (t : State) (ht : t.sys = s.sys) : ({ q with hop := 1 } : Request).req.origin = t.self := by
      rw [State.self, State.cfg, ht]
      exact (congrArg ReqNo.origin (State.findReq_key hq)).trans horigin
    simp only [State.becomeProxy, hfound, State.reqReport]
    rw [State.updReq_updReq (f := fun q => { q with hop := 1 }) fun _ => rfl]
    refine (if_pos (hself _ rfl)).trans ?_
    rw [show ({ q with hop := 1 } : Request).req = r from State.findReq_key (s := s) (q := q) hq]
    rfl
  simp only [State.hopDone, hq, hstate, hexpiry, and_self, if_true, horigin, hproxy, hcancel, Bool.false_eq_true, if_false]

/-- At another station than its origin it leaves the queue, with its OUTCOME and its Moved List record (R51, R121). -/
theorem State.hopDone_other (hq : s.findReq r = some q) (hstate : q.state = .hopping) (hexpiry : q.hopExpiry = none)
    (hcancel : q.cancelPending = false) (horigin : r.origin ≠ s.self) : s.hopDone r p =
      (((((s.updReq r fun q => { q with hop := 1 }).sendOutcome r (.moved p)).addMoved r p).endReservations r).delReq r) := by
  simp only [State.hopDone, hq, hstate, hexpiry, and_self, if_true, if_neg horigin, hcancel, Bool.false_eq_true, if_false]

end

theorem filter_map_key {α κ : Type} [DecidableEq κ] (key : α → κ) {f : α → α} (hf : ∀ a, key (f a) = key a) (k : κ) (l : List α) :
    (l.map fun a => if key a = k then f a else a).filter (fun a => decide (key a ≠ k)) = l.filter fun a => decide (key a ≠ k) := by
  induction l with
  | nil => rfl
  | cons a l ih =>
    rw [List.map_cons, List.filter_cons, List.filter_cons, ih]
    by_cases h : key a = k <;> simp [h, hf]

/-- The record of a request handed on stands in the Moved List (R121). -/
theorem State.mem_addMoved (r : ReqNo) (p : Nat) (s : State) : (r, p) ∈ (s.addMoved r p).px.moved := by
  simp only [State.addMoved, State.modPx_px, List.length_append, List.length_singleton, Config.movedListSize]
  rw [List.drop_append_of_le_length (by omega)]
  exact List.mem_append_right _ (List.mem_singleton.mpr rfl)

/-- The record of a resource whose YIELD has been witnessed (R129). -/
def ClaimRec.givenUp (c : ClaimRec) : ClaimRec := { c with holder := .none, own := .none, dropped := false, dispute := .none }

/-- Settles O47: what each end of the attempt at the head leaves, by the kind of its message. -/
theorem attemptsAtTheHead : Obligations.AttemptsAtTheHead := by
  intro m rest s hagenda
  refine ⟨fun hqueue hidle hmode hpermits hplain => ?begins, fun hhead => ?lost, fun hhead hattempts hscored => ⟨?fault, ?unwitnessed⟩, ?witnessed⟩
  case begins => rw [exec_frameSendStart, State.beginFrame_head hqueue hidle hmode hpermits hplain]
  case lost =>
    have hkeeps : s.contentionLost = { s with line := { s.line with txq := { m with onLine := false } :: rest } } := by
      have hstands : ¬m.withdrawn = true := by simp [hhead.kept]
      simp only [State.contentionLost, State.onLine_of_head hhead, if_neg hstands]
      exact State.keepOnLine_head hhead _
    rw [exec_contentionLost, hkeeps]
    exact congrArg _ (State.settle_of_agenda hagenda)
  case fault =>
    intro hstays
    rw [exec_transmitFault, State.failAttempt_head hhead hattempts hscored hstays]
    exact congrArg _ (State.settle_of_agenda hagenda)
  case unwitnessed =>
    intro hnone hscore hstays
    have hpresent : s.anyPresent = false := by simpa [State.anyPresent] using hnone
    have hsame : raise_ 0 s.line.score = s.line.score := by rw [raise_eq]; omega
    rw [exec_attemptUnwitnessed, hpresent, if_neg Bool.false_ne_true,
      State.failAttempt_head hhead hattempts hscored (by rw [hsame]; exact hstays), hsame]
    exact congrArg _ (State.settle_of_agenda hagenda)
  case witnessed =>
    intro hhead hscored hstays w sets
    have ends {t : State} (howner : (s.withTx rest).ownerWitnessed m.msg = t) :
        exec .attemptWitnessed s = .next (State.settle { t with line := { t.line with score := s.line.score - 1 } }) := by
      have hkept : t.kept = s.kept := by
        rw [← howner, State.kept_ownerWitnessed]
        rfl
      rw [exec_attemptWitnessed, State.attemptWitnessed_head hhead hscored hstays howner hkept]
    have quietly {t : State} (howner : (s.withTx rest).ownerWitnessed m.msg = t) (ht : t.agenda = []) :
        exec .attemptWitnessed s = .next { t with line := { t.line with score := s.line.score - 1 } } := by
      rw [ends howner]
      exact congrArg _ (State.settle_of_agenda ht)
    refine ⟨fun b q hm hq hphase => ?seek, fun b q hm hq hone hphase htarget => ?place, fun b c hm hc => ⟨?held, ?hold⟩,
      fun b c hm hc hdispute => ⟨?gives, ?yield⟩, fun b c e hm hc hone he hentry => ?handoff⟩
    case seek =>
      have hq' : (s.withTx rest).findReq b.req = some q := hq
      refine quietly (t := (s.withTx rest).updReq b.req fun z =>
        { z with phase := .window, answers := [], windowEnd := some (s.sys.clock + s.sys.startup.seekWindow) }) ?_ hagenda
      simp only [hm, State.ownerWitnessed, hq', hphase, if_true]
      rfl
    case place =>
      refine quietly (t := (s.withTx rest).updReq b.req fun z =>
        { z with waitEnd := some (s.sys.clock + 1000 * s.sys.startup.presencePeriod) }) ?_ hagenda
      rw [hm]
      exact State.updReq_congr (s := s.withTx rest) hone (if_pos ⟨hphase, htarget⟩)
    case held =>
      intro hstands
      have hc' : (s.withTx rest).findRec b.resource = some c := hc
      refine quietly (t := s.withTx rest) ?_ hagenda
      rw [hm]
      simp only [State.ownerWitnessed, State.holdWitnessed, hc']
      rcases hstands with hdispute | hholder
      · exact if_pos hdispute
      · rw [if_neg hholder, ite_self]
    case hold =>
      intro hdispute hholder
      have hc' : (s.withTx rest).findRec b.resource = some c := hc
      have hobtains : (s.withTx rest).ownerWitnessed m.msg = { (s.withTx rest).updRec b.resource fun z =>
          { z with holder := .self, own := .held, dropped := false, alone := false } with
          agenda := [.obtained b.resource, .useEnd] } := by
        simp only [hm, State.ownerWitnessed, State.holdWitnessed, hc', hdispute, hholder, Bool.false_eq_true, if_false, if_true]
        rw [State.push_of_empty (s := (s.withTx rest).updRec b.resource _) hagenda, State.push_new (l := [.obtained b.resource]) rfl (by simp)]
        rfl
      exact ends hobtains
    case gives =>
      intro hown
      have hc' : (s.withTx rest).findRec b.resource = some c := hc
      refine quietly (t := s.withTx rest) ?_ hagenda
      simp only [hm, State.ownerWitnessed, State.yieldWitnessed, State.endGiveWay, State.endConflict, hc', hown, if_false, ne_eq, hdispute,
        not_false_eq_true, if_true, ite_self]
    case yield =>
      intro hown hone
      have hc' : (s.withTx rest).findRec b.resource = some c := hc
      have hsent : (s.withTx rest).updRec b.resource (fun z => { z with
            holder := .none, own := .none, dropped := false, dispute := if z.dispute = .sent then .none else z.dispute }) =
          (s.withTx rest).updRec b.resource ClaimRec.givenUp := by
        refine State.updRec_congr (s := s.withTx rest) hone ?_
        cases hd : c.dispute <;> simp_all [ClaimRec.givenUp]
      have hfound : ((s.withTx rest).updRec b.resource ClaimRec.givenUp).findRec b.resource = some c.givenUp := by
        rw [State.findRec_updRec (f := ClaimRec.givenUp) (fun _ => rfl), hc']
        rfl
      have hgives : (s.withTx rest).ownerWitnessed m.msg =
          { (s.withTx rest).updRec b.resource ClaimRec.givenUp with agenda := [.claimTest] } := by
        simp only [hm, State.ownerWitnessed, State.yieldWitnessed, hc', hown, if_true, hsent, State.endConflict, hfound, ClaimRec.givenUp,
          ne_eq, reduceCtorEq, not_false_eq_true]
        exact State.push_of_empty (s := (s.withTx rest).updRec b.resource _) hagenda
      exact ends hgives
    case handoff =>
      intro passed left
      obtain ⟨k, hk⟩ := State.handoffWitnessed_eq (s := s.withTx rest) hc hone he
      dsimp only at hk
      set t : State := { (s.withTx rest).hatchPassed b with
        inv := { s.inv with entries := departed e c.neighbour s.inv.entries }, agenda := k } with ht
      have hleft : departed e c.neighbour s.inv.entries = left := by
        cases hhome : e.home <;> simp [departed, left, hhome, State.findEntry_key he]
      have howner : (s.withTx rest).ownerWitnessed m.msg = (s.withTx rest).handoffWitnessed b := by rw [hm]; rfl
      refine ⟨fun hnone => ?_, fun r q hr hq hone' hstate hexpiry hcancel => ?_⟩
      · rw [hnone] at hk
        refine ⟨_, ends (howner.trans hk), ?_, hleft, rfl, rfl, rfl⟩
        change (s.hatchPassed b).claim.records = _
        rw [State.hatchPassed, reliefOf, hnone]
        rfl
      · rw [hr] at hk
        have hhops : (s.withTx rest).handoffWitnessed b = t.hopDone r c.neighbour := hk
        have hq' : t.findReq r = some q := hq
        have hrecords : t.claim.records = passed [.move b.volume, .claimUnit, .request r] := by
          change (s.hatchPassed b).claim.records = _
          rw [State.hatchPassed, reliefOf, hr]
          rfl
        by_cases horigin : r.origin = s.sys.startup.stationNumber
        · have hends := ends (howner.trans (hhops.trans (State.hopDone_own hq' hstate hexpiry hcancel horigin)))
          exact ⟨_, hends, hrecords, fun _ => ⟨hleft, rfl, rfl, rfl⟩, fun h => absurd horigin h⟩
        · have hends := ends (howner.trans (hhops.trans (State.hopDone_other hq' hstate hexpiry hcancel horigin)))
          set v := (t.updReq r fun q => { q with hop := 1 }).sendOutcome r (.moved c.neighbour) with hv
          have hframe : v = { t.updReq r (fun q => { q with hop := 1 }) with line := v.line, port := v.port, agenda := v.agenda } := by
            rw [hv, State.sendOutcome, State.send_frame]
          refine ⟨_, hends, ?_, fun h => absurd h horigin, fun _ => ⟨?_, ?_, fun hcan => ?_⟩⟩
          · change v.claim.records = _
            rw [hframe]
            exact hrecords
          · change (v.rm.queue.filter fun z => decide (z.req ≠ r)) = _
            rw [hframe]
            exact filter_map_key Request.req (f := fun q => { q with hop := 1 }) (fun _ => rfl) r s.rm.queue
          · exact State.mem_addMoved r c.neighbour v
          · have hsends : v = queued (.outcome { req := r, event := .moved c.neighbour }) (t.updReq r fun q => { q with hop := 1 }) :=
              State.send_queued hcan
            change ({ v.line with score := s.line.score - 1 } : Line) = _
            rw [hsends]
            rfl

end Sys2Proof.Machine

/-! SUPPORT. RESTART. -/

namespace Sys2Proof.Machine

open Sys2Proof.Certificates

/-! ## The sessions that a RESTART closes -/

/-- The session of a drive is closed on the accounts as a RESTART closes it (R166, R199; log entry 81). -/
def State.restartClose (s t : State) (d : Drive) : State := match d.session with
  | none => t
  | some z =>
    let acks := ((s.findReq z.req).map Request.promptAcks).getD 0
    let closed := { closedOf s.sys.startup z acks 0 s.acct.stationTime .host with restartClosed := true }
    (t.addCharge z.account closed.charge (z.t0 + z.t1 + z.t2 + z.t3)).offerClosed closed

/-- The parts of a state that say which record a close makes. -/
def State.sameBooks (s t : State) : Prop :=
  t.sys.startup = s.sys.startup ∧ t.rm = s.rm ∧ t.acct.stationTime = s.acct.stationTime

/-- The drive of an address without its session. -/
def Drive.closedAt (d : Nat) (y : Drive) : Drive := if y.address = d then { y with session := none } else y

theorem Drive.closedAt_address (d : Nat) (y : Drive) : (y.closedAt d).address = y.address := by
  unfold Drive.closedAt
  split <;> rfl

theorem Drive.closedAt_session (d : Nat) {y : Drive} (h : y.address ≠ d) : y.closedAt d = y := if_neg h

theorem Acct.offered_stationTime (c : StartUp) (x : ClosedSession) (a : Acct) : (a.offered c x).stationTime = a.stationTime := by
  unfold Acct.offered
  split <;> rfl

theorem State.addCharge_stationTime (n C secs : Nat) (s : State) : (s.addCharge n C secs).acct.stationTime = s.acct.stationTime := by
  simp only [State.addCharge, State.modAcct_acct]
  split <;> rfl

theorem State.offerClosed_drv (c : ClosedSession) (s : State) : (s.offerClosed c).drv = s.drv := by
  unfold State.offerClosed
  dsimp only
  repeat' split
  all_goals rfl

theorem State.closeSession_none {d n : Nat} {cause : CloseCause} {s : State} (h : (s.findDrive d).bind Drive.session = none) :
    s.closeSession d n cause = s := by
  simp only [State.closeSession, h]

theorem State.closeSession_drv {d n : Nat} {cause : CloseCause} {y : Drive} {z : Session} {s : State} (hy : s.findDrive d = some y)
    (hz : y.session = some z) : (s.closeSession d n cause).drv = { s.drv with drives := s.drv.drives.map (Drive.closedAt d) } := by
  simp only [State.closeSession, hy, Option.bind_some, hz]
  rw [State.offerClosed_drv]
  rfl

theorem State.findDrive_of_nodup {y : Drive} {s : State} (h : (s.drv.drives.map Drive.address).Nodup) (hy : y ∈ s.drv.drives) :
    s.findDrive y.address = some y := by
  obtain ⟨y', hy'⟩ : ∃ y', s.findDrive y.address = some y' :=
    Option.isSome_iff_exists.mp (List.find?_isSome.mpr ⟨y, hy, by simp⟩)
  exact List.inj_on_of_nodup_map h (State.mem_of_findDrive hy') hy (State.findDrive_key hy') ▸ hy'

/-- With distinct addresses the close leaves no session in the drive it names. -/
theorem State.closeSession_drives (d n : Nat) (cause : CloseCause) {s : State} (h : (s.drv.drives.map Drive.address).Nodup) :
    (s.closeSession d n cause).drv.drives = s.drv.drives.map (Drive.closedAt d) := by
  cases hs : (s.findDrive d).bind Drive.session with
  | some z =>
    obtain ⟨y, hy, hz⟩ := Option.bind_eq_some_iff.mp hs
    rw [State.closeSession_drv hy hz]
  | none =>
    rw [State.closeSession_none hs]
    refine ((List.map_congr_left fun y hy => ?_).trans (List.map_id _)).symm
    by_cases hd : y.address = d
    · rw [← hd, State.findDrive_of_nodup h hy, Option.bind_some] at hs
      exact (if_pos hd).trans (by rw [← hs]; rfl)
    · exact if_neg hd

theorem find?_closedAt {b d : Nat} (h : b ≠ d) (l : List Drive) :
    (l.map (Drive.closedAt d)).find? (fun y => decide (y.address = b)) = l.find? fun y => decide (y.address = b) := by
  induction l with
  | nil => rfl
  | cons y l ih =>
    rw [List.map_cons, List.find?_cons, List.find?_cons, ih, Drive.closedAt_address]
    by_cases hy : y.address = b
    · rw [Drive.closedAt_session d (hy ▸ h)]
    · simp [hy]

/-- The other drives are found as before. -/
theorem State.findDrive_closeSession {d b n : Nat} {cause : CloseCause} {s : State} (h : b ≠ d) :
    (s.closeSession d n cause).findDrive b = s.findDrive b := by
  cases hs : (s.findDrive d).bind Drive.session with
  | none => rw [State.closeSession_none hs]
  | some z =>
    obtain ⟨y, hy, hz⟩ := Option.bind_eq_some_iff.mp hs
    rw [State.findDrive, State.closeSession_drv hy hz]
    exact find?_closedAt h _

theorem State.closeSession_acct {d : Nat} {y : Drive} {s t u : State} (hbooks : s.sameBooks t) (hacct : t.acct = u.acct)
    (hstartup : u.sys.startup = s.sys.startup)
    (h : (t.findDrive d).bind Drive.session = y.session) : (t.closeSession d 0 .restart).acct = (s.restartClose u y).acct := by
  obtain ⟨hcfg, hrm, htime⟩ := hbooks
  cases hz : y.session with
  | none => rw [State.closeSession_none (h.trans hz), hacct, State.restartClose, hz]
  | some z =>
    obtain ⟨y', hy', hz'⟩ := Option.bind_eq_some_iff.mp (h.trans hz)
    have hreq : t.findReq z.req = s.findReq z.req := by rw [State.findReq, hrm]; rfl
    refine (congrArg Kept.acct (State.kept_closeSession (n := 0) (cause := .restart) hy' hz')).trans ?_
    simp only [State.restartClose, hz]
    rw [State.offerClosed_acct, State.offerClosed_acct, hcfg, hreq, htime, State.addCharge_congr _ _ _ hacct]
    exact congrArg (fun c => Acct.offered c _ _) (hcfg.trans hstartup.symm)

theorem State.closeSession_sys (d n : Nat) (cause : CloseCause) (s : State) : (s.closeSession d n cause).sys = s.sys := by
  cases hs : (s.findDrive d).bind Drive.session with
  | none => rw [State.closeSession_none hs]
  | some z =>
    obtain ⟨y, hy, hz⟩ := Option.bind_eq_some_iff.mp hs
    exact congrArg Kept.sys (State.kept_closeSession hy hz)

theorem State.sameBooks_closeSession {d : Nat} {y : Drive} {s t u : State} (hbooks : s.sameBooks t) (hacct : t.acct = u.acct)
    (hstartup : u.sys.startup = s.sys.startup) (h : (t.findDrive d).bind Drive.session = y.session) :
    s.sameBooks (t.closeSession d 0 .restart) := by
  have hclosed := State.closeSession_acct hbooks hacct hstartup h
  obtain ⟨hcfg, hrm, htime⟩ := hbooks
  refine ⟨?_, (State.closeSession_rm ..).trans hrm, ?_⟩
  · rw [State.closeSession_sys, hcfg]
  · rw [hclosed, State.restartClose]
    cases y.session with
    | none => exact hacct ▸ htime
    | some z =>
      dsimp only
      rw [State.offerClosed_acct, Acct.offered_stationTime, State.addCharge_stationTime, ← hacct, htime]

theorem State.restartClose_startup (s t : State) (d : Drive) : (s.restartClose t d).sys.startup = t.sys.startup := by
  unfold State.restartClose
  cases d.session with
  | none => rfl
  | some z => exact congrArg (fun k => k.sys.startup) (State.kept_offerClosed _ _)

/-- The closes of a list of drives with distinct addresses add to the accounts what their sessions do. -/
theorem State.closeEach_acct {s : State} (l : List Drive) {t u : State} (hl : (l.map Drive.address).Nodup) (hbooks : s.sameBooks t)
    (hacct : t.acct = u.acct) (hstartup : u.sys.startup = s.sys.startup)
    (hopen : ∀ y ∈ l, (t.findDrive y.address).bind Drive.session = y.session) :
    (State.forEach (l.map Drive.address) (fun d t => t.closeSession d 0 .restart) t).acct = (l.foldl s.restartClose u).acct := by
  induction l generalizing t u with
  | nil => exact hacct
  | cons y l ih =>
    obtain ⟨hfresh, hl⟩ := List.nodup_cons.mp hl
    have hy := hopen y (List.mem_cons_self ..)
    refine ih hl (State.sameBooks_closeSession hbooks hacct hstartup hy) (State.closeSession_acct hbooks hacct hstartup hy)
      ((State.restartClose_startup ..).trans hstartup) fun z hz => ?_
    have hne : z.address ≠ y.address := fun e => hfresh (e ▸ List.mem_map_of_mem hz)
    rw [State.findDrive_closeSession hne]
    exact hopen z (List.mem_cons_of_mem _ hz)

theorem State.closeAll_acct {s : State} (h : (s.drv.drives.map Drive.address).Nodup) :
    s.closeAll.acct = (s.drv.drives.foldl s.restartClose s).acct :=
  State.closeEach_acct s.drv.drives h ⟨rfl, rfl, rfl⟩ rfl rfl fun y hy => by rw [State.findDrive_of_nodup h hy, Option.bind_some]

/-- A drive keeps a session only under an address not closed. -/
theorem State.closeEach_sessions (l : List Nat) {t : State} (ht : (t.drv.drives.map Drive.address).Nodup)
    (hopen : ∀ y ∈ t.drv.drives, y.session ≠ none → y.address ∈ l) :
    ∀ y ∈ (State.forEach l (fun d t => t.closeSession d 0 .restart) t).drv.drives, y.session = none := by
  induction l generalizing t with
  | nil => exact fun y hy => by_contra fun hs => List.not_mem_nil (hopen y hy hs)
  | cons d l ih =>
    have hdrives := State.closeSession_drives d 0 .restart ht
    have hsame : Drive.address ∘ Drive.closedAt d = Drive.address := funext (Drive.closedAt_address d)
    refine ih (by rwa [hdrives, List.map_map, hsame]) fun y hy hs => ?_
    rw [hdrives] at hy
    obtain ⟨z, hz, rfl⟩ := List.mem_map.mp hy
    by_cases hd : z.address = d
    · exact absurd (congrArg Drive.session (if_pos hd)) hs
    · rw [Drive.closedAt_session d hd] at hs ⊢
      exact (List.mem_cons.mp (hopen z hz hs)).resolve_left hd

theorem State.closeAll_sessions {s : State} (h : (s.drv.drives.map Drive.address).Nodup) : ∀ y ∈ s.closeAll.drv.drives, y.session = none :=
  State.closeEach_sessions _ h fun _ hy _ => List.mem_map_of_mem hy

theorem State.closeAll_idle {s : State} (h : ∀ d ∈ s.drv.drives, d.session = none) : s.closeAll = s := by
  refine State.forEach_idle fun d _ => State.closeSession_none ?_
  cases hy : s.findDrive d with
  | none => rfl
  | some y => exact h y (State.mem_of_findDrive hy)

/-! ## RESTART -/

theorem exec_restart (x : Xfer) (s : State) : exec (.restart x) s = .next (s.hostCommand x 0 .other State.restart) := rfl

/-- The timers of JOINING, PRESENCE and Silence stop (R198). -/
def State.timersStopped (s : State) : State :=
  ((s.modPort fun p => { p with silenceEnd := none }).modLine fun l => { l with presenceEnd := none }).modSys fun y =>
    { y with listenEnd := none }

theorem State.restart_atOnce {s : State} (hmode : s.sys.mode = .joining ∨ s.sys.mode = .active) (hpending : s.sys.restartPending = false)
    (hline : s.line.state = .detached ∨ s.line.state = .duplicate) : s.restart = .ok ([], s.timersStopped.completeRestart) := by
  unfold State.restart
  rw [if_neg (by rcases hmode with h | h <;> simp [h]), if_neg (by simp [hpending]), if_pos hline]
  rfl

theorem State.restart_leaving {s : State} (hmode : s.sys.mode = .joining ∨ s.sys.mode = .active) (hpending : s.sys.restartPending = false)
    (hdetached : s.line.state ≠ .detached) (hduplicate : s.line.state ≠ .duplicate) :
    s.restart = .ok ([], (s.timersStopped.modSys fun y => { y with restartPending := true }).queueLeaving) := by
  unfold State.restart
  rw [if_neg (by rcases hmode with h | h <;> simp [h]), if_neg (by simp [hpending]), if_neg (by simp [hdetached, hduplicate])]
  rfl

theorem State.queueLeaving_room {s : State} (hfree : ∀ m ∈ s.line.txq, isPresence m.msg = false) (hroom : s.line.txq.length < 16) :
    s.queueLeaving = { s with line := { s.line with txq :=
      { msg := .presence (s.presenceBody .leaving), attempts := 0, onLine := false, withdrawn := false, tag := .leaving } ::
        s.line.txq } } := by
  have hwithdraw : s.withdraw isPresence = s := State.withdraw_of_none hfree
  simp only [State.queueLeaving, hwithdraw]
  exact if_neg (Nat.not_le.mpr hroom)

theorem State.completeRestart_agenda (s : State) : s.completeRestart.agenda = [] := rfl

section

variable {x : Xfer} {s : State}

theorem exec_restart_atOnce (hready : Ready x 0 s) (hpart : x.part = 0) (hmode : s.sys.mode = .joining ∨ s.sys.mode = .active)
    (hpending : s.sys.restartPending = false) (hline : s.line.state = .detached ∨ s.line.state = .duplicate) :
    exec (.restart x) s = .next ((s.accepted x).timersStopped.completeRestart.reply x .ok (partOf [] x.part)) := by
  have hother : s.sys.mode ≠ .standalone := by rcases hmode with h | h <;> simp [h]
  have hrestart := State.restart_atOnce (s := s.accepted x) (by rwa [State.accepted_sys]) (by rwa [State.accepted_sys])
    (by rwa [State.accepted_line])
  rw [exec_restart, State.host_ok hready (modeCheck_other hother) hrestart (asksLast_of_short hpart (by decide))]
  exact congrArg _ (State.settle_of_agenda rfl)

end

/-- The end of a RESTART keeps of a state what its closes have made of it. -/
theorem State.completeRestart_acct (s : State) : s.completeRestart.acct = s.closeAll.acct := by
  have h : s.completeRestart.acct = s.closeAll.reportListen.acct := rfl
  rw [h, State.reportListen]
  split <;> rfl

theorem State.reportListen_drv (s : State) : s.reportListen.drv = s.drv := by
  unfold State.reportListen
  split <;> rfl

theorem State.completeRestart_sys (s : State) :
    s.completeRestart.sys = { s.sys with mode := .init, listenEnd := none, restartPending := false } := by
  have hclosed : s.closeAll.sys = s.sys := State.forEach_unchanged State.sys (fun d t => State.closeSession_sys d 0 .restart t) _ s
  have hlisten : s.closeAll.reportListen.sys = s.closeAll.sys := by
    unfold State.reportListen
    split <;> rfl
  rw [← hclosed, ← hlisten]
  rfl

theorem restartDrive_session (y : Drive) : (restartDrive y).session = y.session := by
  unfold restartDrive
  dsimp only
  split <;> rfl

/-- The closes go by the books alone. -/
theorem State.restartCloses_congr {s s' : State} (l : List Drive) {t t' : State} (hbooks : s.sameBooks s') (hacct : t'.acct = t.acct)
    (hstartup : t'.sys.startup = t.sys.startup) : (l.foldl s'.restartClose t').acct = (l.foldl s.restartClose t).acct := by
  induction l generalizing t t' with
  | nil => exact hacct
  | cons y l ih =>
    refine ih ?_ (by rw [State.restartClose_startup, State.restartClose_startup, hstartup])
    obtain ⟨hcfg, hrm, htime⟩ := hbooks
    cases hz : y.session with
    | none => simp only [State.restartClose, hz, hacct]
    | some z =>
      have hreq : s'.findReq z.req = s.findReq z.req := by rw [State.findReq, hrm]; rfl
      simp only [State.restartClose, hz]
      rw [State.offerClosed_acct, State.offerClosed_acct, hcfg, hreq, htime, State.addCharge_congr _ _ _ hacct]
      exact congrArg (fun c => Acct.offered c _ _) hstartup

/-- Settles O39. -/
theorem restartLeavesOrEnds : Obligations.RestartLeavesOrEnds := by
  intro x s hready hpart hmode hpending
  refine ⟨fun hline hidle => ?empty, fun hline hnodup => ?sessions, fun hdetached hduplicate hfree hroom => ?leaving⟩
  case empty =>
    refine ⟨_, exec_restart_atOnce hready hpart hmode hpending hline, ?_⟩
    have hclosed : (s.accepted x).timersStopped.closeAll = (s.accepted x).timersStopped :=
      State.closeAll_idle (by rw [State.accepted_eq]; exact hidle)
    have hlisten : (s.accepted x).timersStopped.line.state ≠ .listen := by
      rw [State.accepted_eq]
      rcases hline with h | h <;> exact fun e => LineState.noConfusion (h.symm.trans e)
    have hreported : (s.accepted x).timersStopped.closeAll.reportListen =
        (s.accepted x).timersStopped.report (.line (s.accepted x).timersStopped.line.state .listen 0) := by
      rw [hclosed]
      exact if_neg hlisten
    have hsys := State.completeRestart_sys (s.accepted x).timersStopped
    rw [State.accepted_eq] at hsys hreported ⊢
    refine ⟨hsys.trans (by simp [State.timersStopped, hpending]), ?_⟩
    simp only [State.completeRestart, hreported]
    refine ⟨rfl, rfl, rfl, rfl, rfl, rfl, rfl, rfl, rfl, rfl, rfl, rfl, ?_, rfl, rfl⟩
    exact apply_ite Port.reportsLost _ _ _
  case sessions =>
    intro close
    set t := (s.accepted x).timersStopped with ht
    have hdrives : t.drv = s.drv := by rw [ht, State.accepted_eq]; rfl
    refine ⟨_, exec_restart_atOnce hready hpart hmode hpending hline, ?_, rfl, ?_, ?_⟩
    · exact (State.completeRestart_sys t).trans (by rw [ht, State.accepted_eq, State.timersStopped]; simp [hpending])
    · calc t.completeRestart.acct = t.closeAll.acct := State.completeRestart_acct t
        _ = (t.drv.drives.foldl t.restartClose t).acct := State.closeAll_acct (by rwa [hdrives])
        _ = (s.drv.drives.foldl close s).acct := by
          rw [hdrives]
          have hbooks : s.sameBooks t := by rw [ht, State.accepted_eq]; exact ⟨rfl, rfl, rfl⟩
          exact State.restartCloses_congr _ hbooks (by rw [ht, State.accepted_eq]; rfl) hbooks.1
    · intro d hd
      obtain ⟨y, hy, rfl⟩ : ∃ y ∈ t.closeAll.drv.drives, restartDrive y = d := by
        rw [← State.reportListen_drv]; exact List.mem_map.mp hd
      rw [restartDrive_session]
      exact State.closeAll_sessions (by rwa [hdrives]) y hy
  case leaving =>
    have hother : s.sys.mode ≠ .standalone := by rcases hmode with h | h <;> simp [h]
    set t : State :=
      { s with
        sys := { s.sys with listenEnd := none, restartPending := true }
        line := { s.line with presenceEnd := none, txq :=
          { msg := .presence (s.presenceBody .leaving), attempts := 0, onLine := false, withdrawn := false, tag := .leaving } ::
            s.line.txq }
        port := { s.port with silenceEnd := none } } with ht
    have hrestart : (s.accepted x).restart = .ok ([], t.accepted x) := by
      rw [State.restart_leaving (by rwa [State.accepted_sys]) (by rwa [State.accepted_sys]) (by rwa [State.accepted_line])
        (by rwa [State.accepted_line]), State.queueLeaving_room (by rw [State.accepted_eq]; exact hfree)
        (by rw [State.accepted_eq]; exact hroom), State.accepted_eq, State.accepted_eq]
      have hstopped : (if t.port.lastHeartbeat = some (!x.heartbeat)
          then t.port.silenceEnd.map fun _ => t.sys.clock + 1000 * t.sys.startup.silenceLimit else t.port.silenceEnd) = none := ite_self _
      rw [hstopped]
      rfl
    intro leaving
    rw [exec_restart, State.host_taken hready (modeCheck_other hother) hrestart (asksLast_of_short hpart (by decide)) hready.2.1, hpart]
    rfl

end Sys2Proof.Machine

/-! SUPPORT. The bounds and the distinct names of the tables (R1 to R3, R20, R40, R67, R89, R140, R173, R187): every change of a table, every
operation in the model's order, and every command. -/

namespace Sys2Proof.Machine

open Sys2Proof.Certificates

/-! ## The tables, one change at a time -/

theorem insertReq_perm (q : Request) (l : List Request) : (insertReq q l).Perm (q :: l) := by
  induction l with
  | nil => exact .refl _
  | cons a l ih =>
    unfold insertReq
    split
    · exact .refl _
    · exact (ih.cons a).trans (.swap q a l)

/-- The reels in the table with those under way to it (R3). -/
def State.load (s : State) : Nat := s.inv.entries.length + s.inv.hatchArrivals.length + s.shelfArrivals

theorem tableRoom_pos_iff (s : State) : 1 ≤ s.tableRoom ↔ s.load < 600 := by
  unfold State.tableRoom Config.reelTableSize State.load
  omega

/-- The cell awaits a reel from the shelf. -/
def isShelf : CellState → Bool
  | .expecting _ .shelf => true
  | _ => false

theorem State.shelfArrivals_eq (s : State) : s.shelfArrivals = s.inv.cells.countP isShelf := by
  rw [List.countP_eq_length_filter]
  rfl

section

variable {s : State} (h : s.Bounded)

include h

theorem bounded_modClaim (f : Claim → Claim) : (s.modClaim f).Bounded := { h with }
theorem bounded_modPx (f : Px → Px) : (s.modPx f).Bounded := { h with }
theorem bounded_withAgenda (a : List Work) : (s.withAgenda a).Bounded := { h with }
theorem bounded_withPending (l : List Instr) : (s.withPending l).Bounded := { h with }

theorem bounded_modSys {f : Sys → Sys} (hmode : (f s.sys).mode = s.sys.mode) (hstart : (f s.sys).startup = s.sys.startup) :
    (s.modSys f).Bounded :=
  { h with
    origins := fun q hq hrole => (h.origins q hq hrole).trans (congrArg StartUp.stationNumber hstart).symm
    quiet := fun hm => h.quiet (hmode.symm.trans hm) }

theorem bounded_modInv {f : Inv → Inv} (hentries : (f s.inv).entries = s.inv.entries) (hcells : (f s.inv).cells = s.inv.cells)
    (harrivals : (f s.inv).hatchArrivals = s.inv.hatchArrivals) : (s.modInv f).Bounded := by
  have hshelf : (s.modInv f).shelfArrivals = s.shelfArrivals := by
    unfold State.shelfArrivals
    rw [State.modInv_inv, hcells]
  exact { h with
    reels := by rw [State.modInv_inv, hentries, harrivals, hshelf]; exact h.reels
    volumes := by rw [State.modInv_inv, hentries]; exact h.volumes
    slots := by rw [State.modInv_inv, hentries]; exact h.slots }

theorem bounded_modDrv {f : Drv → Drv} (hdrives : (f s.drv).drives.map Drive.address = s.drv.drives.map Drive.address) :
    (s.modDrv f).Bounded := by
  obtain ⟨hnodup, hrange⟩ := h.addresses
  refine { h with
    drives := by rw [State.modDrv_drv, ← List.length_map (f := Drive.address), hdrives, List.length_map]; exact h.drives
    addresses := ⟨by rw [State.modDrv_drv, hdrives]; exact hnodup, fun d hd => ?_⟩ }
  have hmem : d.address ∈ s.drv.drives.map Drive.address := hdrives ▸ List.mem_map_of_mem hd
  obtain ⟨y, hy, heq⟩ := List.mem_map.mp hmem
  exact heq ▸ hrange y hy

theorem bounded_modArm {f : Arm → Arm} (hqueue : (f s.arm).queue.length ≤ s.arm.queue.length) : (s.modArm f).Bounded :=
  { h with moves := hqueue.trans h.moves }

theorem bounded_modLine {f : Line → Line} (hqueue : (f s.line).txq.length ≤ s.line.txq.length) : (s.modLine f).Bounded :=
  { h with messages := hqueue.trans h.messages }

theorem bounded_modPanel {f : Panel → Panel} (hprompts : (f s.panel).prompts.map Prompt.key = s.panel.prompts.map Prompt.key) :
    (s.modPanel f).Bounded :=
  { h with
    prompts := by rw [State.modPanel_panel, ← List.length_map (f := Prompt.key), hprompts, List.length_map]; exact h.prompts
    promptNames := by rw [State.modPanel_panel, hprompts]; exact h.promptNames }

theorem bounded_modAcct {f : Acct → Acct} (hclosed : (f s.acct).closed.length ≤ s.acct.closed.length) : (s.modAcct f).Bounded :=
  { h with sessions := hclosed.trans h.sessions }

theorem bounded_modPort {f : Port → Port} (hreports : (f s.port).reports.length ≤ s.port.reports.length) : (s.modPort f).Bounded :=
  { h with reports := hreports.trans h.reports }

/-! ## The Mount Queue -/

/-- A change of the records that keeps the numbers, and takes no record in that was not taken in (R40, R42). -/
theorem bounded_modRm {f : Rm → Rm} {g : Request → Request} (hqueue : (f s.rm).queue = s.rm.queue.map g)
    (hg : ∀ q, (g q).req = q.req ∧ ((g q).role ≠ .takenIn → q.role ≠ .takenIn)) : (s.modRm f).Bounded := by
  have hnumbers : ((s.rm.queue.map g).map Request.req) = s.rm.queue.map Request.req := by
    rw [List.map_map]
    exact List.map_congr_left fun q _ => (hg q).1
  refine { h with
    requests := by rw [State.modRm_rm, hqueue, List.length_map]; exact h.requests
    numbers := by rw [State.modRm_rm, hqueue, hnumbers]; exact h.numbers
    origins := fun q hq hrole => ?_
    quiet := fun hm => by rw [State.modRm_rm, hqueue, h.quiet hm]; rfl }
  rw [State.modRm_rm, hqueue] at hq
  obtain ⟨p, hp, rfl⟩ := List.mem_map.mp hq
  rw [(hg p).1]
  exact h.origins p hp ((hg p).2 hrole)

theorem bounded_updReq (r : ReqNo) {f : Request → Request}
    (hf : ∀ q, (f q).req = q.req ∧ ((f q).role ≠ .takenIn → q.role ≠ .takenIn)) : (s.updReq r f).Bounded := by
  refine bounded_modRm h rfl fun q => ?_
  split
  · exact hf q
  · exact ⟨rfl, id⟩

theorem bounded_delReq (r : ReqNo) : (s.delReq r).Bounded :=
  { h with
    requests := (List.length_filter_le ..).trans h.requests
    numbers := h.numbers.sublist (List.filter_sublist.map _)
    origins := fun q hq => h.origins q (List.mem_filter.mp hq).1
    quiet := fun hm => by
      have hnone := h.quiet hm
      unfold State.delReq
      rw [State.modRm_rm, hnone]
      rfl }

theorem bounded_addReq {q : Request} (hmode : s.sys.mode ≠ .init) (hroom : s.rm.queue.length < 32)
    (hfresh : ∀ p ∈ s.rm.queue, p.req ≠ q.req) (horigin : q.role ≠ .takenIn → q.req.origin = s.sys.startup.stationNumber) :
    (s.addReq q).Bounded := by
  have hperm := insertReq_perm q s.rm.queue
  refine { h with
    requests := ?_
    numbers := ?_
    origins := fun p hp hrole => ?_
    quiet := fun hm => absurd hm hmode }
  · have hlen := hperm.length_eq
    rw [List.length_cons] at hlen
    exact hlen.trans_le hroom
  · refine (hperm.map Request.req).nodup_iff.mpr (List.nodup_cons.mpr ⟨fun hmem => ?_, h.numbers⟩)
    obtain ⟨p, hp, heq⟩ := List.mem_map.mp hmem
    exact hfresh p hp heq
  · rcases List.mem_cons.mp (hperm.mem_iff.mp hp) with rfl | hold
    · exact horigin hrole
    · exact h.origins p hold hrole

/-! ## The Reel Table -/

theorem bounded_entries_map {f : Inv → Inv} {g : Entry → Entry} (hentries : (f s.inv).entries = s.inv.entries.map g)
    (hg : ∀ e, (g e).volume = e.volume ∧ (g e).slot = e.slot) (hcells : (f s.inv).cells = s.inv.cells)
    (harrivals : (f s.inv).hatchArrivals = s.inv.hatchArrivals) : (s.modInv f).Bounded := by
  have hshelf : (s.modInv f).shelfArrivals = s.shelfArrivals := by
    unfold State.shelfArrivals
    rw [State.modInv_inv, hcells]
  have hvolumes : (s.inv.entries.map g).map Entry.volume = s.inv.entries.map Entry.volume := by
    rw [List.map_map]
    exact List.map_congr_left fun e _ => (hg e).1
  have hslots : (s.inv.entries.map g).filterMap Entry.slot = s.inv.entries.filterMap Entry.slot := by
    rw [List.filterMap_map]
    exact List.filterMap_congr fun e _ => (hg e).2
  exact { h with
    reels := by rw [State.modInv_inv, hentries, harrivals, hshelf, List.length_map]; exact h.reels
    volumes := by rw [State.modInv_inv, hentries, hvolumes]; exact h.volumes
    slots := by rw [State.modInv_inv, hentries, hslots]; exact h.slots }

theorem bounded_updEntry (v : Serial) {f : Entry → Entry} (hf : ∀ e, (f e).volume = e.volume ∧ (f e).slot = e.slot) :
    (s.updEntry v f).Bounded := by
  refine bounded_entries_map h (g := fun e => if e.volume = v then f e else e) rfl (fun e => ?_) rfl rfl
  split
  · exact hf e
  · exact ⟨rfl, rfl⟩

theorem bounded_endReservations (r : ReqNo) : (s.endReservations r).Bounded := by
  refine bounded_entries_map h rfl (fun e => ?_) rfl rfl
  split
  · split <;> exact ⟨rfl, rfl⟩
  · exact ⟨rfl, rfl⟩

theorem bounded_delEntry (v : Serial) : (s.delEntry v).Bounded :=
  { h with
    reels := (Nat.add_le_add_right (Nat.add_le_add_right (List.length_filter_le ..) _) _).trans h.reels
    volumes := h.volumes.sublist (List.filter_sublist.map _)
    slots := h.slots.sublist (List.filter_sublist.filterMap _) }

theorem bounded_addEntry {e : Entry} (hroom : s.load < 600)
    (hvolume : s.findEntry e.volume = none) (hslot : ∀ n, e.slot = some n → s.slotNamed n = false) : (s.addEntry e).Bounded := by
  have hfresh : ∀ a ∈ s.inv.entries, a.volume ≠ e.volume := by simpa [State.findEntry] using hvolume
  refine { h with
    reels := ?_
    volumes := ?_
    slots := ?_ }
  · unfold State.addEntry
    rw [State.modInv_inv, List.length_append, List.length_singleton]
    show s.inv.entries.length + 1 + s.inv.hatchArrivals.length + s.shelfArrivals ≤ 600
    unfold State.load at hroom
    omega
  · unfold State.addEntry
    rw [State.modInv_inv, List.map_append, List.map_singleton]
    refine h.volumes.append (List.nodup_singleton _) fun v hv he => ?_
    obtain ⟨a, ha, rfl⟩ := List.mem_map.mp hv
    exact hfresh a ha (List.mem_singleton.mp he)
  · unfold State.addEntry
    rw [State.modInv_inv, List.filterMap_append]
    cases hnone : e.slot with
    | none => simpa [hnone] using h.slots
    | some n =>
      have hfree : ∀ a ∈ s.inv.entries, a.slot ≠ some n := by simpa [State.slotNamed] using hslot n hnone
      simp only [List.filterMap_cons, hnone, List.filterMap_nil]
      refine h.slots.append (List.nodup_singleton _) fun m hm he => ?_
      obtain ⟨a, ha, heq⟩ := List.mem_filterMap.mp hm
      exact hfree a ha (heq.trans (congrArg some (List.mem_singleton.mp he)))

theorem bounded_dropArrival (r : ReqNo) : (s.dropArrival r).Bounded :=
  { h with
    reels := (Nat.add_le_add_right (Nat.add_le_add_left (List.length_erase_le ..) _) _).trans h.reels }

theorem bounded_modInv_cells {f : Inv → Inv} (hentries : (f s.inv).entries = s.inv.entries)
    (hcells : s.inv.entries.length + s.inv.hatchArrivals.length + (f s.inv).cells.countP isShelf ≤ 600)
    (harrivals : (f s.inv).hatchArrivals = s.inv.hatchArrivals) : (s.modInv f).Bounded :=
  { h with
    reels := by rw [State.shelfArrivals_eq, State.modInv_inv, hentries, harrivals]; exact hcells
    volumes := by rw [State.modInv_inv, hentries]; exact h.volumes
    slots := by rw [State.modInv_inv, hentries]; exact h.slots }

theorem bounded_putCell (c : Nat) {st : CellState} (hst : isShelf st = false) : (s.putCell c st).Bounded := by
  refine bounded_modInv_cells h rfl ?_ rfl
  have hreels := h.reels
  rw [State.shelfArrivals_eq] at hreels
  have hset : (s.inv.cells.set c st).countP isShelf ≤ s.inv.cells.countP isShelf := by
    rcases Nat.lt_or_ge c s.inv.cells.length with hc | hc
    · rw [List.countP_set hc, hst]
      simp
    · rw [List.set_eq_of_length_le hc]
  exact (Nat.add_le_add_left hset _).trans hreels

/-- A cell that awaits a reel from the shelf is an arrival more (R3). -/
theorem bounded_putCell_room (c : Nat) (st : CellState) (hroom : s.load < 600) : (s.putCell c st).Bounded := by
  refine bounded_modInv_cells h rfl ?_ rfl
  unfold State.load at hroom
  rw [State.shelfArrivals_eq] at hroom
  have hset : (s.inv.cells.set c st).countP isShelf ≤ s.inv.cells.countP isShelf + 1 := by
    rcases Nat.lt_or_ge c s.inv.cells.length with hc | hc
    · rw [List.countP_set hc]
      split_ifs <;> omega
    · rw [List.set_eq_of_length_le hc]
      exact Nat.le_succ _
  dsimp only
  omega

/-! ## The other tables -/

theorem bounded_report (b : ReportBody) : (s.report b).Bounded := by
  refine { h with reports := ?_ }
  unfold State.report
  rw [State.modPort_port]
  split
  next hroom =>
    rw [List.length_append, List.length_singleton]
    exact hroom
  · exact h.reports

theorem bounded_push (w : Work) : (s.push w).Bounded := by
  unfold State.push
  split
  · exact h
  · exact bounded_withAgenda h _

theorem bounded_updDrive (d : Nat) {f : Drive → Drive} (hf : ∀ x, (f x).address = x.address) : (s.updDrive d f).Bounded := by
  refine bounded_modDrv h ?_
  rw [List.map_map]
  refine List.map_congr_left fun x _ => ?_
  dsimp only [Function.comp_apply]
  split
  · exact hf x
  · rfl

theorem bounded_updRec (res : Resource) (f : ClaimRec → ClaimRec) : (s.updRec res f).Bounded := bounded_modClaim h _

theorem bounded_updPrompt (k : PromptKey) {f : Prompt → Prompt} (hf : ∀ p, (f p).key = p.key) : (s.updPrompt k f).Bounded := by
  refine bounded_modPanel h ?_
  rw [List.map_map]
  refine List.map_congr_left fun p _ => ?_
  dsimp only [Function.comp_apply]
  split
  · exact hf p
  · rfl

theorem bounded_prompts_filter {f : Panel → Panel} {keep : Prompt → Bool}
    (hprompts : (f s.panel).prompts = s.panel.prompts.filter keep) : (s.modPanel f).Bounded :=
  { h with
    prompts := by rw [State.modPanel_panel, hprompts]; exact (List.length_filter_le ..).trans h.prompts
    promptNames := by rw [State.modPanel_panel, hprompts]; exact h.promptNames.sublist (List.filter_sublist.map _) }

theorem bounded_addPrompt {p : Prompt} (hroom : s.panel.prompts.length < 16) (hfresh : s.findPrompt p.key = none) :
    (s.modPanel fun u => { u with prompts := u.prompts ++ [p] }).Bounded := by
  have hnone : ∀ q ∈ s.panel.prompts, q.key ≠ p.key := by simpa [State.findPrompt] using hfresh
  refine { h with prompts := ?_, promptNames := ?_ }
  · rw [State.modPanel_panel, List.length_append, List.length_singleton]
    exact hroom
  · rw [State.modPanel_panel, List.map_append, List.map_singleton]
    refine h.promptNames.append (List.nodup_singleton _) fun k hk hp => ?_
    obtain ⟨q, hq, rfl⟩ := List.mem_map.mp hk
    exact hnone q hq (List.mem_singleton.mp hp)

end

/-! ## What a step may lead to -/

/-- What every part of a step keeps, from its first state to where it stands: the bounds, and that no press of ACK stands. -/
structure State.LeadsTo (i s : State) : Prop where
  bounded : i.Bounded → s.Bounded
  press : i.panel.ackPress = none → s.panel.ackPress = none

theorem State.LeadsTo.refl (s : State) : s.LeadsTo s := ⟨id, id⟩

theorem leads_forEach {α : Type} {i : State} (l : List α) {f : α → State → State} (hf : ∀ x t, i.LeadsTo t → i.LeadsTo (f x t)) {s : State}
    (h : i.LeadsTo s) : i.LeadsTo (State.forEach l f s) := by
  unfold State.forEach
  induction l generalizing s with
  | nil => exact h
  | cons x l ih => exact ih (hf x s h)

theorem leads_ite {i t u : State} {c : Prop} [Decidable c] (ht : i.LeadsTo t) (hu : i.LeadsTo u) : i.LeadsTo (if c then t else u) := by
  split
  · exact ht
  · exact hu

section

variable {i s : State} (h : i.LeadsTo s)

include h

theorem leads_modClaim (f : Claim → Claim) : i.LeadsTo (s.modClaim f) :=
  ⟨fun hi => bounded_modClaim (h.bounded hi) f, h.press⟩

theorem leads_modPx (f : Px → Px) : i.LeadsTo (s.modPx f) :=
  ⟨fun hi => bounded_modPx (h.bounded hi) f, h.press⟩

theorem leads_withAgenda (a : List Work) : i.LeadsTo (s.withAgenda a) :=
  ⟨fun hi => bounded_withAgenda (h.bounded hi) a, h.press⟩

theorem leads_withPending (l : List Instr) : i.LeadsTo (s.withPending l) :=
  ⟨fun hi => bounded_withPending (h.bounded hi) l, h.press⟩

theorem leads_modSys {f : Sys → Sys} (hmode : (f s.sys).mode = s.sys.mode) (hstart : (f s.sys).startup = s.sys.startup) :
    i.LeadsTo (s.modSys f) :=
  ⟨fun hi => bounded_modSys (h.bounded hi) hmode hstart, h.press⟩

theorem leads_modInv {f : Inv → Inv} (hentries : (f s.inv).entries = s.inv.entries) (hcells : (f s.inv).cells = s.inv.cells)
    (harrivals : (f s.inv).hatchArrivals = s.inv.hatchArrivals) : i.LeadsTo (s.modInv f) :=
  ⟨fun hi => bounded_modInv (h.bounded hi) hentries hcells harrivals, h.press⟩

theorem leads_modDrv {f : Drv → Drv} (hdrives : (f s.drv).drives.map Drive.address = s.drv.drives.map Drive.address) :
    i.LeadsTo (s.modDrv f) :=
  ⟨fun hi => bounded_modDrv (h.bounded hi) hdrives, h.press⟩

theorem leads_modArm {f : Arm → Arm} (hqueue : (f s.arm).queue.length ≤ s.arm.queue.length) : i.LeadsTo (s.modArm f) :=
  ⟨fun hi => bounded_modArm (h.bounded hi) hqueue, h.press⟩

theorem leads_modLine {f : Line → Line} (hqueue : (f s.line).txq.length ≤ s.line.txq.length) : i.LeadsTo (s.modLine f) :=
  ⟨fun hi => bounded_modLine (h.bounded hi) hqueue, h.press⟩

theorem leads_modPanel {f : Panel → Panel} (hprompts : (f s.panel).prompts.map Prompt.key = s.panel.prompts.map Prompt.key)
    (hpress : s.panel.ackPress = none → (f s.panel).ackPress = none) : i.LeadsTo (s.modPanel f) :=
  ⟨fun hi => bounded_modPanel (h.bounded hi) hprompts, fun hi => hpress (h.press hi)⟩

theorem leads_modAcct {f : Acct → Acct} (hclosed : (f s.acct).closed.length ≤ s.acct.closed.length) : i.LeadsTo (s.modAcct f) :=
  ⟨fun hi => bounded_modAcct (h.bounded hi) hclosed, h.press⟩

theorem leads_modPort {f : Port → Port} (hreports : (f s.port).reports.length ≤ s.port.reports.length) :
    i.LeadsTo (s.modPort f) :=
  ⟨fun hi => bounded_modPort (h.bounded hi) hreports, h.press⟩

theorem leads_modRm {f : Rm → Rm} {g : Request → Request} (hqueue : (f s.rm).queue = s.rm.queue.map g)
    (hg : ∀ q, (g q).req = q.req ∧ ((g q).role ≠ .takenIn → q.role ≠ .takenIn)) : i.LeadsTo (s.modRm f) :=
  ⟨fun hi => bounded_modRm (h.bounded hi) hqueue hg, h.press⟩

theorem leads_updReq (r : ReqNo) {f : Request → Request}
    (hf : ∀ q, (f q).req = q.req ∧ ((f q).role ≠ .takenIn → q.role ≠ .takenIn)) : i.LeadsTo (s.updReq r f) :=
  ⟨fun hi => bounded_updReq (h.bounded hi) r hf, h.press⟩

theorem leads_delReq (r : ReqNo) : i.LeadsTo (s.delReq r) :=
  ⟨fun hi => bounded_delReq (h.bounded hi) r, h.press⟩

theorem leads_addReq {q : Request} (hmode : i.Bounded → s.sys.mode ≠ .init) (hroom : i.Bounded → s.rm.queue.length < 32)
    (hfresh : i.Bounded → ∀ p ∈ s.rm.queue, p.req ≠ q.req)
    (horigin : i.Bounded → q.role ≠ .takenIn → q.req.origin = s.sys.startup.stationNumber) :
    i.LeadsTo (s.addReq q) :=
  ⟨fun hi => bounded_addReq (h.bounded hi) (hmode hi) (hroom hi) (hfresh hi) (horigin hi), h.press⟩

theorem leads_entries_map {f : Inv → Inv} {g : Entry → Entry} (hentries : (f s.inv).entries = s.inv.entries.map g)
    (hg : ∀ e, (g e).volume = e.volume ∧ (g e).slot = e.slot) (hcells : (f s.inv).cells = s.inv.cells)
    (harrivals : (f s.inv).hatchArrivals = s.inv.hatchArrivals) : i.LeadsTo (s.modInv f) :=
  ⟨fun hi => bounded_entries_map (h.bounded hi) hentries hg hcells harrivals, h.press⟩

theorem leads_updEntry (v : Serial) {f : Entry → Entry} (hf : ∀ e, (f e).volume = e.volume ∧ (f e).slot = e.slot) :
    i.LeadsTo (s.updEntry v f) :=
  ⟨fun hi => bounded_updEntry (h.bounded hi) v hf, h.press⟩

theorem leads_endReservations (r : ReqNo) : i.LeadsTo (s.endReservations r) :=
  ⟨fun hi => bounded_endReservations (h.bounded hi) r, h.press⟩

theorem leads_delEntry (v : Serial) : i.LeadsTo (s.delEntry v) :=
  ⟨fun hi => bounded_delEntry (h.bounded hi) v, h.press⟩

theorem leads_addEntry {e : Entry} (hroom : i.Bounded → s.load < 600)
    (hvolume : i.Bounded → s.findEntry e.volume = none) (hslot : i.Bounded → ∀ n, e.slot = some n → s.slotNamed n = false) :
    i.LeadsTo (s.addEntry e) :=
  ⟨fun hi => bounded_addEntry (h.bounded hi) (hroom hi) (hvolume hi) (hslot hi), h.press⟩

theorem leads_dropArrival (r : ReqNo) : i.LeadsTo (s.dropArrival r) :=
  ⟨fun hi => bounded_dropArrival (h.bounded hi) r, h.press⟩

theorem leads_modInv_cells {f : Inv → Inv} (hentries : (f s.inv).entries = s.inv.entries)
    (hcells : s.inv.entries.length + s.inv.hatchArrivals.length + (f s.inv).cells.countP isShelf ≤ 600)
    (harrivals : (f s.inv).hatchArrivals = s.inv.hatchArrivals) : i.LeadsTo (s.modInv f) :=
  ⟨fun hi => bounded_modInv_cells (h.bounded hi) hentries hcells harrivals, h.press⟩

theorem leads_putCell (c : Nat) {st : CellState} (hst : isShelf st = false) : i.LeadsTo (s.putCell c st) :=
  ⟨fun hi => bounded_putCell (h.bounded hi) c hst, h.press⟩

theorem leads_putCell_room (c : Nat) (st : CellState) (hroom : i.Bounded → s.load < 600) : i.LeadsTo (s.putCell c st) :=
  ⟨fun hi => bounded_putCell_room (h.bounded hi) c st (hroom hi), h.press⟩

theorem leads_report (b : ReportBody) : i.LeadsTo (s.report b) :=
  ⟨fun hi => bounded_report (h.bounded hi) b, h.press⟩

theorem leads_push (w : Work) : i.LeadsTo (s.push w) :=
  ⟨fun hi => bounded_push (h.bounded hi) w, fun hi => by rw [State.push_frame]; exact h.press hi⟩

theorem leads_updDrive (d : Nat) {f : Drive → Drive} (hf : ∀ x, (f x).address = x.address) : i.LeadsTo (s.updDrive d f) :=
  ⟨fun hi => bounded_updDrive (h.bounded hi) d hf, h.press⟩

theorem leads_updRec (res : Resource) (f : ClaimRec → ClaimRec) : i.LeadsTo (s.updRec res f) :=
  ⟨fun hi => bounded_updRec (h.bounded hi) res f, h.press⟩

theorem leads_updPrompt (k : PromptKey) {f : Prompt → Prompt} (hf : ∀ p, (f p).key = p.key) : i.LeadsTo (s.updPrompt k f) :=
  ⟨fun hi => bounded_updPrompt (h.bounded hi) k hf, h.press⟩

theorem leads_prompts_filter {f : Panel → Panel} {keep : Prompt → Bool}
    (hprompts : (f s.panel).prompts = s.panel.prompts.filter keep)
    (hpress : s.panel.ackPress = none → (f s.panel).ackPress = none) : i.LeadsTo (s.modPanel f) :=
  ⟨fun hi => bounded_prompts_filter (h.bounded hi) hprompts, fun hi => hpress (h.press hi)⟩

theorem leads_addPrompt {p : Prompt} (hroom : i.Bounded → s.panel.prompts.length < 16) (hfresh : i.Bounded → s.findPrompt p.key = none) :
    i.LeadsTo (s.modPanel fun u => { u with prompts := u.prompts ++ [p] }) :=
  ⟨fun hi => bounded_addPrompt (h.bounded hi) (hroom hi) (hfresh hi), h.press⟩

/-- A change of the mode to one outside INIT, with the Start-Up Block kept. -/
theorem leads_modSys_running {f : Sys → Sys} (hmode : (f s.sys).mode ≠ .init) (hstart : (f s.sys).startup = s.sys.startup) :
    i.LeadsTo (s.modSys f) :=
  ⟨fun hi => { h.bounded hi with
    origins := fun q hq hrole => ((h.bounded hi).origins q hq hrole).trans (congrArg StartUp.stationNumber hstart).symm
    quiet := fun hm => absurd hm hmode }, h.press⟩

theorem leads_closed {f : Acct → Acct} (hclosed : (f s.acct).closed.length ≤ 48) : i.LeadsTo (s.modAcct f) :=
  ⟨fun hi => { h.bounded hi with sessions := hclosed }, h.press⟩

theorem leads_txq {f : Line → Line} (hqueue : i.Bounded → (f s.line).txq.length ≤ 16) : i.LeadsTo (s.modLine f) :=
  ⟨fun hi => { h.bounded hi with messages := hqueue hi }, h.press⟩

theorem leads_moves {f : Arm → Arm} (hqueue : i.Bounded → (f s.arm).queue.length ≤ 8) : i.LeadsTo (s.modArm f) :=
  ⟨fun hi => { h.bounded hi with moves := hqueue hi }, h.press⟩

/-- A request of this station's number may take any role (R40, R41). -/
theorem leads_updReq_own (r : ReqNo) {f : Request → Request} (hf : ∀ q, (f q).req = q.req)
    (hown : i.Bounded → r.origin = s.sys.startup.stationNumber) : i.LeadsTo (s.updReq r f) := by
  refine ⟨fun hi => ?_, h.press⟩
  have hb := h.bounded hi
  have hkey : ∀ q, (if q.req = r then f q else q).req = q.req := fun q => by split <;> [exact hf q; rfl]
  have hnumbers : ((s.updReq r f).rm.queue.map Request.req) = s.rm.queue.map Request.req := by
    show (s.rm.queue.map fun q => if q.req = r then f q else q).map Request.req = _
    rw [List.map_map]
    exact List.map_congr_left fun q _ => hkey q
  have hlength : (s.updReq r f).rm.queue.length = s.rm.queue.length := List.length_map _
  refine { hb with
    requests := hlength ▸ hb.requests
    numbers := hnumbers ▸ hb.numbers
    origins := fun q hq hrole => ?_
    quiet := fun hm => List.map_eq_nil_iff.mpr (hb.quiet hm) }
  obtain ⟨p, hp, rfl⟩ := List.mem_map.mp hq
  by_cases hr : p.req = r
  · rw [hkey]
    exact hr ▸ hown hi
  · rw [if_neg hr] at hrole ⊢
    exact hb.origins p hp hrole

/-- An arrival reservation where the table has room (R3). -/
theorem leads_arrival (r : ReqNo) (hroom : i.Bounded → s.load < 600) :
    i.LeadsTo (s.modInv fun v => { v with hatchArrivals := v.hatchArrivals ++ [r] }) := by
  refine ⟨fun hi => { h.bounded hi with reels := ?_ }, h.press⟩
  have hlt := hroom hi
  show s.inv.entries.length + (s.inv.hatchArrivals ++ [r]).length + s.shelfArrivals ≤ 600
  unfold State.load at hlt
  rw [List.length_append, List.length_singleton]
  omega

end

/-! ## The operations, in the order of the model -/

theorem leads_reach (t : Nat) {i s : State} (h : i.LeadsTo s) : i.LeadsTo (s.reach t) := by
  unfold State.reach
  repeat' first
    | with_reducible assumption
    | with_reducible refine leads_modSys ?_ rfl rfl

theorem leads_updRoster (p : Nat) (f : RosterEntry → RosterEntry) {i s : State} (h : i.LeadsTo s) : i.LeadsTo (s.updRoster p f) := by
  unfold State.updRoster
  repeat' first
    | with_reducible assumption
    | with_reducible refine leads_modLine ?_ le_rfl

theorem leads_emptyCell (c : Nat) {i s : State} (h : i.LeadsTo s) : i.LeadsTo (s.emptyCell c) := by
  unfold State.emptyCell
  repeat' first
    | with_reducible assumption
    | with_reducible apply leads_push
    | with_reducible refine leads_putCell ?_ _ rfl

theorem leads_countPass (v : Serial) {i s : State} (h : i.LeadsTo s) : i.LeadsTo (s.countPass v) := by
  unfold State.countPass
  repeat' first
    | with_reducible assumption
    | with_reducible refine leads_updEntry ?_ _ fun _ => ⟨rfl, rfl⟩

theorem leads_wearReel (v : Serial) (errors : Nat) {i s : State} (h : i.LeadsTo s) : i.LeadsTo (s.wearReel v errors) := by
  unfold State.wearReel
  repeat' first
    | with_reducible assumption
    | with_reducible refine leads_updEntry ?_ _ fun _ => ⟨rfl, rfl⟩

theorem leads_reelMissing (v : Serial) {i s : State} (h : i.LeadsTo s) : i.LeadsTo (s.reelMissing v) := by
  unfold State.reelMissing
  dsimp only
  repeat' first
    | with_reducible assumption
    | with_reducible apply leads_push
    | with_reducible refine leads_updEntry ?_ _ fun _ => ⟨rfl, rfl⟩
    | with_reducible apply leads_forEach
    | intro _

theorem leads_retireEntry (v : Serial) {i s : State} (h : i.LeadsTo s) : i.LeadsTo (s.retireEntry v) := by
  unfold State.retireEntry
  dsimp only
  repeat' first
    | with_reducible assumption
    | with_reducible apply leads_push
    | with_reducible apply leads_delEntry
    | with_reducible apply leads_forEach
    | intro _

theorem leads_offerClosed (x : ClosedSession) {i s : State} (h : i.LeadsTo s) : i.LeadsTo (s.offerClosed x) := by
  unfold State.offerClosed
  dsimp only
  split
  next hroom =>
    have hlength : (s.acct.closed ++ [x]).length ≤ 48 := by
      rw [List.length_append, List.length_singleton]
      exact hroom
    split
    · exact leads_report (leads_closed h hlength) _
    · exact leads_closed h hlength
  · exact leads_report (leads_modAcct h le_rfl) _

theorem leads_addCharge (account C secs : Nat) {i s : State} (h : i.LeadsTo s) : i.LeadsTo (s.addCharge account C secs) := by
  refine leads_modAcct h ?_
  split <;> exact le_rfl

theorem leads_closeSession (d : Nat) (errors : Nat) (cause : CloseCause) {i s : State} (h : i.LeadsTo s) :
    i.LeadsTo (s.closeSession d errors cause) := by
  unfold State.closeSession
  dsimp only
  repeat' first
    | with_reducible assumption
    | with_reducible refine leads_updDrive ?_ _ fun _ => rfl
    | with_reducible apply leads_wearReel
    | with_reducible apply leads_offerClosed
    | with_reducible apply leads_addCharge
    | split

theorem leads_closeCleaning (d : Nat) (lost : Bool) {i s : State} (h : i.LeadsTo s) : i.LeadsTo (s.closeCleaning d lost) := by
  unfold State.closeCleaning
  dsimp only
  repeat' first
    | with_reducible assumption
    | with_reducible apply leads_wearReel
    | with_reducible apply leads_offerClosed
    | with_reducible apply leads_addCharge
    | split

theorem leads_relamp {i s : State} (h : i.LeadsTo s) : i.LeadsTo s.relamp := by
  unfold State.relamp
  repeat' first
    | with_reducible assumption
    | with_reducible refine leads_modPanel ?_ rfl id
    | split

theorem leads_reportPrompt (ev : PromptEvent) (p : Prompt) (acks : Option Nat) {i s : State} (h : i.LeadsTo s) :
    i.LeadsTo (s.reportPrompt ev p acks) := by
  unfold State.reportPrompt
  repeat' first
    | with_reducible assumption
    | with_reducible apply leads_report

theorem leads_cursorTo (k : PromptKey) {i s : State} (h : i.LeadsTo s) : i.LeadsTo (s.cursorTo k) := by
  unfold State.cursorTo
  repeat' first
    | with_reducible assumption
    | with_reducible refine leads_modPanel ?_ rfl id
    | split

theorem leads_showPrompt (k : PromptKey) {i s : State} (h : i.LeadsTo s) : i.LeadsTo (s.showPrompt k) := by
  unfold State.showPrompt
  repeat' first
    | with_reducible assumption
    | with_reducible refine leads_updPrompt ?_ _ fun _ => rfl
    | with_reducible apply leads_relamp
    | with_reducible apply leads_reportPrompt
    | with_reducible apply leads_cursorTo
    | split

theorem leads_escalate (k : PromptKey) {i s : State} (h : i.LeadsTo s) : i.LeadsTo (s.escalate k) := by
  unfold State.escalate
  repeat' first
    | with_reducible assumption
    | with_reducible refine leads_updPrompt ?_ _ fun _ => rfl
    | with_reducible apply leads_relamp
    | with_reducible apply leads_reportPrompt
    | with_reducible apply leads_showPrompt
    | split

theorem leads_returnPrompt (k : PromptKey) {i s : State} (h : i.LeadsTo s) : i.LeadsTo (s.returnPrompt k) := by
  unfold State.returnPrompt
  dsimp only
  repeat' first
    | with_reducible assumption
    | with_reducible refine leads_updPrompt ?_ _ fun _ => rfl
    | with_reducible apply leads_relamp
    | with_reducible apply leads_cursorTo
    | with_reducible apply leads_escalate
    | split

theorem leads_leavePrompt (k : PromptKey) {i s : State} (h : i.LeadsTo s) : i.LeadsTo (s.leavePrompt k) := by
  unfold State.leavePrompt
  dsimp only
  split
  · exact h
  · exact leads_push (leads_relamp (leads_prompts_filter h rfl fun hnone => by rw [hnone]; rfl)) _

theorem leads_withdrawPrompt (k : PromptKey) {i s : State} (h : i.LeadsTo s) : i.LeadsTo (s.withdrawPrompt k) := by
  unfold State.withdrawPrompt
  repeat' first
    | with_reducible assumption
    | with_reducible refine leads_modPanel ?_ rfl id
    | with_reducible apply leads_leavePrompt
    | split

theorem leads_defer (c : DeferredCause) {i s : State} (h : i.LeadsTo s) : i.LeadsTo (s.defer c) := by
  unfold State.defer
  repeat' first
    | with_reducible assumption
    | with_reducible refine leads_modPanel ?_ rfl id
    | split

theorem leads_linkReq (r : ReqNo) (k : PromptKey) {i s : State} (h : i.LeadsTo s) : i.LeadsTo (s.linkReq r k) := by
  unfold State.linkReq
  dsimp only
  repeat' first
    | with_reducible assumption
    | with_reducible apply leads_report
    | with_reducible refine leads_updReq ?_ _ fun _ => ⟨rfl, id⟩
    | with_reducible apply leads_escalate
    | split

theorem leads_planEntry (r : ReqNo) {i s : State} (h : i.LeadsTo s) : i.LeadsTo (s.planEntry r) := by
  unfold State.planEntry
  repeat' first
    | with_reducible assumption
    | with_reducible apply leads_push
    | split

theorem leads_pendReq (r : ReqNo) (c : Cause) {i s : State} (h : i.LeadsTo s) : i.LeadsTo (s.pendReq r c) := by
  unfold State.pendReq
  repeat' first
    | with_reducible assumption
    | with_reducible refine leads_updReq ?_ _ fun _ => ⟨rfl, id⟩
    | with_reducible apply leads_planEntry
    | split

theorem leads_makePrompt (c : Cause) {i s : State} (h : i.LeadsTo s)
    (hroom : i.Bounded → s.panel.prompts.length < 16) (hfresh : s.findPrompt c.key = none) :
    i.LeadsTo (s.makePrompt c) := by
  have hadded : i.LeadsTo (s.modPanel fun u => { u with prompts := u.prompts ++
      [{ cls := c.cls, subject := c.subject, detail := c.detail, links := c.req.toList, state := .settling, raised := s.acct.stationTime,
         settleEnd := some (s.sys.clock + 1000 * s.cfg.promptSettle), escalated := false, acks := 0, cellWait := false }] }) :=
    leads_addPrompt h hroom fun _ => hfresh
  unfold State.makePrompt
  dsimp only
  repeat' first
    | with_reducible assumption
    | with_reducible apply leads_linkReq
    | with_reducible apply leads_showPrompt
    | split

theorem leads_mergePrompt (c : Cause) (p : Prompt) {i s : State} (h : i.LeadsTo s) : i.LeadsTo (s.mergePrompt c p) := by
  unfold State.mergePrompt
  repeat' first
    | with_reducible assumption
    | with_reducible refine leads_updPrompt ?_ _ fun _ => rfl
    | with_reducible apply leads_linkReq
    | with_reducible apply leads_pendReq
    | split

theorem leads_evict (p : Prompt) {i s : State} (h : i.LeadsTo s) : i.LeadsTo (s.evict p) := by
  unfold State.evict
  dsimp only
  repeat' first
    | with_reducible assumption
    | with_reducible refine leads_modPanel ?_ rfl id
    | with_reducible apply leads_leavePrompt
    | with_reducible apply leads_defer
    | split

theorem leads_causeWaits (c : Cause) {i s : State} (h : i.LeadsTo s) : i.LeadsTo (s.causeWaits c) := by
  unfold State.causeWaits
  repeat' first
    | with_reducible assumption
    | with_reducible apply leads_defer
    | with_reducible apply leads_pendReq
    | split

theorem State.relamp_prompts (s : State) : s.relamp.panel.prompts = s.panel.prompts := by
  unfold State.relamp
  split <;> rfl

theorem State.leavePrompt_prompts {p : Prompt} (s : State) :
    (s.leavePrompt p.key).panel.prompts = s.panel.prompts.filter fun q => decide (q.key ≠ p.key) := by
  unfold State.leavePrompt
  split
  next hnone =>
    have hothers : ∀ q ∈ s.panel.prompts, q.key ≠ p.key := by simpa [State.findPrompt] using hnone
    exact (List.filter_eq_self.mpr fun q hq => decide_eq_true (hothers q hq)).symm
  · rw [State.push_frame]
    exact State.relamp_prompts _

theorem leastBy_mem {α : Type} {before : α → α → Bool} {a : α} (l : List α) (h : leastBy before l = some a) : a ∈ l := by
  induction l generalizing a with
  | nil => exact absurd h nofun
  | cons x l ih =>
    unfold leastBy at h
    split at h
    · exact Option.some.inj h ▸ List.mem_cons_self ..
    next b hb =>
      split at h
      · exact Option.some.inj h ▸ List.mem_cons_of_mem _ (ih hb)
      · exact Option.some.inj h ▸ List.mem_cons_self ..

theorem State.evict_prompts (p : Prompt) (s : State) :
    (s.evict p).panel.prompts = s.panel.prompts.filter fun q => decide (q.key ≠ p.key) := by
  unfold State.evict
  split
  · exact State.leavePrompt_prompts _
  · unfold State.defer
    dsimp only
    repeat' split
    all_goals exact State.leavePrompt_prompts _

theorem State.evict_shorter {p : Prompt} {s : State} (hp : p ∈ s.panel.prompts) :
    (s.evict p).panel.prompts.length < s.panel.prompts.length := by
  rw [State.evict_prompts]
  exact List.length_filter_lt_length_iff_exists.mpr ⟨p, hp, by simp⟩

theorem State.findPrompt_evict (p : Prompt) {k : PromptKey} {s : State} (h : s.findPrompt k = none) : (s.evict p).findPrompt k = none := by
  have hothers : ∀ q ∈ s.panel.prompts, q.key ≠ k := by simpa [State.findPrompt] using h
  refine List.find?_eq_none.mpr fun q hq => ?_
  rw [State.evict_prompts] at hq
  simpa using hothers q (List.mem_filter.mp hq).1

theorem leads_raise (c : Cause) {i s : State} (h : i.LeadsTo s) : i.LeadsTo (s.raise c) := by
  unfold State.raise
  split
  · exact h
  split
  · exact leads_mergePrompt _ _ h
  next hfresh =>
    split
    next hroom => exact leads_makePrompt c h (fun _ => hroom) hfresh
    split
    next p hvictim =>
      split
      · exact leads_causeWaits _ h
      · refine leads_makePrompt c (leads_evict p h) (fun hi => ?_) (State.findPrompt_evict p hfresh)
        have hmem := (List.mem_filter.mp (leastBy_mem _ hvictim)).1
        exact (State.evict_shorter hmem).trans_le (h.bounded hi).prompts
    · exact leads_causeWaits _ h

theorem leads_raisePlain (cls : PromptClass) (sub : Subject) {i s : State} (h : i.LeadsTo s) : i.LeadsTo (s.raisePlain cls sub) := by
  unfold State.raisePlain
  repeat' first
    | with_reducible assumption
    | with_reducible apply leads_raise

theorem leads_unlink (r : ReqNo) {i s : State} (h : i.LeadsTo s) : i.LeadsTo (s.unlink r) := by
  unfold State.unlink
  dsimp only
  repeat' first
    | with_reducible assumption
    | with_reducible refine leads_updPrompt ?_ _ fun _ => rfl
    | with_reducible apply leads_withdrawPrompt
    | split

theorem leads_takeDeferred {i s : State} (h : i.LeadsTo s) : i.LeadsTo s.takeDeferred := by
  unfold State.takeDeferred
  dsimp only
  repeat' first
    | with_reducible assumption
    | with_reducible refine leads_modPanel ?_ rfl id
    | with_reducible apply leads_raise
    | with_reducible apply leads_forEach
    | intro _
    | split

theorem leads_retryPending {i s : State} (h : i.LeadsTo s) : i.LeadsTo s.retryPending := by
  unfold State.retryPending
  repeat' first
    | with_reducible assumption
    | with_reducible apply leads_raise
    | with_reducible apply leads_forEach
    | intro _
    | split

theorem leads_giveUpMsg (m : Msg) (cause : UndelCause) (attempts : Nat) {i s : State} (h : i.LeadsTo s) :
    i.LeadsTo (s.giveUpMsg m cause attempts) := by
  unfold State.giveUpMsg
  repeat' first
    | with_reducible assumption
    | with_reducible apply leads_push
    | with_reducible apply leads_report
    | split

theorem leads_giveUpAll (l : List TxMsg) (cause : UndelCause) {i s : State} (h : i.LeadsTo s) : i.LeadsTo (s.giveUpAll l cause) := by
  unfold State.giveUpAll
  repeat' first
    | with_reducible assumption
    | with_reducible apply leads_giveUpMsg
    | with_reducible apply leads_forEach
    | intro _

theorem insertTx_length (m : TxMsg) (l : List TxMsg) : (insertTx m l).length = l.length + 1 := by
  induction l with
  | nil => rfl
  | cons n l ih =>
    unfold insertTx
    split
    · rfl
    · exact congrArg (· + 1) ih

theorem leads_sendTagged (tag : PresTag) (m : Msg) {i s : State} (h : i.LeadsTo s) : i.LeadsTo (s.sendTagged tag m) := by
  unfold State.sendTagged
  split
  · exact leads_giveUpMsg _ _ _ h
  split
  · exact leads_giveUpMsg _ _ _ h
  next hroom =>
    refine leads_txq h fun _ => ?_
    rw [insertTx_length]
    exact Nat.lt_of_not_le hroom

theorem leads_send (m : Msg) {i s : State} (h : i.LeadsTo s) : i.LeadsTo (s.send m) := by
  unfold State.send
  repeat' first
    | with_reducible assumption
    | with_reducible apply leads_sendTagged

theorem leads_withdraw (p : Msg → Bool) {i s : State} (h : i.LeadsTo s) : i.LeadsTo (s.withdraw p) := by
  refine leads_modLine h ?_
  dsimp only
  rw [List.length_map]
  exact List.length_filter_le ..

theorem leads_sendHold (res : Resource) (dispute busy : Bool) {i s : State} (h : i.LeadsTo s) :
    i.LeadsTo (s.sendHold res dispute busy) := by
  unfold State.sendHold
  dsimp only
  repeat' first
    | with_reducible assumption
    | with_reducible apply leads_giveUpMsg
    | with_reducible apply leads_send
    | split

theorem leads_sendYield (res : Resource) {i s : State} (h : i.LeadsTo s) : i.LeadsTo (s.sendYield res) := by
  unfold State.sendYield
  dsimp only
  repeat' first
    | with_reducible assumption
    | with_reducible apply leads_send

theorem leads_beginYield (res : Resource) {i s : State} (h : i.LeadsTo s) : i.LeadsTo (s.beginYield res) := by
  unfold State.beginYield
  repeat' first
    | with_reducible assumption
    | with_reducible apply leads_updRec
    | with_reducible apply leads_sendYield

theorem leads_cancelYield (res : Resource) {i s : State} (h : i.LeadsTo s) : i.LeadsTo (s.cancelYield res) := by
  unfold State.cancelYield
  dsimp only
  repeat' first
    | with_reducible assumption
    | with_reducible apply leads_push
    | with_reducible apply leads_updRec
    | with_reducible apply leads_withdraw
    | split

theorem leads_addAsk (res : Resource) (a : Asker) {i s : State} (h : i.LeadsTo s) : i.LeadsTo (s.addAsk res a) := by
  unfold State.addAsk
  dsimp only
  repeat' first
    | with_reducible assumption
    | with_reducible apply leads_push
    | with_reducible apply leads_updRec
    | with_reducible apply leads_cancelYield
    | split

theorem leads_dropAsk (res : Resource) (a : Asker) {i s : State} (h : i.LeadsTo s) : i.LeadsTo (s.dropAsk res a) := by
  unfold State.dropAsk
  dsimp only
  repeat' first
    | with_reducible assumption
    | with_reducible apply leads_push
    | with_reducible apply leads_updRec
    | with_reducible apply leads_withdraw
    | split

theorem leads_dropAsker (a : Asker) {i s : State} (h : i.LeadsTo s) : i.LeadsTo (s.dropAsker a) := by
  unfold State.dropAsker
  repeat' first
    | with_reducible assumption
    | with_reducible apply leads_dropAsk
    | with_reducible apply leads_forEach
    | intro _

theorem leads_claimTest {i s : State} (h : i.LeadsTo s) : i.LeadsTo s.claimTest := by
  unfold State.claimTest
  repeat' first
    | with_reducible assumption
    | with_reducible apply leads_updRec
    | with_reducible apply leads_sendHold
    | with_reducible apply leads_forEach
    | intro _
    | split

theorem leads_useEndTest {i s : State} (h : i.LeadsTo s) : i.LeadsTo s.useEndTest := by
  unfold State.useEndTest
  repeat' first
    | with_reducible assumption
    | with_reducible apply leads_beginYield
    | with_reducible apply leads_forEach
    | intro _
    | split

theorem leads_driveUseEnds (d : Nat) {i s : State} (h : i.LeadsTo s) : i.LeadsTo (s.driveUseEnds d) := by
  unfold State.driveUseEnds
  repeat' first
    | with_reducible assumption
    | with_reducible apply leads_beginYield
    | split

theorem leads_endConflict (res : Resource) {i s : State} (h : i.LeadsTo s) : i.LeadsTo (s.endConflict res) := by
  unfold State.endConflict
  repeat' first
    | with_reducible assumption
    | with_reducible apply leads_push
    | with_reducible apply leads_updRec
    | with_reducible apply leads_leavePrompt
    | split

theorem leads_loseTo (res : Resource) {i s : State} (h : i.LeadsTo s) : i.LeadsTo (s.loseTo res) := by
  unfold State.loseTo
  repeat' first
    | with_reducible assumption
    | with_reducible apply leads_push
    | with_reducible apply leads_updRec

theorem leads_giveWay (res : Resource) {i s : State} (h : i.LeadsTo s) : i.LeadsTo (s.giveWay res) := by
  unfold State.giveWay
  repeat' first
    | with_reducible assumption
    | with_reducible apply leads_withdraw
    | with_reducible apply leads_sendYield
    | with_reducible apply leads_loseTo

theorem leads_disputeTest (res : Resource) (busy : Bool) {i s : State} (h : i.LeadsTo s) : i.LeadsTo (s.disputeTest res busy) := by
  unfold State.disputeTest
  dsimp only
  repeat' first
    | with_reducible assumption
    | with_reducible apply leads_updRec
    | with_reducible apply leads_raise
    | with_reducible apply leads_sendHold
    | with_reducible apply leads_giveWay
    | split

theorem leads_hearHold (b : HoldBody) (c : ClaimRec) {i s : State} (h : i.LeadsTo s) : i.LeadsTo (s.hearHold b c) := by
  unfold State.hearHold
  dsimp only
  repeat' first
    | with_reducible assumption
    | with_reducible apply leads_push
    | with_reducible apply leads_updRec
    | with_reducible apply leads_withdraw
    | with_reducible apply leads_sendHold
    | with_reducible apply leads_disputeTest
    | split

theorem leads_hearYield (b : YieldBody) (c : ClaimRec) {i s : State} (h : i.LeadsTo s) : i.LeadsTo (s.hearYield b c) := by
  unfold State.hearYield
  dsimp only
  repeat' first
    | with_reducible assumption
    | with_reducible apply leads_push
    | with_reducible apply leads_updRec
    | with_reducible apply leads_endConflict
    | split

theorem leads_testOwedTo (p : Nat) {i s : State} (h : i.LeadsTo s) : i.LeadsTo (s.testOwedTo p) := by
  unfold State.testOwedTo
  repeat' first
    | with_reducible assumption
    | with_reducible apply leads_push
    | with_reducible apply leads_forEach
    | intro _

theorem leads_claimAbsent (p : Nat) {i s : State} (h : i.LeadsTo s) : i.LeadsTo (s.claimAbsent p) := by
  unfold State.claimAbsent
  dsimp only
  repeat' first
    | with_reducible assumption
    | with_reducible apply leads_push
    | with_reducible apply leads_updRec
    | with_reducible apply leads_endConflict
    | with_reducible apply leads_testOwedTo
    | with_reducible apply leads_forEach
    | intro _
    | split

theorem leads_dropHolds {i s : State} (h : i.LeadsTo s) : i.LeadsTo s.dropHolds := by
  unfold State.dropHolds
  repeat' first
    | with_reducible assumption
    | with_reducible apply leads_updRec
    | with_reducible apply leads_endConflict
    | with_reducible apply leads_forEach
    | intro _
    | split

theorem leads_standAsk (res : Resource) {i s : State} (h : i.LeadsTo s) : i.LeadsTo (s.standAsk res) := by
  unfold State.standAsk
  repeat' first
    | with_reducible assumption
    | with_reducible apply leads_updRec
    | split

theorem leads_giveUpAlone (res : Resource) {i s : State} (h : i.LeadsTo s) : i.LeadsTo (s.giveUpAlone res) := by
  unfold State.giveUpAlone
  dsimp only
  repeat' first
    | with_reducible assumption
    | with_reducible apply leads_updRec
    | with_reducible apply leads_beginYield
    | with_reducible apply leads_standAsk
    | split

theorem leads_yieldAlone {i s : State} (h : i.LeadsTo s) : i.LeadsTo s.yieldAlone := by
  unfold State.yieldAlone
  repeat' first
    | with_reducible assumption
    | with_reducible apply leads_giveUpAlone
    | with_reducible apply leads_forEach
    | intro _

theorem leads_examineAlone {i s : State} (h : i.LeadsTo s) : i.LeadsTo s.examineAlone := by
  unfold State.examineAlone
  repeat' first
    | with_reducible assumption
    | with_reducible apply leads_giveUpAlone
    | with_reducible apply leads_forEach
    | intro _
    | split

theorem leads_claimAnswered (l : Loc) {i s : State} (h : i.LeadsTo s) : i.LeadsTo (s.claimAnswered l) := by
  unfold State.claimAnswered
  repeat' first
    | with_reducible assumption
    | with_reducible apply leads_sendHold
    | with_reducible apply leads_endConflict
    | with_reducible apply leads_loseTo
    | split

theorem leads_quietHolds {i s : State} (h : i.LeadsTo s) : i.LeadsTo s.quietHolds := by
  unfold State.quietHolds
  dsimp only
  repeat' first
    | with_reducible assumption
    | with_reducible apply leads_modClaim
    | with_reducible apply leads_giveUpAll
    | with_reducible apply leads_withdraw

theorem leads_endGiveWay (res : Resource) {i s : State} (h : i.LeadsTo s) : i.LeadsTo (s.endGiveWay res) := by
  unfold State.endGiveWay
  repeat' first
    | with_reducible assumption
    | with_reducible apply leads_endConflict
    | split

theorem leads_holdWitnessed (b : HoldBody) {i s : State} (h : i.LeadsTo s) : i.LeadsTo (s.holdWitnessed b) := by
  unfold State.holdWitnessed
  repeat' first
    | with_reducible assumption
    | with_reducible apply leads_push
    | with_reducible apply leads_updRec
    | split

theorem leads_yieldWitnessed (b : YieldBody) {i s : State} (h : i.LeadsTo s) : i.LeadsTo (s.yieldWitnessed b) := by
  unfold State.yieldWitnessed
  repeat' first
    | with_reducible assumption
    | with_reducible apply leads_push
    | with_reducible apply leads_updRec
    | with_reducible apply leads_endConflict
    | with_reducible apply leads_endGiveWay
    | split

theorem leads_yieldKept (res : Resource) {i s : State} (h : i.LeadsTo s) : i.LeadsTo (s.yieldKept res) := by
  unfold State.yieldKept
  repeat' first
    | with_reducible assumption
    | with_reducible apply leads_push
    | with_reducible apply leads_updRec
    | split

theorem leads_holdKept (res : Resource) {i s : State} (h : i.LeadsTo s) : i.LeadsTo (s.holdKept res) := by
  unfold State.holdKept
  repeat' first
    | with_reducible assumption
    | with_reducible apply leads_push
    | with_reducible apply leads_updRec

theorem leads_disputeLost (res : Resource) {i s : State} (h : i.LeadsTo s) : i.LeadsTo (s.disputeLost res) := by
  unfold State.disputeLost
  repeat' first
    | with_reducible assumption
    | with_reducible apply leads_updRec
    | with_reducible apply leads_withdraw
    | with_reducible apply leads_endConflict
    | with_reducible apply leads_loseTo
    | split

theorem leads_owe (res : Resource) (due : HandoffDue) (v : Serial) {i s : State} (h : i.LeadsTo s) : i.LeadsTo (s.owe res due v) := by
  unfold State.owe
  dsimp only
  repeat' first
    | with_reducible assumption
    | with_reducible apply leads_push
    | with_reducible apply leads_updRec
    | with_reducible apply leads_addAsk
    | split

theorem leads_repeatYields {i s : State} (h : i.LeadsTo s) : i.LeadsTo s.repeatYields := by
  unfold State.repeatYields
  repeat' first
    | with_reducible assumption
    | with_reducible apply leads_sendYield
    | with_reducible apply leads_forEach
    | intro _
    | split

theorem leads_driveToEmpty (d : Nat) {i s : State} (h : i.LeadsTo s) : i.LeadsTo (s.driveToEmpty d) := by
  unfold State.driveToEmpty
  repeat' first
    | with_reducible assumption
    | with_reducible apply leads_push
    | with_reducible refine leads_updDrive ?_ _ fun _ => rfl

theorem leads_releaseDrive (d : Nat) {i s : State} (h : i.LeadsTo s) : i.LeadsTo (s.releaseDrive d) := by
  unfold State.releaseDrive
  repeat' first
    | with_reducible assumption
    | with_reducible apply leads_driveToEmpty
    | split

theorem leads_releaseDrivesOf (r : ReqNo) {i s : State} (h : i.LeadsTo s) : i.LeadsTo (s.releaseDrivesOf r) := by
  unfold State.releaseDrivesOf
  repeat' first
    | with_reducible assumption
    | with_reducible apply leads_releaseDrive
    | with_reducible apply leads_forEach
    | intro _

theorem leads_reserveDrive (d : Nat) (r : ReqNo) {i s : State} (h : i.LeadsTo s) : i.LeadsTo (s.reserveDrive d r) := by
  unfold State.reserveDrive
  repeat' first
    | with_reducible assumption
    | with_reducible refine leads_updReq ?_ _ fun _ => ⟨rfl, id⟩
    | with_reducible refine leads_updDrive ?_ _ fun _ => rfl

theorem leads_driveOff (d : Nat) (loaded : Option Serial) {i s : State} (h : i.LeadsTo s) : i.LeadsTo (s.driveOff d loaded) := by
  unfold State.driveOff
  dsimp only
  repeat' first
    | with_reducible assumption
    | with_reducible apply leads_push
    | with_reducible refine leads_updDrive ?_ _ fun _ => rfl
    | with_reducible apply leads_dropAsker
    | with_reducible apply leads_driveUseEnds
    | split

theorem insertMove_length (m : Move) (l : List Move) : (insertMove m l).length = l.length + 1 := by
  induction l with
  | nil => rfl
  | cons n l ih =>
    unfold insertMove
    split
    · rfl
    · exact congrArg (· + 1) ih

/-- A cell asked for this purpose awaits a reel from the shelf. -/
def fromShelf : Option CellPurpose → Bool
  | some .shelf => true
  | _ => false

theorem isShelf_expecting {v : Serial} {p : CellPurpose} (h : fromShelf (some p) = false) : isShelf (.expecting v p) = false := by
  cases p with
  | shelf => exact absurd h nofun
  | _ => rfl

theorem State.room_of_armRoom {s : State} (h : s.armRoom = true) : s.arm.queue.length < 8 := of_decide_eq_true h

theorem leads_queueMove (kind : MoveKind) (r : Option ReqNo) (v : Serial) (src dst : Loc) (purpose : Option CellPurpose)
    {i s : State} (h : i.LeadsTo s) (hroom : i.Bounded → s.arm.queue.length < 8)
    (hpurpose : fromShelf purpose = false) :
    i.LeadsTo (s.queueMove kind r v src dst purpose) := by
  unfold State.queueMove
  dsimp only
  refine leads_push (leads_moves ?_ fun hi => ?_) _
  · split
    next p => exact leads_putCell h _ (isShelf_expecting hpurpose)
    · exact h
  · rw [insertMove_length]
    split <;> exact hroom hi

theorem leads_freeMoveCell (m : Move) {i s : State} (h : i.LeadsTo s) : i.LeadsTo (s.freeMoveCell m) := by
  unfold State.freeMoveCell
  repeat' first
    | with_reducible assumption
    | with_reducible apply leads_emptyCell
    | split

theorem leads_moveGone (m : Move) {i s : State} (h : i.LeadsTo s) : i.LeadsTo (s.moveGone m) := by
  unfold State.moveGone
  repeat' first
    | with_reducible assumption
    | with_reducible apply leads_push
    | with_reducible apply leads_dropAsker

theorem leads_removeMoves (p : Move → Bool) {i s : State} (h : i.LeadsTo s) : i.LeadsTo (s.removeMoves p) := by
  unfold State.removeMoves
  dsimp only
  repeat' first
    | with_reducible assumption
    | with_reducible refine leads_modArm ?_ (List.length_filter_le ..)
    | with_reducible refine leads_modArm ?_ le_rfl
    | with_reducible apply leads_push
    | with_reducible apply leads_freeMoveCell
    | with_reducible apply leads_moveGone
    | with_reducible apply leads_forEach
    | intro _
    | split

theorem leads_updCurrent (f : Move → Move) {i s : State} (h : i.LeadsTo s) : i.LeadsTo (s.updCurrent f) := by
  unfold State.updCurrent
  repeat' first
    | with_reducible assumption
    | with_reducible refine leads_modArm ?_ le_rfl

theorem leads_endMove (m : Move) {i s : State} (h : i.LeadsTo s) : i.LeadsTo (s.endMove m) := by
  unfold State.endMove
  repeat' first
    | with_reducible assumption
    | with_reducible refine leads_modArm ?_ le_rfl
    | with_reducible apply leads_push
    | with_reducible apply leads_moveGone

theorem State.dropAsk_arm (res : Resource) (a : Asker) (s : State) : (s.dropAsk res a).arm = s.arm := by
  unfold State.dropAsk
  dsimp only
  repeat' split
  all_goals first
    | rfl
    | rw [State.withdraw, State.modLine_arm, State.push_frame]; rfl
    | rw [State.push_frame]; rfl

/-- Where a reel goes home to: no cell for a reel from the shelf, and no room of the arm queue taken (R11). -/
theorem State.homeDest_spec (e : Entry) (s : State) :
    fromShelf (s.homeDest e).2.1 = false ∧ (s.homeDest e).2.2.arm = s.arm := by
  unfold State.homeDest
  dsimp only
  split
  · split <;> exact ⟨rfl, rfl⟩
  · exact ⟨rfl, rfl⟩

theorem leads_homeDest (e : Entry) {i s : State} (h : i.LeadsTo s) : i.LeadsTo (s.homeDest e).2.2 := by
  unfold State.homeDest
  dsimp only
  split
  · split
    · exact h
    · exact leads_updEntry h _ fun _ => ⟨rfl, rfl⟩
  · exact h

theorem leads_queueHome {kind : MoveKind} {r : Option ReqNo} {v : Serial} {src : Loc} {e : Entry} {i s : State}
    {home : Loc × Option CellPurpose × State} (hhome : s.homeDest e = home) (h : i.LeadsTo s) (hroom : i.Bounded → s.arm.queue.length < 8) :
    i.LeadsTo (home.2.2.queueMove kind r v src home.1 home.2.1) := by
  subst hhome
  obtain ⟨hpurpose, harm⟩ := State.homeDest_spec e s
  exact leads_queueMove _ _ _ _ _ _ (leads_homeDest e h) (fun hi => harm ▸ hroom hi) hpurpose

theorem leads_stowDrive (d : Nat) {i s : State} (h : i.LeadsTo s) : i.LeadsTo (s.stowDrive d) := by
  unfold State.stowDrive
  split
  · exact h
  next x _ =>
    split
    · split
      · exact h
      split
      · split
        · exact leads_addAsk _ _ h
        · exact h
      split
      next hroom =>
        split
        · exact h
        next e _ =>
          have hroom' := State.room_of_armRoom hroom
          dsimp only
          cases hres : s.posRes x.position <;> cases he : e.home <;> dsimp only
          case none.here => exact leads_queueHome rfl h fun _ => hroom'
          case some.here => exact leads_queueHome rfl (leads_dropAsk _ _ h) fun _ => (State.dropAsk_arm ..).symm ▸ hroom'
          case none.station =>
            split
            · split
              · exact leads_queueMove _ _ _ _ _ _ h (fun _ => hroom') rfl
              · exact h
            · exact h
          case some.station =>
            split
            · split
              · exact leads_queueMove _ _ _ _ _ _ (leads_dropAsk _ _ h) (fun _ => (State.dropAsk_arm ..).symm ▸ hroom') rfl
              · exact h
            · exact h
      · exact h
    · exact h

theorem leads_driveToIdle (d : Nat) {i s : State} (h : i.LeadsTo s) : i.LeadsTo (s.driveToIdle d) := by
  unfold State.driveToIdle
  repeat' first
    | with_reducible assumption
    | with_reducible refine leads_updDrive ?_ _ fun _ => rfl
    | with_reducible apply leads_stowDrive

theorem leads_cleanMove (d : Nat) {i s : State} (h : i.LeadsTo s) : i.LeadsTo (s.cleanMove d) := by
  unfold State.cleanMove
  split
  · exact h
  split
  · split
    · exact h
    split
    · split
      next hroom =>
        obtain ⟨hroom, -⟩ := Bool.and_eq_true_iff.mp hroom
        exact leads_queueMove _ _ _ _ _ _ h (fun _ => State.room_of_armRoom hroom) rfl
      · exact h
    · exact leads_driveToEmpty _ h
  · exact h

theorem leads_clearEntryIn (v : Serial) {i s : State} (h : i.LeadsTo s) : i.LeadsTo (s.clearEntryIn v) := by
  unfold State.clearEntryIn
  repeat' first
    | with_reducible assumption
    | with_reducible refine leads_modInv ?_ rfl rfl rfl

theorem leads_queueEntryIn (v : Serial) {i s : State} (h : i.LeadsTo s) : i.LeadsTo (s.queueEntryIn v) := by
  unfold State.queueEntryIn
  dsimp only
  repeat' first
    | with_reducible assumption
    | exact rfl
    | exact fun _ => State.room_of_armRoom ‹_›
    | with_reducible refine leads_modInv ?_ rfl rfl rfl
    | with_reducible apply leads_queueMove
    | with_reducible apply leads_clearEntryIn
    | split

theorem leads_askEntryIn (v : Serial) {i s : State} (h : i.LeadsTo s) : i.LeadsTo (s.askEntryIn v) := by
  unfold State.askEntryIn
  repeat' first
    | with_reducible assumption
    | with_reducible apply leads_clearEntryIn
    | with_reducible apply leads_queueEntryIn
    | split

theorem leads_askTakeIn (v : Serial) {i s : State} (h : i.LeadsTo s) : i.LeadsTo (s.askTakeIn v) := by
  unfold State.askTakeIn
  split
  · exact h
  split
  · dsimp only
    split
    · exact leads_modClaim h _
    split
    next hroom => exact leads_queueHome rfl (leads_modClaim h _) fun _ => State.room_of_armRoom hroom
    · exact leads_modClaim (leads_modClaim h _) _
  · exact h

theorem leads_serveExit {i s : State} (h : i.LeadsTo s) : i.LeadsTo s.serveExit := by
  unfold State.serveExit
  repeat' first
    | with_reducible assumption
    | exact rfl
    | exact fun _ => State.room_of_armRoom ‹_›
    | with_reducible refine leads_updEntry ?_ _ fun _ => ⟨rfl, rfl⟩
    | with_reducible apply leads_queueMove
    | split

theorem leads_issueOrder (kind : OrderKind) (m : Move) {i s : State} (h : i.LeadsTo s) : i.LeadsTo (s.issueOrder kind m) := by
  unfold State.issueOrder
  dsimp only
  cases kind with
  | get => exact leads_modArm h le_rfl
  | put =>
    dsimp only
    split
    · exact leads_updDrive (leads_modArm h le_rfl) _ fun x => by split <;> rfl
    · exact leads_modArm h le_rfl

theorem leads_askFor (l : Loc) (m : Move) {i s : State} (h : i.LeadsTo s) : i.LeadsTo (s.askFor l m) := by
  unfold State.askFor
  repeat' first
    | with_reducible assumption
    | with_reducible apply leads_addAsk
    | split

theorem leads_askForPut (m : Move) {i s : State} (h : i.LeadsTo s) : i.LeadsTo (s.askForPut m) := by
  unfold State.askForPut
  repeat' first
    | with_reducible assumption
    | with_reducible apply leads_addAsk
    | split

theorem leads_askHolds (l : List Move) {i s : State} (h : i.LeadsTo s) : i.LeadsTo (s.askHolds l) := by
  unfold State.askHolds
  repeat' first
    | with_reducible assumption
    | with_reducible apply leads_askFor
    | with_reducible apply leads_askForPut
    | with_reducible apply leads_forEach
    | intro _
    | split

theorem leads_issue {i s : State} (h : i.LeadsTo s) : i.LeadsTo s.issue := by
  unfold State.issue
  dsimp only
  repeat' first
    | with_reducible assumption
    | with_reducible refine leads_modArm ?_ (List.length_erase_le ..)
    | with_reducible refine leads_modArm ?_ le_rfl
    | with_reducible apply leads_push
    | with_reducible apply leads_issueOrder
    | with_reducible apply leads_askForPut
    | with_reducible apply leads_askHolds
    | split

theorem leads_takeInFlight {i s : State} (h : i.LeadsTo s) : i.LeadsTo s.takeInFlight := by
  unfold State.takeInFlight
  repeat' first
    | with_reducible assumption
    | with_reducible refine leads_modArm ?_ le_rfl

theorem leads_freezeOrder {i s : State} (h : i.LeadsTo s) : i.LeadsTo s.freezeOrder := by
  unfold State.freezeOrder
  repeat' first
    | with_reducible assumption
    | with_reducible refine leads_modArm ?_ le_rfl

theorem leads_thawOrder {i s : State} (h : i.LeadsTo s) : i.LeadsTo s.thawOrder := by
  unfold State.thawOrder
  repeat' first
    | with_reducible assumption
    | with_reducible refine leads_modArm ?_ le_rfl

theorem leads_reqReport (q : Request) (ev : ReqEvent) {i s : State} (h : i.LeadsTo s) : i.LeadsTo (s.reqReport q ev) := by
  unfold State.reqReport
  repeat' first
    | with_reducible assumption
    | with_reducible apply leads_report
    | split

theorem leads_sendOutcome (r : ReqNo) (ev : OutcomeEvent) {i s : State} (h : i.LeadsTo s) : i.LeadsTo (s.sendOutcome r ev) := by
  unfold State.sendOutcome
  repeat' first
    | with_reducible assumption
    | with_reducible apply leads_send

theorem leads_tellEnd (q : Request) (e : End) {i s : State} (h : i.LeadsTo s) : i.LeadsTo (s.tellEnd q e) := by
  unfold State.tellEnd
  repeat' first
    | with_reducible assumption
    | with_reducible apply leads_report
    | with_reducible apply leads_reqReport
    | with_reducible apply leads_sendOutcome
    | split

theorem leads_clearCell (q : Request) {i s : State} (h : i.LeadsTo s) : i.LeadsTo (s.clearCell q) := by
  unfold State.clearCell
  repeat' first
    | with_reducible assumption
    | with_reducible apply leads_push
    | split

theorem leads_clearHatch (q : Request) {i s : State} (h : i.LeadsTo s) : i.LeadsTo (s.clearHatch q) := by
  unfold State.clearHatch
  repeat' first
    | with_reducible assumption
    | with_reducible apply leads_push
    | split

theorem leads_endRequest (r : ReqNo) (e : End) {i s : State} (h : i.LeadsTo s) : i.LeadsTo (s.endRequest r e) := by
  unfold State.endRequest
  dsimp only
  repeat' first
    | with_reducible assumption
    | with_reducible apply leads_push
    | with_reducible apply leads_delReq
    | with_reducible apply leads_endReservations
    | with_reducible apply leads_dropArrival
    | with_reducible apply leads_unlink
    | with_reducible apply leads_dropAsker
    | with_reducible apply leads_releaseDrivesOf
    | with_reducible apply leads_removeMoves
    | with_reducible apply leads_tellEnd
    | with_reducible apply leads_clearCell
    | with_reducible apply leads_clearHatch
    | split

theorem leads_failRequest (r : ReqNo) (code : FailCode) {i s : State} (h : i.LeadsTo s) : i.LeadsTo (s.failRequest r code) := by
  unfold State.failRequest
  repeat' first
    | with_reducible assumption
    | with_reducible apply leads_endRequest

theorem leads_toStandby (r : ReqNo) {i s : State} (h : i.LeadsTo s) : i.LeadsTo (s.toStandby r) := by
  unfold State.toStandby
  repeat' first
    | with_reducible assumption
    | with_reducible apply leads_push
    | with_reducible refine leads_updReq ?_ _ fun _ => ⟨rfl, id⟩

theorem leads_backToStandby (r : ReqNo) {i s : State} (h : i.LeadsTo s) : i.LeadsTo (s.backToStandby r) := by
  unfold State.backToStandby
  repeat' first
    | with_reducible assumption
    | with_reducible refine leads_updReq ?_ _ fun _ => ⟨rfl, id⟩
    | with_reducible apply leads_toStandby

theorem leads_reelGone (v : Serial) {i s : State} (h : i.LeadsTo s) : i.LeadsTo (s.reelGone v) := by
  unfold State.reelGone
  dsimp only
  repeat' first
    | with_reducible assumption
    | with_reducible apply leads_push
    | with_reducible refine leads_updReq ?_ _ fun _ => ⟨rfl, id⟩
    | with_reducible apply leads_unlink
    | with_reducible apply leads_dropAsker
    | with_reducible apply leads_releaseDrivesOf
    | with_reducible apply leads_forEach
    | intro _

theorem leads_askSeek (r : ReqNo) {i s : State} (h : i.LeadsTo s) : i.LeadsTo (s.askSeek r) := by
  unfold State.askSeek
  repeat' first
    | with_reducible assumption
    | with_reducible refine leads_updReq ?_ _ fun _ => ⟨rfl, id⟩
    | with_reducible apply leads_send
    | split

theorem leads_claimReel (v : Serial) (r : ReqNo) (k : ReservKind) {i s : State} (h : i.LeadsTo s) : i.LeadsTo (s.claimReel v r k).2 := by
  unfold State.claimReel
  split
  · exact leads_updEntry h _ fun _ => ⟨rfl, rfl⟩
  · exact h

theorem leads_reelFound (r : ReqNo) (e : Entry) {i s : State} (h : i.LeadsTo s) : i.LeadsTo (s.reelFound r e) := by
  unfold State.reelFound
  dsimp only
  repeat' first
    | with_reducible assumption
    | with_reducible apply leads_claimReel
    | with_reducible refine leads_updReq ?_ _ fun _ => ⟨rfl, id⟩
    | with_reducible apply leads_reqReport
    | with_reducible apply leads_failRequest
    | with_reducible apply leads_toStandby
    | split

theorem leads_lookup (r : ReqNo) {i s : State} (h : i.LeadsTo s) : i.LeadsTo (s.lookup r) := by
  unfold State.lookup
  dsimp only
  repeat' first
    | with_reducible assumption
    | with_reducible refine leads_updReq ?_ _ fun _ => ⟨rfl, id⟩
    | with_reducible apply leads_failRequest
    | with_reducible apply leads_askSeek
    | with_reducible apply leads_reelFound
    | split

theorem leads_waitRoom (r : ReqNo) (k : MoveKind) {i s : State} (h : i.LeadsTo s) : i.LeadsTo (s.waitRoom r k) := by
  unfold State.waitRoom
  repeat' first
    | with_reducible assumption
    | with_reducible refine leads_updReq ?_ _ fun _ => ⟨rfl, id⟩
    | with_reducible apply leads_planEntry
    | split

theorem leads_moveQueued (r : ReqNo) (k : MoveKind) {i s : State} (h : i.LeadsTo s) : i.LeadsTo (s.moveQueued r k) := by
  unfold State.moveQueued
  repeat' first
    | with_reducible assumption
    | with_reducible refine leads_updReq ?_ _ fun _ => ⟨rfl, id⟩

theorem leads_pendCell (r : ReqNo) {i s : State} (h : i.LeadsTo s) : i.LeadsTo (s.pendCell r) := by
  unfold State.pendCell
  repeat' first
    | with_reducible assumption
    | with_reducible refine leads_updReq ?_ _ fun _ => ⟨rfl, id⟩
    | with_reducible apply leads_planEntry

theorem leads_takeInAnew (q : Request) (e : Entry) (side : Side) {i s : State} (h : i.LeadsTo s) : i.LeadsTo (s.takeInAnew q e side) := by
  unfold State.takeInAnew
  dsimp only
  split
  · exact leads_waitRoom _ _ h
  next hfull =>
    have hroom : s.arm.queue.length < 8 := State.room_of_armRoom (by simpa using hfull)
    split
    · exact leads_moveQueued _ _ (leads_queueHome rfl h fun _ => hroom)
    next x _ _ =>
      have hreserved : (s.reserveDrive x.address q.req).arm = s.arm := rfl
      exact leads_moveQueued _ _ (leads_queueMove _ _ _ _ _ _ (leads_reserveDrive _ _ h) (fun _ => hreserved ▸ hroom) rfl)
    · exact leads_waitRoom _ _ h

theorem leads_startMove (r : ReqNo) (k : MoveKind) {i s : State} (h : i.LeadsTo s) : i.LeadsTo (s.startMove r k) := by
  unfold State.startMove
  dsimp only
  repeat' first
    | with_reducible assumption
    | exact rfl
    | exact fun _ => State.room_of_armRoom ‹_›
    | with_reducible apply leads_releaseDrivesOf
    | with_reducible apply leads_queueMove
    | with_reducible apply leads_backToStandby
    | with_reducible apply leads_waitRoom
    | with_reducible apply leads_moveQueued
    | with_reducible apply leads_pendCell
    | with_reducible apply leads_takeInAnew
    | split

theorem leads_enterMounted (r : ReqNo) (d : Nat) (v : Serial) (remount : Bool) {i s : State} (h : i.LeadsTo s) :
    i.LeadsTo (s.enterMounted r d v remount) := by
  unfold State.enterMounted
  dsimp only
  repeat' first
    | with_reducible assumption
    | with_reducible refine leads_modDrv ?_ rfl
    | with_reducible refine leads_updReq ?_ _ fun _ => ⟨rfl, id⟩
    | with_reducible refine leads_updDrive ?_ _ fun _ => rfl
    | with_reducible apply leads_endReservations
    | with_reducible apply leads_countPass
    | with_reducible apply leads_reqReport
    | with_reducible apply leads_sendOutcome
    | split

theorem leads_auditClaims (v : Serial) {i s : State} (h : i.LeadsTo s) : i.LeadsTo (s.auditClaims v) := by
  unfold State.auditClaims
  split
  · refine leads_forEach _ (fun q t ht => ?_) h
    have hclaimed := leads_claimReel v q.req .held ht
    rcases hdone : t.claimReel v q.req .held with ⟨result, u⟩
    rw [hdone] at hclaimed
    cases result with
    | granted =>
      dsimp only
      split
      · exact leads_updReq hclaimed _ fun _ => ⟨rfl, id⟩
      · exact hclaimed
    | _ => exact hclaimed
  · exact h

theorem leads_examineDrive (d : Nat) {i s : State} (h : i.LeadsTo s) : i.LeadsTo (s.examineDrive d) := by
  unfold State.examineDrive
  dsimp only
  repeat' first
    | with_reducible assumption
    | with_reducible apply leads_enterMounted
    | with_reducible apply leads_auditClaims
    | split

theorem leads_dismountDrive (d : Nat) (errors : Nat) {i s : State} (h : i.LeadsTo s) : i.LeadsTo (s.dismountDrive d errors) := by
  unfold State.dismountDrive
  dsimp only
  repeat' first
    | with_reducible assumption
    | with_reducible refine leads_updDrive ?_ _ fun _ => rfl
    | with_reducible apply leads_closeSession
    | with_reducible apply leads_driveToIdle
    | with_reducible apply leads_examineDrive
    | split

theorem leads_dismountRequest (r : ReqNo) (errors : Nat) (e : End) {i s : State} (h : i.LeadsTo s) :
    i.LeadsTo (s.dismountRequest r errors e) := by
  unfold State.dismountRequest
  repeat' first
    | with_reducible assumption
    | with_reducible apply leads_endRequest
    | with_reducible apply leads_dismountDrive
    | split

theorem leads_mountDone (r : ReqNo) (d : Nat) (v : Serial) {i s : State} (h : i.LeadsTo s) : i.LeadsTo (s.mountDone r d v) := by
  unfold State.mountDone
  dsimp only
  repeat' first
    | with_reducible assumption
    | with_reducible apply leads_enterMounted
    | with_reducible apply leads_dismountRequest
    | split

theorem leads_putToSlot (m : Move) {i s : State} (h : i.LeadsTo s) : i.LeadsTo (s.putToSlot m) := by
  unfold State.putToSlot
  repeat' first
    | with_reducible assumption
    | with_reducible apply leads_freeMoveCell
    | with_reducible apply leads_updCurrent
    | split

theorem leads_cancelMoving (r : ReqNo) {i s : State} (h : i.LeadsTo s) : i.LeadsTo (s.cancelMoving r) := by
  unfold State.cancelMoving
  dsimp only
  repeat' first
    | with_reducible assumption
    | with_reducible apply leads_push
    | with_reducible refine leads_updReq ?_ _ fun _ => ⟨rfl, id⟩
    | with_reducible apply leads_releaseDrivesOf
    | with_reducible apply leads_endRequest
    | with_reducible apply leads_putToSlot
    | split

theorem leads_sendRelease (server : Nat) (r : ReqNo) (k : ReleaseKind) {i s : State} (h : i.LeadsTo s) :
    i.LeadsTo (s.sendRelease server r k) := by
  unfold State.sendRelease
  repeat' first
    | with_reducible assumption
    | with_reducible apply leads_send

theorem leads_releaseProxy (r : ReqNo) (k : ReleaseKind) {i s : State} (h : i.LeadsTo s) : i.LeadsTo (s.releaseProxy r k) := by
  unfold State.releaseProxy
  repeat' first
    | with_reducible assumption
    | with_reducible refine leads_updReq ?_ _ fun _ => ⟨rfl, id⟩
    | with_reducible apply leads_sendRelease
    | split

theorem leads_cancelRequest (r : ReqNo) {i s : State} (h : i.LeadsTo s) : i.LeadsTo (s.cancelRequest r) := by
  unfold State.cancelRequest
  repeat' first
    | with_reducible assumption
    | with_reducible refine leads_updReq ?_ _ fun _ => ⟨rfl, id⟩
    | with_reducible apply leads_endRequest
    | with_reducible apply leads_dismountRequest
    | with_reducible apply leads_cancelMoving
    | with_reducible apply leads_sendRelease
    | with_reducible apply leads_releaseProxy
    | split

theorem leads_serveShelfWait (p : Prompt) {i s : State} (h : i.LeadsTo s) : i.LeadsTo (s.serveShelfWait p) := by
  unfold State.serveShelfWait
  split
  next v c _ _ =>
    have hserved : i.LeadsTo (if s.tableRoom = 0 then (s.updPrompt p.key fun p => { p with cellWait := false }).returnPrompt p.key
        else (s.updPrompt p.key fun p => { p with cellWait := false }).putCell c (.expecting v .shelf)) := by
      have hupd : i.LeadsTo (s.updPrompt p.key fun p => { p with cellWait := false }) := leads_updPrompt h _ fun _ => rfl
      split
      · exact leads_returnPrompt _ hupd
      next hroom =>
        exact leads_putCell_room hupd _ _ fun _ => (tableRoom_pos_iff s).mp (Nat.pos_of_ne_zero hroom)
    dsimp only
    split
    · split
      · exact leads_withdrawPrompt _ hserved
      · exact hserved
    · exact hserved
  · exact h

theorem leads_serveRingWait (r : ReqNo) {i s : State} (h : i.LeadsTo s) : i.LeadsTo (s.serveRingWait r) := by
  unfold State.serveRingWait
  repeat' first
    | with_reducible assumption
    | with_reducible refine leads_updReq ?_ _ fun _ => ⟨rfl, id⟩
    | with_reducible apply leads_startMove
    | split

theorem leads_serveCells {i s : State} (h : i.LeadsTo s) : i.LeadsTo s.serveCells := by
  unfold State.serveCells
  dsimp only
  repeat' first
    | with_reducible assumption
    | with_reducible apply leads_serveExit
    | with_reducible apply leads_serveShelfWait
    | with_reducible apply leads_serveRingWait
    | with_reducible apply leads_forEach
    | intro _

theorem leads_giveUpReel (m : Move) {i s : State} (h : i.LeadsTo s) : i.LeadsTo (s.giveUpReel m) := by
  unfold State.giveUpReel
  dsimp only
  repeat' first
    | with_reducible assumption
    | with_reducible refine leads_modArm ?_ le_rfl
    | with_reducible apply leads_push
    | with_reducible apply leads_delEntry
    | with_reducible apply leads_reelMissing
    | with_reducible apply leads_raisePlain
    | with_reducible apply leads_freeMoveCell
    | with_reducible apply leads_endMove
    | with_reducible apply leads_endRequest
    | with_reducible apply leads_failRequest
    | split

theorem leads_redirect (m : Move) (dst : Loc) (p : Option CellPurpose) (failed : Bool) {i s : State} (h : i.LeadsTo s)
    (hpurpose : fromShelf p = false) :
    i.LeadsTo (s.redirect m dst p failed) := by
  unfold State.redirect
  dsimp only
  refine leads_push (leads_updCurrent _ ?_) _
  split
  next k _ => exact leads_putCell (leads_freeMoveCell _ h) _ (isShelf_expecting hpurpose)
  · exact leads_freeMoveCell _ h

theorem leads_putAwayMove (failed occupied : Bool) {i s : State} (h : i.LeadsTo s) : i.LeadsTo (s.putAwayMove failed occupied) := by
  unfold State.putAwayMove
  dsimp only
  repeat' first
    | with_reducible assumption
    | exact rfl
    | with_reducible apply leads_push
    | with_reducible refine leads_updReq ?_ _ fun _ => ⟨rfl, id⟩
    | with_reducible apply leads_reserveDrive
    | with_reducible apply leads_updCurrent
    | with_reducible apply leads_endRequest
    | with_reducible apply leads_backToStandby
    | with_reducible apply leads_giveUpReel
    | with_reducible apply leads_redirect
    | split

theorem leads_getEffects (m : Move) (ring : Bool) {i s : State} (h : i.LeadsTo s) : i.LeadsTo (s.getEffects m ring) := by
  unfold State.getEffects
  dsimp only
  repeat' first
    | with_reducible assumption
    | with_reducible apply leads_push
    | with_reducible refine leads_updEntry ?_ _ fun _ => ⟨rfl, rfl⟩
    | with_reducible apply leads_updRec
    | with_reducible apply leads_emptyCell
    | with_reducible apply leads_driveToEmpty
    | with_reducible apply leads_updCurrent
    | split

theorem leads_ringRedirect (m : Move) (q : Request) {i s : State} (h : i.LeadsTo s) : i.LeadsTo (s.ringRedirect m q) := by
  unfold State.ringRedirect
  dsimp only
  repeat' first
    | with_reducible assumption
    | exact rfl
    | with_reducible refine leads_updReq ?_ _ fun _ => ⟨rfl, id⟩
    | with_reducible apply leads_releaseDrivesOf
    | with_reducible apply leads_redirect
    | split

theorem leads_recheckRedirect (m : Move) (q : Request) {i s : State} (h : i.LeadsTo s) : i.LeadsTo (s.recheckRedirect m q) := by
  unfold State.recheckRedirect
  dsimp only
  repeat' first
    | with_reducible assumption
    | exact rfl
    | with_reducible apply leads_push
    | with_reducible refine leads_updReq ?_ _ fun _ => ⟨rfl, id⟩
    | with_reducible apply leads_redirect
    | split

theorem leads_afterGet (m : Move) (ring : Bool) {i s : State} (h : i.LeadsTo s) : i.LeadsTo (s.afterGet m ring) := by
  unfold State.afterGet
  repeat' first
    | with_reducible assumption
    | with_reducible refine leads_updReq ?_ _ fun _ => ⟨rfl, id⟩
    | with_reducible apply leads_releaseDrivesOf
    | with_reducible apply leads_putToSlot
    | with_reducible apply leads_putAwayMove
    | with_reducible apply leads_ringRedirect
    | with_reducible apply leads_recheckRedirect
    | split

theorem leads_getDone (m : Move) (ring : Bool) {i s : State} (h : i.LeadsTo s) : i.LeadsTo (s.getDone m ring) := by
  unfold State.getDone
  dsimp only
  repeat' first
    | with_reducible assumption
    | with_reducible apply leads_push
    | with_reducible apply leads_serveCells
    | with_reducible apply leads_getEffects
    | with_reducible apply leads_afterGet
    | split

theorem leads_putToDrive (m : Move) (d : Nat) {i s : State} (h : i.LeadsTo s) : i.LeadsTo (s.putToDrive m d) := by
  unfold State.putToDrive
  dsimp only
  repeat' first
    | with_reducible assumption
    | with_reducible refine leads_updEntry ?_ _ fun _ => ⟨rfl, rfl⟩
    | with_reducible refine leads_updDrive ?_ _ fun _ => rfl
    | with_reducible apply leads_driveToIdle
    | with_reducible apply leads_mountDone
    | split

theorem leads_putToHatch (m : Move) (side : Side) {i s : State} (h : i.LeadsTo s) : i.LeadsTo (s.putToHatch m side) := by
  unfold State.putToHatch
  repeat' first
    | with_reducible assumption
    | with_reducible refine leads_updEntry ?_ _ fun _ => ⟨rfl, rfl⟩
    | with_reducible apply leads_updRec
    | with_reducible apply leads_owe

theorem leads_ringPlaced (r : ReqNo) (v : Serial) {i s : State} (h : i.LeadsTo s) : i.LeadsTo (s.ringPlaced r v) := by
  unfold State.ringPlaced
  repeat' first
    | with_reducible assumption
    | with_reducible apply leads_push
    | with_reducible apply leads_raise
    | with_reducible apply leads_startMove
    | split

theorem leads_slotCleared (v : Serial) {i s : State} (h : i.LeadsTo s) : i.LeadsTo (s.slotCleared v) := by
  unfold State.slotCleared
  repeat' first
    | with_reducible assumption
    | with_reducible refine leads_modInv ?_ rfl rfl rfl
    | with_reducible apply leads_push
    | split

theorem leads_moveReturns (m : Move) {i s : State} (h : i.LeadsTo s) : i.LeadsTo (s.moveReturns m) := by
  unfold State.moveReturns
  repeat' first
    | with_reducible assumption
    | with_reducible apply leads_endRequest
    | with_reducible apply leads_toStandby
    | split

theorem leads_putToCell (m : Move) (c : Nat) {i s : State} (h : i.LeadsTo s) : i.LeadsTo (s.putToCell m c) := by
  unfold State.putToCell
  dsimp only
  repeat' first
    | with_reducible assumption
    | with_reducible apply leads_push
    | with_reducible refine leads_updEntry ?_ _ fun _ => ⟨rfl, rfl⟩
    | with_reducible refine leads_putCell ?_ _ rfl
    | with_reducible apply leads_emptyCell
    | with_reducible apply leads_raisePlain
    | with_reducible apply leads_clearEntryIn
    | with_reducible apply leads_ringPlaced
    | with_reducible apply leads_slotCleared
    | with_reducible apply leads_moveReturns
    | split

theorem leads_putToSlotDone (m : Move) {i s : State} (h : i.LeadsTo s) : i.LeadsTo (s.putToSlotDone m) := by
  unfold State.putToSlotDone
  repeat' first
    | with_reducible assumption
    | with_reducible apply leads_push
    | with_reducible refine leads_updEntry ?_ _ fun _ => ⟨rfl, rfl⟩
    | with_reducible apply leads_moveReturns

theorem leads_putDone (m : Move) {i s : State} (h : i.LeadsTo s) : i.LeadsTo (s.putDone m) := by
  unfold State.putDone
  dsimp only
  repeat' first
    | with_reducible assumption
    | with_reducible apply leads_endMove
    | with_reducible apply leads_putToDrive
    | with_reducible apply leads_putToHatch
    | with_reducible apply leads_putToCell
    | with_reducible apply leads_putToSlotDone
    | split

theorem leads_failMoveReq (m : Move) (code : FailCode) {i s : State} (h : i.LeadsTo s) : i.LeadsTo (s.failMoveReq m code) := by
  unfold State.failMoveReq
  repeat' first
    | with_reducible assumption
    | with_reducible apply leads_endRequest
    | with_reducible apply leads_failRequest
    | split

theorem leads_cleanFailed (d : Nat) (v : Serial) {i s : State} (h : i.LeadsTo s) : i.LeadsTo (s.cleanFailed d v) := by
  unfold State.cleanFailed
  repeat' first
    | with_reducible assumption
    | with_reducible apply leads_push
    | with_reducible refine leads_updDrive ?_ _ fun _ => rfl
    | with_reducible apply leads_raisePlain
    | with_reducible apply leads_driveUseEnds
    | split

theorem leads_getFailed (m : Move) {i s : State} (h : i.LeadsTo s) : i.LeadsTo (s.getFailed m) := by
  unfold State.getFailed
  dsimp only
  repeat' first
    | with_reducible assumption
    | with_reducible refine leads_modInv ?_ rfl rfl rfl
    | with_reducible refine leads_updEntry ?_ _ fun _ => ⟨rfl, rfl⟩
    | with_reducible refine leads_updDrive ?_ _ fun _ => rfl
    | with_reducible apply leads_freeMoveCell
    | with_reducible apply leads_endMove
    | with_reducible apply leads_failMoveReq
    | with_reducible apply leads_cleanFailed
    | split

theorem leads_emptySource (m : Move) {i s : State} (h : i.LeadsTo s) : i.LeadsTo (s.emptySource m) := by
  unfold State.emptySource
  dsimp only
  repeat' first
    | with_reducible assumption
    | with_reducible refine leads_updDrive ?_ _ fun _ => rfl
    | with_reducible apply leads_updRec
    | with_reducible refine leads_putCell ?_ _ rfl
    | with_reducible apply leads_reelMissing
    | with_reducible apply leads_raisePlain
    | with_reducible apply leads_releaseDrive
    | with_reducible apply leads_freeMoveCell
    | with_reducible apply leads_endMove
    | with_reducible apply leads_failMoveReq
    | split

theorem leads_putFailed (m : Move) {i s : State} (h : i.LeadsTo s) : i.LeadsTo (s.putFailed m) := by
  unfold State.putFailed
  dsimp only
  repeat' first
    | with_reducible assumption
    | with_reducible apply leads_releaseDrive
    | with_reducible apply leads_updCurrent
    | with_reducible apply leads_putAwayMove
    | with_reducible apply leads_failMoveReq
    | with_reducible apply leads_cleanFailed
    | split

theorem leads_occupiedDest (m : Move) {i s : State} (h : i.LeadsTo s) : i.LeadsTo (s.occupiedDest m) := by
  unfold State.occupiedDest
  dsimp only
  repeat' first
    | with_reducible assumption
    | with_reducible apply leads_updRec
    | with_reducible refine leads_putCell ?_ _ rfl
    | with_reducible apply leads_raisePlain
    | with_reducible apply leads_driveOff
    | with_reducible apply leads_endRequest
    | with_reducible apply leads_backToStandby
    | with_reducible apply leads_putAwayMove
    | with_reducible apply leads_failMoveReq
    | split

theorem leads_retry (o : Order) (m : Move) {i s : State} (h : i.LeadsTo s) : i.LeadsTo (s.retry o m) := by
  unfold State.retry
  dsimp only
  repeat' first
    | with_reducible assumption
    | with_reducible refine leads_modArm ?_ le_rfl
    | with_reducible apply leads_report
    | split

theorem leads_moveFails (o : Order) (m : Move) {i s : State} (h : i.LeadsTo s) : i.LeadsTo (s.moveFails o m) := by
  unfold State.moveFails
  dsimp only
  repeat' first
    | with_reducible assumption
    | with_reducible apply leads_raisePlain
    | with_reducible apply leads_getFailed
    | with_reducible apply leads_putFailed
    | split

theorem leads_answered (o : Order) {i s : State} (h : i.LeadsTo s) : i.LeadsTo (s.answered o) := by
  unfold State.answered
  repeat' first
    | with_reducible assumption
    | with_reducible refine leads_modArm ?_ le_rfl
    | with_reducible apply leads_claimAnswered

theorem leads_orderFails (o : Order) (m : Move) (f : Fail) {i s : State} (h : i.LeadsTo s) : i.LeadsTo (s.orderFails o m f) := by
  unfold State.orderFails
  repeat' first
    | with_reducible assumption
    | with_reducible apply leads_push
    | with_reducible apply leads_emptySource
    | with_reducible apply leads_occupiedDest
    | with_reducible apply leads_retry
    | with_reducible apply leads_moveFails
    | split

theorem leads_askToClean (x : Drive) {i s : State} (h : i.LeadsTo s) : i.LeadsTo (s.askToClean x) := by
  unfold State.askToClean
  dsimp only
  repeat' first
    | with_reducible assumption
    | with_reducible refine leads_updDrive ?_ _ fun _ => rfl
    | with_reducible apply leads_addAsk
    | split

theorem leads_beginCleaning (d : Nat) {i s : State} (h : i.LeadsTo s) : i.LeadsTo (s.beginCleaning d) := by
  unfold State.beginCleaning
  repeat' first
    | with_reducible assumption
    | with_reducible refine leads_updDrive ?_ _ fun _ => rfl
    | with_reducible apply leads_withdrawPrompt
    | with_reducible apply leads_raisePlain
    | with_reducible apply leads_cleanMove
    | with_reducible apply leads_askToClean
    | split

theorem leads_serveClean {i s : State} (h : i.LeadsTo s) : i.LeadsTo s.serveClean := by
  unfold State.serveClean
  repeat' first
    | with_reducible assumption
    | with_reducible apply leads_askToClean
    | with_reducible apply leads_beginCleaning
    | split

theorem leads_countStray {i s : State} (h : i.LeadsTo s) : i.LeadsTo s.countStray := by
  unfold State.countStray
  repeat' first
    | with_reducible assumption
    | with_reducible apply leads_modPx

theorem leads_countAttempt (r : ReqNo) (f : FollowUp) (unanswered : Bool) {i s : State} (h : i.LeadsTo s) :
    i.LeadsTo (s.countAttempt r f unanswered) := by
  unfold State.countAttempt
  repeat' first
    | with_reducible assumption
    | with_reducible refine leads_updReq ?_ _ fun _ => ⟨rfl, id⟩
    | with_reducible apply leads_failRequest
    | split

theorem Request.untry_fields (side : Option Side) (q : Request) :
    (Request.untry side q).req = q.req ∧ ((Request.untry side q).role ≠ .takenIn → q.role ≠ .takenIn) := by
  unfold Request.untry
  split <;> exact ⟨rfl, id⟩

theorem Request.try_fields (side : Side) (q : Request) :
    (Request.try_ side q).req = q.req ∧ ((Request.try_ side q).role ≠ .takenIn → q.role ≠ .takenIn) := by
  unfold Request.try_
  split <;> exact ⟨rfl, id⟩

theorem Request.addSkip_fields (side : Side) (q : Request) :
    (Request.addSkip side q).req = q.req ∧ ((Request.addSkip side q).role ≠ .takenIn → q.role ≠ .takenIn) := by
  unfold Request.addSkip
  split <;> exact ⟨rfl, id⟩

theorem leads_sendPlace (r : ReqNo) (p : Nat) {i s : State} (h : i.LeadsTo s) : i.LeadsTo (s.sendPlace r p) := by
  unfold State.sendPlace
  dsimp only
  repeat' first
    | with_reducible assumption
    | refine leads_updReq ?_ _ fun _ => Request.untry_fields _ _
    | with_reducible refine leads_updReq ?_ _ fun _ => ⟨rfl, id⟩
    | with_reducible apply leads_send
    | with_reducible apply leads_countAttempt
    | split

theorem State.LeadsTo.own {i s : State} (h : i.LeadsTo s) {r : ReqNo} {q : Request} (hq : s.findReq r = some q)
    (hrole : q.role ≠ .takenIn)
    (hi : i.Bounded) : r.origin = s.sys.startup.stationNumber :=
  State.findReq_key hq ▸ (h.bounded hi).origins q (State.mem_of_findReq hq) hrole

theorem leads_becomeProxy (r : ReqNo) (p : Nat) {i s : State} (h : i.LeadsTo s)
    (hown : i.Bounded → r.origin = s.sys.startup.stationNumber) : i.LeadsTo (s.becomeProxy r p) := by
  unfold State.becomeProxy
  split
  · exact h
  · exact leads_reqReport _ _ (leads_updReq_own h _ (fun _ => rfl) hown)

theorem leads_takeAnswer (r : ReqNo) (a : Answer) {i s : State} (h : i.LeadsTo s) : i.LeadsTo (s.takeAnswer r a) := by
  unfold State.takeAnswer
  dsimp only
  repeat' first
    | with_reducible assumption
    | with_reducible refine leads_updReq ?_ _ fun _ => ⟨rfl, id⟩
    | with_reducible apply leads_reqReport
    | with_reducible apply leads_failRequest
    | with_reducible apply leads_countAttempt
    | with_reducible apply leads_sendPlace
    | split

theorem leads_weighAnswers (r : ReqNo) (l : List Answer) {i s : State} (h : i.LeadsTo s) : i.LeadsTo (s.weighAnswers r l) := by
  unfold State.weighAnswers
  repeat' first
    | with_reducible assumption
    | with_reducible apply leads_failRequest
    | with_reducible apply leads_takeAnswer
    | split

theorem leads_shelfFetch (r : ReqNo) (v : Serial) {i s : State} (h : i.LeadsTo s) : i.LeadsTo (s.shelfFetch r v) := by
  unfold State.shelfFetch
  repeat' first
    | with_reducible assumption
    | with_reducible refine leads_updReq ?_ _ fun _ => ⟨rfl, id⟩
    | with_reducible apply leads_raise

theorem leads_closeReseek (r : ReqNo) (l : List Answer) {i s : State} (h : i.LeadsTo s) : i.LeadsTo (s.closeReseek r l) := by
  unfold State.closeReseek
  dsimp only
  repeat' first
    | with_reducible assumption
    | with_reducible refine leads_updReq ?_ _ fun _ => ⟨rfl, id⟩
    | with_reducible apply leads_unlink
    | with_reducible apply leads_weighAnswers
    | split

theorem leads_closeWindow (r : ReqNo) {i s : State} (h : i.LeadsTo s) : i.LeadsTo (s.closeWindow r) := by
  unfold State.closeWindow
  dsimp only
  repeat' first
    | with_reducible assumption
    | with_reducible apply leads_push
    | with_reducible refine leads_updReq ?_ _ fun _ => ⟨rfl, id⟩
    | with_reducible apply leads_failRequest
    | with_reducible apply leads_weighAnswers
    | with_reducible apply leads_shelfFetch
    | with_reducible apply leads_closeReseek
    | split

theorem leads_offerHop (r : ReqNo) {i s : State} (h : i.LeadsTo s) : i.LeadsTo (s.offerHop r) := by
  unfold State.offerHop
  dsimp only
  repeat' first
    | with_reducible assumption
    | refine leads_updReq ?_ _ fun _ => Request.try_fields _ _
    | with_reducible refine leads_updReq ?_ _ fun _ => ⟨rfl, id⟩
    | with_reducible apply leads_send
    | split

theorem leads_hopRefused (r : ReqNo) (p : Nat) {i s : State} (h : i.LeadsTo s) : i.LeadsTo (s.hopRefused r p) := by
  unfold State.hopRefused
  dsimp only
  repeat' first
    | with_reducible assumption
    | refine leads_updReq ?_ _ fun _ => Request.addSkip_fields _ _
    | with_reducible apply leads_push
    | with_reducible refine leads_updReq ?_ _ fun _ => ⟨rfl, id⟩
    | split

theorem leads_hopAccepted (r : ReqNo) (p : Nat) {i s : State} (h : i.LeadsTo s) : i.LeadsTo (s.hopAccepted r p) := by
  unfold State.hopAccepted
  dsimp only
  repeat' first
    | with_reducible assumption
    | with_reducible refine leads_updReq ?_ _ fun _ => ⟨rfl, id⟩
    | with_reducible apply leads_addAsk
    | split

theorem leads_hopBack (r : ReqNo) (side : Side) {i s : State} (h : i.LeadsTo s) : i.LeadsTo (s.hopBack r side) := by
  unfold State.hopBack
  dsimp only
  repeat' first
    | with_reducible assumption
    | refine leads_updReq ?_ _ fun _ => Request.addSkip_fields _ _
    | with_reducible refine leads_updReq ?_ _ fun _ => ⟨rfl, id⟩
    | with_reducible apply leads_dropAsker
    | with_reducible apply leads_endRequest
    | with_reducible apply leads_toStandby
    | split

theorem leads_takeBack (c : ClaimRec) (side : Side) (r : ReqNo) (v : Serial) (b : Nat) {i s : State} (h : i.LeadsTo s) :
    i.LeadsTo (s.takeBack c side r v b) := by
  unfold State.takeBack
  dsimp only
  repeat' first
    | with_reducible assumption
    | with_reducible apply leads_updRec
    | with_reducible apply leads_withdraw
    | with_reducible apply leads_dropAsk
    | with_reducible apply leads_askTakeIn
    | with_reducible apply leads_hopBack
    | split

theorem leads_handoffOne (c : ClaimRec) {i s : State} (h : i.LeadsTo s) : i.LeadsTo (s.handoffOne c) := by
  unfold State.handoffOne
  repeat' first
    | with_reducible assumption
    | with_reducible apply leads_send
    | with_reducible apply leads_withdraw
    | with_reducible apply leads_takeBack
    | split

theorem leads_strayTest (res : Resource) {i s : State} (h : i.LeadsTo s) : i.LeadsTo (s.strayTest res) := by
  unfold State.strayTest
  repeat' first
    | with_reducible assumption
    | with_reducible apply leads_owe
    | split

theorem leads_handoffOn (res : Resource) {i s : State} (h : i.LeadsTo s) : i.LeadsTo (s.handoffOn res) := by
  unfold State.handoffOn
  repeat' first
    | with_reducible assumption
    | with_reducible apply leads_owe
    | with_reducible apply leads_handoffOne
    | split

theorem leads_handoffTest {i s : State} (h : i.LeadsTo s) : i.LeadsTo s.handoffTest := by
  unfold State.handoffTest
  repeat' first
    | with_reducible assumption
    | with_reducible apply leads_handoffOn
    | with_reducible apply leads_forEach
    | intro _

theorem leads_addMoved (r : ReqNo) (p : Nat) {i s : State} (h : i.LeadsTo s) : i.LeadsTo (s.addMoved r p) := by
  unfold State.addMoved
  dsimp only
  repeat' first
    | with_reducible assumption
    | with_reducible apply leads_modPx

theorem leads_depart (v : Serial) (p : Nat) {i s : State} (h : i.LeadsTo s) : i.LeadsTo (s.depart v p) := by
  unfold State.depart
  repeat' first
    | with_reducible assumption
    | with_reducible apply leads_push
    | with_reducible refine leads_updEntry ?_ _ fun _ => ⟨rfl, rfl⟩
    | with_reducible apply leads_delEntry
    | split

theorem leads_hopDone (r : ReqNo) (p : Nat) {i s : State} (h : i.LeadsTo s) : i.LeadsTo (s.hopDone r p) := by
  unfold State.hopDone
  dsimp only
  repeat' first
    | with_reducible assumption
    | exact fun _ => ‹_›
    | with_reducible refine leads_updReq ?_ _ fun _ => ⟨rfl, id⟩
    | with_reducible apply leads_delReq
    | with_reducible apply leads_endReservations
    | with_reducible apply leads_sendOutcome
    | with_reducible apply leads_sendRelease
    | with_reducible apply leads_releaseProxy
    | with_reducible apply leads_becomeProxy
    | with_reducible apply leads_addMoved
    | split

theorem leads_handoffWitnessed (b : HandoffBody) {i s : State} (h : i.LeadsTo s) : i.LeadsTo (s.handoffWitnessed b) := by
  unfold State.handoffWitnessed
  dsimp only
  repeat' first
    | with_reducible assumption
    | with_reducible apply leads_updRec
    | with_reducible apply leads_dropAsk
    | with_reducible apply leads_depart
    | with_reducible apply leads_hopDone
    | split

theorem leads_hopArrives (r : ReqNo) (v : Serial) {i s : State} (h : i.LeadsTo s) : i.LeadsTo (s.hopArrives r v) := by
  unfold State.hopArrives
  repeat' first
    | with_reducible assumption
    | with_reducible apply leads_push
    | with_reducible refine leads_updEntry ?_ _ fun _ => ⟨rfl, rfl⟩
    | with_reducible refine leads_updReq ?_ _ fun _ => ⟨rfl, id⟩
    | with_reducible apply leads_dropArrival
    | with_reducible apply leads_startMove

/-- The arrival of a hop makes room for the entry of its reel (R3). -/
theorem State.load_dropArrival {r : ReqNo} {s : State} (hs : s.Bounded) (h : r ∈ s.inv.hatchArrivals ∨ 1 ≤ s.tableRoom) :
    (s.dropArrival r).load < 600 := by
  have hreels := hs.reels
  have hload : (s.dropArrival r).load = s.inv.entries.length + (s.inv.hatchArrivals.erase r).length + s.shelfArrivals := rfl
  rcases h with hmem | hroom
  · have hpos := List.length_pos_of_mem hmem
    rw [List.length_erase_of_mem hmem] at hload
    omega
  · have hlt := (tableRoom_pos_iff s).mp hroom
    have hle : (s.inv.hatchArrivals.erase r).length ≤ s.inv.hatchArrivals.length := List.length_erase_le ..
    have hs : s.load = s.inv.entries.length + s.inv.hatchArrivals.length + s.shelfArrivals := rfl
    omega

theorem leads_placeArrival (b : HandoffBody) (sender : Nat) (side : Side) {i s : State} (h : i.LeadsTo s) :
    i.LeadsTo (s.placeArrival b sender side) := by
  have hclear : i.LeadsTo (s.raisePlain .hatchClear (.hatch side)) := leads_raisePlain _ _ h
  unfold State.placeArrival
  dsimp only
  split
  next r hnone _ =>
    split
    next hroom =>
      have hfresh : (s.dropArrival r).findEntry (visitingEntry b side).volume = none := hnone
      refine leads_hopArrives _ _ (leads_addEntry (leads_dropArrival h r) (fun hi => ?_) (fun _ => hfresh) fun _ _ hslot => nomatch hslot)
      exact State.load_dropArrival (h.bounded hi) hroom
    · exact hclear
  · split
    · have hcarried : i.LeadsTo (s.updEntry b.volume (Entry.carried b side)) := leads_updEntry h _ fun _ => ⟨rfl, rfl⟩
      split
      · exact leads_hopArrives _ _ hcarried
      · split
        · exact leads_askTakeIn _ hcarried
        · exact hclear
    · exact hclear
  next hnone _ =>
    split
    next hroom =>
      have hfresh : s.findEntry (visitingEntry b side).volume = none := hnone
      exact leads_owe _ _ _ (leads_addEntry h (fun _ => (tableRoom_pos_iff s).mp hroom.2) (fun _ => hfresh) fun _ _ hslot => nomatch hslot)
    · exact hclear

theorem leads_hearHandoff (b : HandoffBody) (sender : Nat) {i s : State} (h : i.LeadsTo s) : i.LeadsTo (s.hearHandoff b sender) := by
  unfold State.hearHandoff
  dsimp only
  repeat' first
    | with_reducible assumption
    | with_reducible apply leads_push
    | with_reducible apply leads_updRec
    | with_reducible apply leads_withdraw
    | with_reducible apply leads_endConflict
    | with_reducible apply leads_placeArrival
    | split

theorem leads_answer (m : Msg) {i s : State} (h : i.LeadsTo s) : i.LeadsTo (s.answer m) := by
  unfold State.answer
  repeat' first
    | with_reducible assumption
    | with_reducible apply leads_send
    | split

theorem leads_refuse (sender : Nat) (r : ReqNo) (why : RefuseReason) {i s : State} (h : i.LeadsTo s) :
    i.LeadsTo (s.refuse sender r why) := by
  unfold State.refuse
  repeat' first
    | with_reducible assumption
    | with_reducible apply leads_answer

theorem leads_accept (sender : Nat) (r : ReqNo) {i s : State} (h : i.LeadsTo s) : i.LeadsTo (s.accept sender r) := by
  unfold State.accept
  repeat' first
    | with_reducible assumption
    | with_reducible apply leads_answer

theorem State.claimReel_frame (v : Serial) (r : ReqNo) (k : ReservKind) (s : State) :
    (s.claimReel v r k).2.sys = s.sys ∧ (s.claimReel v r k).2.rm = s.rm := by
  unfold State.claimReel
  split <;> exact ⟨rfl, rfl⟩

theorem State.accept_frame (sender : Nat) (r : ReqNo) (s : State) :
    (s.accept sender r).sys = s.sys ∧ (s.accept sender r).rm = s.rm ∧ (s.accept sender r).inv = s.inv := by
  unfold State.accept State.answer
  split
  · exact ⟨rfl, rfl, rfl⟩
  · rw [State.send_frame]
    exact ⟨rfl, rfl, rfl⟩

/-- A number of another station that no TAKEN_IN record has is no request's (R40, R42). -/
theorem State.Bounded.stranger {s : State} (h : s.Bounded) {r : ReqNo} (horigin : r.origin ≠ s.self)
    (hother : ∀ q, s.findReq r = some q → q.role ≠ .takenIn) : ∀ p ∈ s.rm.queue, p.req ≠ r := by
  intro p hp hr
  obtain ⟨q, hq⟩ : ∃ q, s.findReq r = some q := Option.isSome_iff_exists.mp (List.find?_isSome.mpr ⟨p, hp, by simp [hr]⟩)
  exact horigin (State.findReq_key hq ▸ h.origins q (State.mem_of_findReq hq) (hother q hq))

theorem leads_hearPlace (b : PlaceBody) (sender : Nat) {i s : State} (h : i.LeadsTo s) : i.LeadsTo (s.hearPlace b sender) := by
  unfold State.hearPlace
  dsimp only
  split
  · exact leads_accept _ _ h
  next hother =>
    split
    · exact leads_refuse _ _ _ h
    next horigin =>
      split
      · exact leads_refuse _ _ _ h
      next hmode =>
        split
        · exact leads_refuse _ _ _ h
        next hroom =>
          split
          · exact leads_refuse _ _ _ h
          next e he =>
            refine leads_ite (leads_refuse _ _ _ h) (leads_ite (leads_refuse _ _ _ h) ?_)
            have hfresh : i.Bounded → ∀ p ∈ s.rm.queue, p.req ≠ b.req := fun hi =>
              (h.bounded hi).stranger horigin fun q hq hrole => by
                obtain ⟨⟩ := q
                cases hrole
                apply hother
                exact hq
            have hclaimed := leads_claimReel b.reel b.req .held h
            have hframe := State.claimReel_frame b.reel b.req .held s
            rcases hdone : s.claimReel b.reel b.req .held with ⟨result, t⟩
            rw [hdone] at hclaimed hframe
            cases result with
            | granted =>
              obtain ⟨hsys, hrm⟩ := hframe
              have hadded : i.LeadsTo ((t.accept sender b.req).addReq (s.takenIn b .waiting none none)) := by
                have haccept := State.accept_frame sender b.req t
                refine leads_addReq (leads_accept _ _ hclaimed) (fun _ => ?_) (fun _ => ?_) (fun hi => ?_) fun _ hrole => absurd rfl hrole
                · rw [haccept.1, hsys]
                  exact fun e => hmode (.inl fun e' => Mode.noConfusion (e.symm.trans e'))
                · rw [haccept.2.1, hrm]
                  exact Nat.lt_of_not_le hroom
                · rw [haccept.2.1, hrm]
                  exact hfresh hi
              dsimp only
              split
              · exact leads_push hadded _
              · exact leads_push (leads_lookup _ hadded) _
            | _ => exact leads_refuse _ _ _ h

theorem leads_hopDecide (b : PlaceBody) (sender : Nat) (convert : Bool) {i s : State} (h : i.LeadsTo s)
    (hconvert : convert = true → i.Bounded → b.req.origin = s.sys.startup.stationNumber)
    (hfresh : convert = false → i.Bounded → ∀ p ∈ s.rm.queue, p.req ≠ b.req) :
    i.LeadsTo (s.hopDecide b sender convert) := by
  unfold State.hopDecide
  extract_lets r refuse hatch
  have hrefuse : ∀ why, i.LeadsTo (refuse why) := fun why => leads_refuse _ _ _ h
  split
  · exact hrefuse _
  next hmode =>
    split
    · exact hrefuse _
    split
    · exact hrefuse _
    split
    · exact hrefuse _
    next hroom =>
      split
      · exact hrefuse _
      next htable =>
        split
        · exact hrefuse _
        next x _ =>
          obtain ⟨hsys, hrm, hinv⟩ := State.accept_frame sender r s
          have harrival : i.LeadsTo ((s.accept sender r).modInv fun v => { v with hatchArrivals := v.hatchArrivals ++ [r] }) :=
            leads_arrival (leads_accept _ _ h) r fun _ => by
              rw [State.load, State.shelfArrivals, hinv]
              exact (tableRoom_pos_iff s).mp (Nat.pos_of_ne_zero htable)
          refine leads_reserveDrive _ _ ?_
          split
          next hc => exact leads_updReq_own harrival _ (fun _ => rfl) fun hi =>
            (hconvert hc hi).trans (congrArg (fun y : Sys => y.startup.stationNumber) hsys).symm
          next hc =>
            have hnew : convert = false := Bool.eq_false_iff.mpr hc
            refine leads_addReq harrival (fun _ e => ?_) (fun _ => ?_) (fun hi => ?_) fun _ hrole => absurd rfl hrole
            · exact hmode (.inl (by rw [← hsys]; exact fun e' => Mode.noConfusion (e.symm.trans e')))
            · show (s.accept sender r).rm.queue.length < 32
              rw [hrm]
              exact Nat.lt_of_not_le fun hfull => hroom ⟨hnew, hfull⟩
            · show ∀ p ∈ (s.accept sender r).rm.queue, p.req ≠ b.req
              rw [hrm]
              exact hfresh hnew hi

theorem leads_hearViaHatch (b : PlaceBody) (sender : Nat) {i s : State} (h : i.LeadsTo s) : i.LeadsTo (s.hearViaHatch b sender) := by
  unfold State.hearViaHatch
  split
  · exact leads_accept _ _ h
  next hq =>
    split
    · exact leads_hopDecide _ _ _ h (fun _ => h.own hq nofun) nofun
    · exact leads_refuse _ _ _ h
  next hother _ =>
    split
    · exact leads_refuse _ _ _ h
    next horigin =>
      exact leads_hopDecide _ _ _ h nofun fun _ hi => (h.bounded hi).stranger horigin fun q hq hrole => by
        obtain ⟨⟩ := q
        cases hrole
        apply hother
        exact hq

theorem leads_hearPlaced (r : ReqNo) (sender : Nat) {i s : State} (h : i.LeadsTo s) : i.LeadsTo (s.hearPlaced r sender) := by
  unfold State.hearPlaced
  dsimp only
  repeat' first
    | with_reducible assumption
    | exact fun hi => h.own ‹_› (by simp [*]) hi
    | with_reducible apply leads_sendRelease
    | with_reducible apply leads_countStray
    | with_reducible apply leads_becomeProxy
    | with_reducible apply leads_hopAccepted
    | split

theorem leads_hearRefused (r : ReqNo) (why : RefuseReason) (sender : Nat) {i s : State} (h : i.LeadsTo s) :
    i.LeadsTo (s.hearRefused r why sender) := by
  unfold State.hearRefused
  repeat' first
    | with_reducible assumption
    | with_reducible apply leads_failRequest
    | with_reducible apply leads_countStray
    | with_reducible apply leads_countAttempt
    | with_reducible apply leads_hopRefused
    | split

theorem leads_proxyDismounted (q : Request) (n : Nat) {i s : State} (h : i.LeadsTo s) : i.LeadsTo (s.proxyDismounted q n) := by
  unfold State.proxyDismounted
  repeat' first
    | with_reducible assumption
    | with_reducible apply leads_endRequest
    | split

theorem leads_proxyMoved (q : Request) (p : Nat) {i s : State} (h : i.LeadsTo s) : i.LeadsTo (s.proxyMoved q p) := by
  unfold State.proxyMoved
  repeat' first
    | with_reducible assumption
    | with_reducible refine leads_updReq ?_ _ fun _ => ⟨rfl, id⟩
    | with_reducible apply leads_failRequest
    | split

theorem leads_proxyMounted (q : Request) (d : DriveId) {i s : State} (h : i.LeadsTo s) : i.LeadsTo (s.proxyMounted q d) := by
  unfold State.proxyMounted
  repeat' first
    | with_reducible assumption
    | with_reducible refine leads_updReq ?_ _ fun _ => ⟨rfl, id⟩
    | with_reducible apply leads_reqReport
    | split

theorem leads_applyOutcome (q : Request) (ev : OutcomeEvent) {i s : State} (h : i.LeadsTo s) : i.LeadsTo (s.applyOutcome q ev) := by
  unfold State.applyOutcome
  repeat' first
    | with_reducible assumption
    | with_reducible apply leads_endRequest
    | with_reducible apply leads_failRequest
    | with_reducible apply leads_proxyDismounted
    | with_reducible apply leads_proxyMoved
    | with_reducible apply leads_proxyMounted
    | split

theorem leads_applyState (q : Request) (a : StateAnswer) {i s : State} (h : i.LeadsTo s) : i.LeadsTo (s.applyState q a) := by
  unfold State.applyState
  dsimp only
  repeat' first
    | with_reducible assumption
    | with_reducible refine leads_updReq ?_ _ fun _ => ⟨rfl, id⟩
    | with_reducible apply leads_endRequest
    | with_reducible apply leads_failRequest
    | with_reducible apply leads_proxyMoved
    | with_reducible apply leads_proxyMounted
    | split

theorem leads_fromServer (r : ReqNo) (sender : Nat) (movedHere : Bool) (apply : Request → State → State) {i s : State} (h : i.LeadsTo s)
    (happly : ∀ q t, i.LeadsTo t → i.LeadsTo (apply q t)) :
    i.LeadsTo (s.fromServer r sender movedHere apply) := by
  unfold State.fromServer
  split
  · exact leads_countStray h
  next q hq =>
    split
    · split
      · exact happly _ _ h
      · exact leads_countStray h
    next hrole =>
      split
      · have hproxy := leads_becomeProxy r sender h (h.own hq (by simp [hrole]))
        dsimp only
        split
        · exact happly _ _ hproxy
        · exact hproxy
      split
      · exact h
      · exact leads_countStray h
    · exact leads_countStray h

theorem leads_hearAsk (r : ReqNo) {i s : State} (h : i.LeadsTo s) : i.LeadsTo (s.hearAsk r) := by
  unfold State.hearAsk
  dsimp only
  repeat' first
    | with_reducible assumption
    | with_reducible apply leads_modPx
    | with_reducible apply leads_send
    | split

theorem leads_hearRelease (r : ReqNo) (k : ReleaseKind) (sender : Nat) {i s : State} (h : i.LeadsTo s) :
    i.LeadsTo (s.hearRelease r k sender) := by
  unfold State.hearRelease
  repeat' first
    | with_reducible assumption
    | with_reducible apply leads_dismountRequest
    | with_reducible apply leads_cancelRequest
    | with_reducible apply leads_countStray
    | split

theorem leads_sendHave (b : SeekBody) (e : Entry) (st : HaveStatus) {i s : State} (h : i.LeadsTo s) : i.LeadsTo (s.sendHave b e st) := by
  unfold State.sendHave
  repeat' first
    | with_reducible assumption
    | with_reducible apply leads_send

theorem leads_hearSeek (b : SeekBody) (sender : Nat) {i s : State} (h : i.LeadsTo s) : i.LeadsTo (s.hearSeek b sender) := by
  unfold State.hearSeek
  split
  · split
    next v _ =>
      split
      · exact h
      next e _ =>
        split
        · exact h
        · exact leads_sendHave _ _ _ h
        · have hclaimed := leads_claimReel v b.req (.timed (s.claimExpiry sender)) h
          rcases hdone : s.claimReel v b.req (.timed (s.claimExpiry sender)) with ⟨result, t⟩
          rw [hdone] at hclaimed
          cases result with
          | _ => exact leads_sendHave _ _ _ hclaimed
    · split
      · exact h
      · exact leads_sendHave _ _ _ (leads_claimReel _ _ _ h)
  · exact h

theorem leads_handoffKept (res : Resource) {i s : State} (h : i.LeadsTo s) : i.LeadsTo (s.handoffKept res) := by
  unfold State.handoffKept
  repeat' first
    | with_reducible assumption
    | with_reducible apply leads_handoffOne
    | split

theorem leads_ownerUndelivered (m : Msg) (cause : UndelCause)
    {i s : State} (h : i.LeadsTo s) : i.LeadsTo (s.ownerUndelivered m cause) := by
  unfold State.ownerUndelivered
  repeat' first
    | with_reducible assumption
    | with_reducible refine leads_updReq ?_ _ fun _ => by split <;> exact ⟨rfl, id⟩
    | with_reducible apply leads_push
    | with_reducible refine leads_updReq ?_ _ fun _ => ⟨rfl, id⟩
    | with_reducible apply leads_updRec
    | with_reducible apply leads_endGiveWay
    | with_reducible apply leads_disputeLost
    | with_reducible apply leads_countAttempt
    | with_reducible apply leads_closeWindow
    | with_reducible apply leads_hopRefused
    | with_reducible apply leads_handoffKept
    | with_reducible apply leads_settleReseek
    | split

theorem leads_ownerWitnessed (m : Msg) {i s : State} (h : i.LeadsTo s) : i.LeadsTo (s.ownerWitnessed m) := by
  unfold State.ownerWitnessed
  repeat' first
    | with_reducible assumption
    | with_reducible refine leads_updReq ?_ _ fun _ => by split <;> exact ⟨rfl, id⟩
    | with_reducible refine leads_updReq ?_ _ fun _ => ⟨rfl, id⟩
    | with_reducible apply leads_holdWitnessed
    | with_reducible apply leads_yieldWitnessed
    | with_reducible apply leads_handoffWitnessed
    | split

theorem leads_ownerWithdrawn (m : Msg) {i s : State} (h : i.LeadsTo s) : i.LeadsTo (s.ownerWithdrawn m) := by
  unfold State.ownerWithdrawn
  repeat' first
    | with_reducible assumption
    | with_reducible apply leads_push
    | with_reducible apply leads_yieldKept
    | with_reducible apply leads_holdKept
    | with_reducible apply leads_disputeLost
    | split

theorem leads_exchangeAbsent (p : Nat) {i s : State} (h : i.LeadsTo s) : i.LeadsTo (s.exchangeAbsent p) := by
  unfold State.exchangeAbsent
  dsimp only
  repeat' first
    | with_reducible assumption
    | with_reducible refine leads_modRm ?_ rfl fun _ => ⟨rfl, id⟩
    | with_reducible apply leads_modRm
    | with_reducible refine leads_updReq ?_ _ fun _ => ⟨rfl, id⟩
    | with_reducible apply leads_removeMoves
    | with_reducible apply leads_failRequest
    | with_reducible apply leads_countAttempt
    | with_reducible apply leads_hopRefused
    | with_reducible apply leads_hopBack
    | with_reducible apply leads_forEach
    | intro _
    | split

theorem leads_planLookup {i s : State} (h : i.LeadsTo s) : i.LeadsTo s.planLookup := by
  unfold State.planLookup
  repeat' first
    | with_reducible assumption
    | with_reducible apply leads_lookup
    | with_reducible apply leads_forEach
    | intro _
    | split

theorem leads_planLine {i s : State} (h : i.LeadsTo s) : i.LeadsTo s.planLine := by
  unfold State.planLine
  repeat' first
    | with_reducible assumption
    | with_reducible apply leads_askSeek
    | with_reducible apply leads_sendPlace
    | with_reducible apply leads_forEach
    | intro _
    | split

theorem leads_planClaim (r : ReqNo) {i s : State} (h : i.LeadsTo s) : i.LeadsTo (s.planClaim r) := by
  unfold State.planClaim
  repeat' first
    | with_reducible assumption
    | with_reducible apply leads_claimReel
    | with_reducible apply leads_failRequest
    | split

theorem leads_grant (r : ReqNo) (x : Drive) {i s : State} (h : i.LeadsTo s) : i.LeadsTo (s.grant r x) := by
  unfold State.grant
  dsimp only
  repeat' first
    | with_reducible assumption
    | with_reducible refine leads_updReq ?_ _ fun _ => ⟨rfl, id⟩
    | with_reducible apply leads_addAsk
    | with_reducible apply leads_reserveDrive
    | with_reducible apply leads_startMove
    | split

theorem leads_arbitrate (r : ReqNo) {i s : State} (h : i.LeadsTo s) : i.LeadsTo (s.arbitrate r) := by
  unfold State.arbitrate
  repeat' first
    | with_reducible assumption
    | with_reducible apply leads_grant
    | split

theorem leads_arbiter {i s : State} (h : i.LeadsTo s) : i.LeadsTo s.arbiter := by
  unfold State.arbiter
  repeat' first
    | with_reducible assumption
    | with_reducible apply leads_arbitrate
    | with_reducible apply leads_forEach
    | intro _

theorem leads_planRing (r : ReqNo) {i s : State} (h : i.LeadsTo s) : i.LeadsTo (s.planRing r) := by
  unfold State.planRing
  repeat' first
    | with_reducible assumption
    | with_reducible apply leads_startMove
    | split

theorem leads_planHop (r : ReqNo) {i s : State} (h : i.LeadsTo s) : i.LeadsTo (s.planHop r) := by
  unfold State.planHop
  repeat' first
    | with_reducible assumption
    | with_reducible apply leads_offerHop
    | split

theorem leads_planYield (r : ReqNo) {i s : State} (h : i.LeadsTo s) : i.LeadsTo (s.planYield r) := by
  unfold State.planYield
  repeat' first
    | with_reducible assumption
    | with_reducible refine leads_modDrv ?_ rfl
    | with_reducible apply leads_driveToIdle
    | split

theorem leads_driveAsks {i s : State} (h : i.LeadsTo s) : i.LeadsTo s.driveAsks := by
  unfold State.driveAsks
  repeat' first
    | with_reducible assumption
    | with_reducible apply leads_addAsk
    | with_reducible apply leads_forEach
    | intro _
    | split

theorem leads_planTakeIn (r : ReqNo) {i s : State} (h : i.LeadsTo s) : i.LeadsTo (s.planTakeIn r) := by
  unfold State.planTakeIn
  repeat' first
    | with_reducible assumption
    | with_reducible apply leads_startMove
    | split

theorem leads_plan {i s : State} (h : i.LeadsTo s) : i.LeadsTo s.plan := by
  unfold State.plan
  dsimp only
  repeat' first
    | with_reducible assumption
    | with_reducible apply leads_claimTest
    | with_reducible apply leads_examineDrive
    | with_reducible apply leads_planLookup
    | with_reducible apply leads_planLine
    | with_reducible apply leads_planClaim
    | with_reducible apply leads_arbiter
    | with_reducible apply leads_planRing
    | with_reducible apply leads_planHop
    | with_reducible apply leads_planYield
    | with_reducible apply leads_driveAsks
    | with_reducible apply leads_planTakeIn
    | with_reducible apply leads_forEach
    | intro _

theorem leads_endDriveAsk (d : Nat) {i s : State} (h : i.LeadsTo s) : i.LeadsTo (s.endDriveAsk d) := by
  unfold State.endDriveAsk
  repeat' first
    | with_reducible assumption
    | with_reducible apply leads_dropAsk
    | split

theorem leads_driveEmptied (d : Nat) {i s : State} (h : i.LeadsTo s) : i.LeadsTo (s.driveEmptied d) := by
  unfold State.driveEmptied
  dsimp only
  repeat' first
    | with_reducible assumption
    | with_reducible apply leads_driveUseEnds
    | with_reducible apply leads_beginCleaning
    | with_reducible apply leads_arbiter
    | with_reducible apply leads_endDriveAsk
    | split

theorem leads_useEndWork {i s : State} (h : i.LeadsTo s) : i.LeadsTo s.useEndWork := by
  unfold State.useEndWork
  repeat' first
    | with_reducible assumption
    | with_reducible apply leads_push
    | with_reducible apply leads_useEndTest
    | split

theorem leads_offerRoom {i s : State} (h : i.LeadsTo s) : i.LeadsTo s.offerRoom := by
  unfold State.offerRoom
  dsimp only
  repeat' first
    | with_reducible assumption
    | with_reducible apply leads_stowDrive
    | with_reducible apply leads_cleanMove
    | with_reducible apply leads_askEntryIn
    | with_reducible apply leads_askTakeIn
    | with_reducible apply leads_serveExit
    | with_reducible apply leads_startMove
    | with_reducible apply leads_forEach
    | intro _
    | split

theorem leads_tellObtained (res : Resource) (a : Asker) {i s : State} (h : i.LeadsTo s) : i.LeadsTo (s.tellObtained res a) := by
  unfold State.tellObtained
  repeat' first
    | with_reducible assumption
    | with_reducible apply leads_push
    | with_reducible apply leads_dropAsk
    | with_reducible apply leads_stowDrive
    | with_reducible apply leads_startMove
    | with_reducible apply leads_beginCleaning
    | split

theorem leads_toldHeld (res : Resource) (a : Asker) {i s : State} (h : i.LeadsTo s) : i.LeadsTo (s.toldHeld res a) := by
  unfold State.toldHeld
  repeat' first
    | with_reducible assumption
    | with_reducible apply leads_push
    | with_reducible apply leads_tellObtained
    | split

theorem leads_holdObtained (res : Resource) {i s : State} (h : i.LeadsTo s) : i.LeadsTo (s.holdObtained res) := by
  unfold State.holdObtained
  repeat' first
    | with_reducible assumption
    | with_reducible apply leads_push
    | with_reducible apply leads_tellObtained
    | with_reducible apply leads_forEach
    | intro _
    | split

theorem leads_holdLost (res : Resource) {i s : State} (h : i.LeadsTo s) : i.LeadsTo (s.holdLost res) := by
  unfold State.holdLost
  dsimp only
  repeat' first
    | with_reducible assumption
    | with_reducible apply leads_push
    | with_reducible apply leads_addAsk
    | with_reducible apply leads_dropAsk
    | with_reducible apply leads_releaseDrivesOf
    | with_reducible apply leads_backToStandby
    | with_reducible apply leads_forEach
    | intro _
    | split

theorem leads_freeQuietly (r : ReqNo) {i s : State} (h : i.LeadsTo s) : i.LeadsTo (s.freeQuietly r) := by
  refine leads_modDrv h ?_
  rw [List.map_map]
  refine List.map_congr_left fun x _ => ?_
  dsimp only [Function.comp_apply, Drive.freed]
  split <;> rfl

theorem leads_planWithoutHolds {i s : State} (h : i.LeadsTo s) : i.LeadsTo s.planWithoutHolds := by
  unfold State.planWithoutHolds
  repeat' first
    | with_reducible assumption
    | with_reducible apply leads_modClaim
    | with_reducible apply leads_plan

theorem leads_holdNotTaken (res : Resource) {i s : State} (h : i.LeadsTo s) : i.LeadsTo (s.holdNotTaken res) := by
  unfold State.holdNotTaken
  dsimp only
  repeat' first
    | with_reducible assumption
    | with_reducible refine leads_updReq ?_ _ fun _ => ⟨rfl, id⟩
    | with_reducible apply leads_dropAsk
    | with_reducible apply leads_freeQuietly
    | with_reducible apply leads_planWithoutHolds
    | with_reducible apply leads_forEach
    | intro _
    | split

theorem leads_shelfArrived (v : Serial) (links : List ReqNo) {i s : State} (h : i.LeadsTo s) : i.LeadsTo (s.shelfArrived v links) := by
  unfold State.shelfArrived
  dsimp only
  repeat' first
    | with_reducible assumption
    | with_reducible apply leads_claimReel
    | with_reducible refine leads_updReq ?_ _ fun _ => ⟨rfl, id⟩
    | with_reducible apply leads_reqReport
    | with_reducible apply leads_toStandby
    | with_reducible apply leads_forEach
    | intro _
    | split

theorem leads_enterReel (v : Serial) (c n : Nat) {i s : State} (h : i.LeadsTo s)
    (hroom : i.Bounded → s.load < 600) (hvolume : s.findEntry v = none) (hslot : s.slotNamed n = false) : i.LeadsTo (s.enterReel v c n) := by
  unfold State.enterReel
  have hfree : ∀ a ∈ s.inv.entries, a.slot ≠ some n := by simpa [State.slotNamed] using hslot
  exact leads_queueEntryIn _ (leads_addEntry h hroom (fun _ => hvolume) fun _ m hm => Option.some.inj hm ▸ hslot)

theorem State.lowestFreeSlot_free {n : Nat} {s : State} (h : s.lowestFreeSlot = some n) : s.slotNamed n = false := by
  simpa using List.find?_some h

theorem leads_serveSlots {i s : State} (h : i.LeadsTo s) : i.LeadsTo s.serveSlots := by
  refine leads_forEach _ (fun c t ht => ?_) h
  split
  next n v hn _ =>
    split
    next hnew =>
      dsimp only
      split
      next p _ =>
        split
        · refine leads_withdrawPrompt _ (leads_updPrompt (leads_shelfArrived _ _ ?_) _ fun _ => rfl)
          exact leads_enterReel _ _ _ ht (fun _ => (tableRoom_pos_iff t).mp hnew.2) hnew.1 (State.lowestFreeSlot_free hn)
        · exact ht
      · exact ht
    · exact ht
  · exact ht

theorem leads_shelfGone (v : Serial) {i s : State} (h : i.LeadsTo s) : i.LeadsTo (s.shelfGone v) := by
  unfold State.shelfGone
  dsimp only
  repeat' first
    | with_reducible assumption
    | with_reducible apply leads_emptyCell
    | with_reducible apply leads_withdrawPrompt
    | split

theorem leads_promptLeft (p : Prompt) {i s : State} (h : i.LeadsTo s) : i.LeadsTo (s.promptLeft p) := by
  unfold State.promptLeft
  dsimp only
  repeat' first
    | with_reducible assumption
    | with_reducible apply leads_takeDeferred
    | with_reducible apply leads_retryPending
    | with_reducible apply leads_askEntryIn
    | with_reducible apply leads_shelfGone
    | split

theorem leads_settleDropped {i s : State} (h : i.LeadsTo s) : i.LeadsTo s.settleDropped := by
  unfold State.settleDropped
  repeat' first
    | with_reducible assumption
    | with_reducible apply leads_push
    | with_reducible apply leads_updRec
    | with_reducible apply leads_sendYield
    | with_reducible apply leads_addAsk
    | with_reducible apply leads_forEach
    | intro _
    | split

theorem leads_doWork (w : Work) {i s : State} (h : i.LeadsTo s) : i.LeadsTo (s.doWork w) := by
  unfold State.doWork
  dsimp only
  repeat' first
    | with_reducible assumption
    | with_reducible apply leads_push
    | with_reducible apply leads_claimTest
    | with_reducible apply leads_askEntryIn
    | with_reducible apply leads_issue
    | with_reducible apply leads_failRequest
    | with_reducible apply leads_reelGone
    | with_reducible apply leads_serveCells
    | with_reducible apply leads_putAwayMove
    | with_reducible apply leads_serveClean
    | with_reducible apply leads_strayTest
    | with_reducible apply leads_handoffOn
    | with_reducible apply leads_handoffTest
    | with_reducible apply leads_ownerUndelivered
    | with_reducible apply leads_plan
    | with_reducible apply leads_driveEmptied
    | with_reducible apply leads_useEndWork
    | with_reducible apply leads_offerRoom
    | with_reducible apply leads_toldHeld
    | with_reducible apply leads_holdObtained
    | with_reducible apply leads_holdLost
    | with_reducible apply leads_holdNotTaken
    | with_reducible apply leads_serveSlots
    | with_reducible apply leads_promptLeft
    | with_reducible apply leads_settleDropped
    | split

theorem leads_drain (n : Nat) {i s : State} (h : i.LeadsTo s) : i.LeadsTo (State.drain n s) := by
  induction n generalizing s with
  | zero => exact h
  | succ n ih =>
    unfold State.drain
    split
    · exact h
    · exact ih (leads_doWork _ (leads_withAgenda h _))

theorem leads_settle {i s : State} (h : i.LeadsTo s) : i.LeadsTo s.settle := by
  exact leads_withAgenda (leads_drain _ h) _

theorem leads_askPresence (tag : PresTag) {i s : State} (h : i.LeadsTo s) : i.LeadsTo (s.askPresence tag) := by
  unfold State.askPresence
  dsimp only
  repeat' first
    | with_reducible assumption
    | with_reducible apply leads_push
    | with_reducible apply leads_sendTagged
    | with_reducible apply leads_repeatYields
    | split

theorem leads_startPresence {i s : State} (h : i.LeadsTo s) : i.LeadsTo s.startPresence := by
  unfold State.startPresence
  repeat' first
    | with_reducible assumption
    | with_reducible refine leads_modLine ?_ le_rfl

theorem leads_withCondition {f : State → State} {i s : State} (h : i.LeadsTo (f s)) : i.LeadsTo (s.withCondition f) := by
  unfold State.withCondition
  dsimp only
  split
  · exact leads_startPresence (leads_askPresence _ h)
  · exact h

theorem leads_takeUpCell (c : Nat) {i s : State} (h : i.LeadsTo s) : i.LeadsTo (s.takeUpCell c) := by
  unfold State.takeUpCell
  dsimp only
  repeat' first
    | with_reducible assumption
    | with_reducible apply leads_raise
    | with_reducible apply leads_raisePlain
    | with_reducible apply leads_askEntryIn
    | with_reducible apply leads_forEach
    | intro _
    | split

theorem leads_takeUpDrive (x : Drive) {i s : State} (h : i.LeadsTo s) : i.LeadsTo (s.takeUpDrive x) := by
  unfold State.takeUpDrive
  repeat' first
    | with_reducible assumption
    | with_reducible refine leads_updDrive ?_ _ fun _ => rfl
    | with_reducible apply leads_stowDrive
    | with_reducible apply leads_beginCleaning
    | split

theorem leads_enterActive {i s : State} (h : i.LeadsTo s) : i.LeadsTo s.enterActive := by
  unfold State.enterActive
  dsimp only
  repeat' first
    | with_reducible assumption
    | with_reducible refine leads_modSys_running ?_ (fun e => Mode.noConfusion e) rfl
    | with_reducible refine leads_modSys ?_ rfl rfl
    | with_reducible refine leads_modLine ?_ le_rfl
    | with_reducible refine leads_modPort ?_ le_rfl
    | with_reducible apply leads_push
    | with_reducible apply leads_report
    | with_reducible apply leads_askPresence
    | with_reducible apply leads_startPresence
    | with_reducible apply leads_takeUpCell
    | with_reducible apply leads_takeUpDrive
    | with_reducible apply leads_score
    | with_reducible apply leads_forEach
    | intro _

theorem leads_closeAll {i s : State} (h : i.LeadsTo s) : i.LeadsTo s.closeAll := by
  unfold State.closeAll
  repeat' first
    | with_reducible assumption
    | with_reducible apply leads_closeSession
    | with_reducible apply leads_forEach
    | intro _

theorem leads_reportListen {i s : State} (h : i.LeadsTo s) : i.LeadsTo s.reportListen := by
  unfold State.reportListen
  repeat' first
    | with_reducible assumption
    | with_reducible apply leads_report
    | split

theorem restartDrive_address (d : Drive) : (restartDrive d).address = d.address := by
  unfold restartDrive
  dsimp only
  split <;> rfl

theorem restartEntry_fields {e f : Entry} (h : restartEntry e = some f) : f.volume = e.volume ∧ f.slot = e.slot := by
  unfold restartEntry at h
  dsimp only at h
  split at h
  · exact Option.some.inj h ▸ ⟨rfl, rfl⟩
  · exact Option.some.inj h ▸ ⟨rfl, rfl⟩
  · exact absurd h nofun
  · exact absurd h nofun
  · exact Option.some.inj h ▸ ⟨rfl, rfl⟩

/-- Where `f` keeps what `g` reads, no reading is new. -/
theorem filterMap_sublist_of_kept {α β : Type} {f : α → Option α} {g : α → Option β} (hf : ∀ a b, f a = some b → g b = g a) (l : List α) :
    ((l.filterMap f).filterMap g).Sublist (l.filterMap g) := by
  induction l with
  | nil => exact .slnil
  | cons a l ih =>
    rw [List.filterMap_cons, List.filterMap_cons (f := g)]
    cases hfa : f a with
    | none =>
      cases g a with
      | none => exact ih
      | some _ => exact ih.cons _
    | some b =>
      dsimp only
      rw [List.filterMap_cons, hf a b hfa]
      cases g a with
      | none => exact ih
      | some _ => exact ih.cons_cons _

/-- No arrival is expected after a RESTART (R19). -/
theorem restart_load {s : State} (h : s.Bounded) :
    (s.inv.entries.filterMap restartEntry).length + 0 + (s.inv.cells.map restartCell).countP isShelf ≤ 600 := by
  have hcells : (s.inv.cells.map restartCell).countP isShelf = 0 := by
    rw [List.countP_eq_zero]
    intro c hc
    obtain ⟨d, -, rfl⟩ := List.mem_map.mp hc
    cases d <;> exact Bool.false_ne_true
  have hreels := h.reels
  have hentries := List.length_filterMap_le restartEntry s.inv.entries
  omega

theorem leads_completeRestart {i s : State} (h : i.LeadsTo s) : i.LeadsTo s.completeRestart := by
  have hclosed : i.LeadsTo s.closeAll.reportListen := leads_reportListen (leads_closeAll h)
  refine ⟨fun hi => ?_, fun hi => ?_⟩
  · have hb := hclosed.bounded hi
    obtain ⟨hnodup, hrange⟩ := hb.addresses
    have haddresses : (s.closeAll.reportListen.drv.drives.map restartDrive).map Drive.address =
        s.closeAll.reportListen.drv.drives.map Drive.address := by
      rw [List.map_map]
      exact List.map_congr_left fun d _ => restartDrive_address d
    exact
      { requests := Nat.zero_le _
        numbers := List.nodup_nil
        origins := fun q hq => nomatch hq
        quiet := fun _ => rfl
        reels := by rw [State.shelfArrivals_eq]; exact restart_load hb
        volumes := by
          have hkept := filterMap_sublist_of_kept (g := some ∘ Entry.volume) (fun _ _ he => congrArg some (restartEntry_fields he).1)
            s.closeAll.reportListen.inv.entries
          rw [List.filterMap_eq_map] at hkept
          exact hb.volumes.sublist hkept
        slots := hb.slots.sublist (filterMap_sublist_of_kept (fun _ _ he => (restartEntry_fields he).2) _)
        drives := (List.length_map _).trans_le hb.drives
        addresses := by
          refine ⟨haddresses.symm ▸ hnodup, fun d hd => ?_⟩
          obtain ⟨y, hy, rfl⟩ := List.mem_map.mp hd
          exact restartDrive_address y ▸ hrange y hy
        moves := Nat.zero_le _
        messages := Nat.zero_le _
        prompts := Nat.zero_le _
        promptNames := List.nodup_nil
        sessions := hb.sessions
        reports := Nat.zero_le _ }
  · show s.closeAll.reportListen.panel.ackPress.map _ = none
    rw [hclosed.press hi]
    rfl

theorem leads_flushTx (p : TxMsg → Bool) (cause : UndelCause) {i s : State} (h : i.LeadsTo s) : i.LeadsTo (s.flushTx p cause) := by
  unfold State.flushTx
  dsimp only
  repeat' first
    | with_reducible assumption
    | with_reducible refine leads_modLine ?_ (List.length_filter_le ..)
    | with_reducible refine leads_modLine ?_ le_rfl
    | with_reducible apply leads_giveUpAll

theorem leads_undeliver (m : TxMsg) (n : Nat) (cause : UndelCause)
    {i s : State} (h : i.LeadsTo s) : i.LeadsTo (s.undeliver m n cause) := by
  unfold State.undeliver
  repeat' first
    | with_reducible assumption
    | with_reducible apply leads_report
    | with_reducible apply leads_ownerUndelivered
    | split

theorem leads_clearTx (cause : UndelCause) {i s : State} (h : i.LeadsTo s) : i.LeadsTo (s.clearTx cause) := by
  unfold State.clearTx
  repeat' first
    | with_reducible assumption
    | with_reducible refine leads_modLine ?_ (Nat.zero_le _)
    | with_reducible refine leads_modLine ?_ le_rfl
    | with_reducible apply leads_undeliver
    | with_reducible apply leads_forEach
    | intro _

theorem leads_enterLine (new : LineState) {i s : State} (h : i.LeadsTo s) : i.LeadsTo (s.enterLine new) := by
  unfold State.enterLine
  repeat' first
    | with_reducible assumption
    | with_reducible refine leads_modLine ?_ le_rfl
    | with_reducible apply leads_dropHolds
    | with_reducible apply leads_flushTx
    | with_reducible apply leads_clearTx
    | split

theorem leads_setLine (new : LineState) {i s : State} (h : i.LeadsTo s) : i.LeadsTo (s.setLine new) := by
  unfold State.setLine
  dsimp only
  repeat' first
    | with_reducible assumption
    | with_reducible refine leads_modLine ?_ le_rfl
    | with_reducible apply leads_push
    | with_reducible apply leads_report
    | with_reducible apply leads_withCondition
    | with_reducible apply leads_enterActive
    | with_reducible apply leads_completeRestart
    | with_reducible apply leads_enterLine
    | split

theorem leads_score (f : Nat → Nat) {i s : State} (h : i.LeadsTo s) : i.LeadsTo (s.score f) := by
  unfold State.score
  dsimp only
  repeat' first
    | with_reducible assumption
    | with_reducible refine leads_modLine ?_ le_rfl
    | with_reducible apply leads_setLine
    | split

theorem leads_badFrame {i s : State} (h : i.LeadsTo s) : i.LeadsTo s.badFrame := by
  unfold State.badFrame
  dsimp only
  repeat' first
    | with_reducible assumption
    | with_reducible refine leads_modLine ?_ le_rfl
    | with_reducible apply leads_score

theorem leads_recover {i s : State} (h : i.LeadsTo s) : i.LeadsTo s.recover := by
  unfold State.recover
  dsimp only
  repeat' first
    | with_reducible assumption
    | with_reducible refine leads_modLine ?_ le_rfl
    | with_reducible apply leads_push
    | with_reducible apply leads_report
    | with_reducible apply leads_askPresence
    | with_reducible apply leads_startPresence

theorem leads_credit (p : Nat) {i s : State} (h : i.LeadsTo s) : i.LeadsTo (s.credit p) := by
  unfold State.credit
  dsimp only
  repeat' first
    | with_reducible assumption
    | with_reducible apply leads_report
    | with_reducible apply leads_updRoster
    | with_reducible apply leads_testOwedTo
    | split

theorem leads_peerGone (p : Nat) {i s : State} (h : i.LeadsTo s) : i.LeadsTo (s.peerGone p) := by
  unfold State.peerGone
  dsimp only
  repeat' first
    | with_reducible assumption
    | with_reducible apply leads_push
    | with_reducible apply leads_report
    | with_reducible apply leads_updRoster
    | with_reducible apply leads_claimAbsent
    | with_reducible apply leads_exchangeAbsent

theorem leads_neighbourHeard (p : Nat) (changed : Bool) {i s : State} (h : i.LeadsTo s) : i.LeadsTo (s.neighbourHeard p changed) := by
  unfold State.neighbourHeard
  dsimp only
  repeat' first
    | with_reducible assumption
    | with_reducible refine leads_modRm ?_ rfl fun _ => by split <;> exact ⟨rfl, id⟩
    | with_reducible apply leads_modRm
    | with_reducible apply leads_push
    | split

theorem leads_hearPresence (b : PresenceBody) (p : Nat) {i s : State} (h : i.LeadsTo s) : i.LeadsTo (s.hearPresence b p) := by
  unfold State.hearPresence
  dsimp only
  repeat' first
    | with_reducible assumption
    | with_reducible apply leads_updRoster
    | with_reducible apply leads_credit
    | with_reducible apply leads_peerGone
    | with_reducible apply leads_neighbourHeard
    | split

theorem leads_takeFrame (sender : Nat) (presence : Bool) (deliver : State → State) {i s : State} (h : i.LeadsTo s)
    (hdeliver : ∀ t, i.LeadsTo t → i.LeadsTo (deliver t)) :
    i.LeadsTo (s.takeFrame sender presence deliver) := by
  unfold State.takeFrame
  dsimp only
  split
  · split
    · exact h
    · exact leads_setLine _ h
  · refine leads_ite (leads_recover (hdeliver _ ?_)) (hdeliver _ ?_)
    all_goals exact leads_ite (leads_modLine (leads_ite h (leads_credit _ h)) le_rfl) (leads_ite h (leads_credit _ h))

theorem leads_hear (sender : Nat) (legal presence : Bool) (deliver : State → State) {i s : State} (h : i.LeadsTo s)
    (hdeliver : ∀ t, i.LeadsTo t → i.LeadsTo (deliver t)) :
    i.LeadsTo (s.hear sender legal presence deliver) := by
  unfold State.hear
  repeat' first
    | with_reducible assumption
    | with_reducible apply leads_settle
    | with_reducible apply leads_badFrame
    | with_reducible apply leads_takeFrame
    | split

theorem leads_dropOnLine {i s : State} (h : i.LeadsTo s) : i.LeadsTo s.dropOnLine := by
  unfold State.dropOnLine
  repeat' first
    | with_reducible assumption
    | with_reducible refine leads_modLine ?_ (List.length_filter_le ..)

theorem leads_keepOnLine (attempts : Nat) {i s : State} (h : i.LeadsTo s) : i.LeadsTo (s.keepOnLine attempts) := by
  unfold State.keepOnLine
  repeat' first
    | with_reducible assumption
    | with_reducible refine leads_modLine ?_ (List.length_map ..).le

theorem leads_joiningEnded (witnessed : Bool) {i s : State} (h : i.LeadsTo s) : i.LeadsTo (s.joiningEnded witnessed) := by
  unfold State.joiningEnded
  repeat' first
    | with_reducible assumption
    | with_reducible refine leads_modSys ?_ rfl rfl
    | with_reducible apply leads_enterActive
    | split

theorem leads_settled (m : TxMsg) {i s : State} (h : i.LeadsTo s) : i.LeadsTo (s.settled m) := by
  unfold State.settled
  repeat' first
    | with_reducible assumption
    | with_reducible apply leads_ownerWitnessed
    | with_reducible apply leads_completeRestart
    | with_reducible apply leads_joiningEnded
    | split

theorem leads_attemptWitnessed {i s : State} (h : i.LeadsTo s) : i.LeadsTo s.attemptWitnessed := by
  unfold State.attemptWitnessed
  dsimp only
  repeat' first
    | with_reducible assumption
    | with_reducible apply leads_score
    | with_reducible apply leads_dropOnLine
    | with_reducible apply leads_settled
    | split

theorem leads_attemptsOut (m : TxMsg) (n : Nat) {i s : State} (h : i.LeadsTo s) : i.LeadsTo (s.attemptsOut m n) := by
  unfold State.attemptsOut
  repeat' first
    | with_reducible assumption
    | with_reducible apply leads_undeliver

theorem leads_attemptFailed (m : TxMsg) {i s : State} (h : i.LeadsTo s) : i.LeadsTo (s.attemptFailed m) := by
  unfold State.attemptFailed
  dsimp only
  repeat' first
    | with_reducible assumption
    | with_reducible apply leads_ownerWithdrawn
    | with_reducible apply leads_completeRestart
    | with_reducible apply leads_dropOnLine
    | with_reducible apply leads_keepOnLine
    | with_reducible apply leads_joiningEnded
    | with_reducible apply leads_attemptsOut
    | split

theorem leads_failAttempt (k : Nat) {i s : State} (h : i.LeadsTo s) : i.LeadsTo (s.failAttempt k) := by
  unfold State.failAttempt
  dsimp only
  repeat' first
    | with_reducible assumption
    | with_reducible apply leads_score
    | with_reducible apply leads_attemptFailed
    | split

theorem leads_beginFrame {i s : State} (h : i.LeadsTo s) : i.LeadsTo s.beginFrame := by
  unfold State.beginFrame
  split
  · exact h
  split
  · exact h
  next hqueue =>
    split
    · exact leads_modLine h (by rw [hqueue]; exact le_rfl)
    · exact h

theorem leads_contentionLost {i s : State} (h : i.LeadsTo s) : i.LeadsTo s.contentionLost := by
  unfold State.contentionLost
  repeat' first
    | with_reducible assumption
    | with_reducible apply leads_ownerWithdrawn
    | with_reducible apply leads_dropOnLine
    | with_reducible apply leads_keepOnLine
    | split

theorem leads_addressed (n : Nat) (act : State → State) {i s : State} (h : i.LeadsTo s) (hact : i.LeadsTo (act s)) :
    i.LeadsTo (s.addressed n act) := by
  unfold State.addressed
  split
  · exact hact
  · exact h

theorem leads_hearHave (b : HaveBody) (sender : Nat) {i s : State} (h : i.LeadsTo s) : i.LeadsTo (s.hearHave b sender) := by
  unfold State.hearHave
  repeat' first
    | with_reducible assumption
    | with_reducible refine leads_updReq ?_ _ fun _ => ⟨rfl, id⟩
    | with_reducible apply leads_countStray
    | split

theorem leads_takePlace (b : PlaceBody) (sender : Nat) {i s : State} (h : i.LeadsTo s) : i.LeadsTo (s.takePlace b sender) := by
  unfold State.takePlace
  repeat' first
    | with_reducible assumption
    | with_reducible apply leads_hearPlace
    | with_reducible apply leads_hearViaHatch
    | split

theorem leads_waitOver (r : ReqNo) (ph : Phase) (wait : Request → Option Nat) (act : Request → State → State)
    {i s : State} (h : i.LeadsTo s)
    (hact : ∀ q t, i.LeadsTo t → i.LeadsTo (act q t)) :
    i.LeadsTo (s.waitOver r ph wait act) := by
  unfold State.waitOver
  split
  · exact h
  split
  · exact h
  split
  · exact leads_settle (hact _ _ (leads_reach _ h))
  · exact h

theorem leads_settleReseek (r : ReqNo) {i s : State} (h : i.LeadsTo s) : i.LeadsTo (s.settleReseek r) := by
  unfold State.settleReseek
  dsimp only
  repeat' first
    | with_reducible assumption
    | with_reducible refine leads_updReq ?_ _ fun _ => ⟨rfl, id⟩
    | with_reducible apply leads_askSeek
    | split

theorem leads_followUp (q : Request) {i s : State} (h : i.LeadsTo s) : i.LeadsTo (s.followUp q) := by
  unfold State.followUp
  repeat' first
    | with_reducible assumption
    | with_reducible apply leads_askSeek
    | with_reducible apply leads_sendPlace
    | split

theorem leads_heartbeat (b : Bool) {i s : State} (h : i.LeadsTo s) : i.LeadsTo (s.heartbeat b) := by
  unfold State.heartbeat
  repeat' first
    | with_reducible assumption
    | with_reducible refine leads_modPort ?_ le_rfl
    | split

theorem leads_accepted (x : Xfer) {i s : State} (h : i.LeadsTo s) : i.LeadsTo (s.accepted x) := by
  unfold State.accepted
  repeat' first
    | with_reducible assumption
    | with_reducible refine leads_modPort ?_ le_rfl
    | with_reducible apply leads_heartbeat

theorem leads_reply (x : Xfer) (c : ReplyCode) (words : List Data) {i s : State} (h : i.LeadsTo s) : i.LeadsTo (s.reply x c words) := by
  unfold State.reply
  repeat' first
    | with_reducible assumption
    | with_reducible refine leads_modPort ?_ le_rfl

theorem leads_refuseCmd (x : Xfer) (c : ReplyCode) {i s : State} (h : i.LeadsTo s) : i.LeadsTo (s.refuseCmd x c) := by
  unfold State.refuseCmd
  repeat' first
    | with_reducible assumption
    | with_reducible apply leads_reply

/-- What an owning rule answers leads on from `i`. -/
def Answered.LeadsFrom (i : State) : Answered → Prop
  | .error _ => True
  | .stale t => i.LeadsTo t
  | .ok (_, t) => i.LeadsTo t

theorem leads_replyPart (x : Xfer) (a : Answered) {i s : State} (h : i.LeadsTo s) (ha : a.LeadsFrom i) : i.LeadsTo (s.replyPart x a) := by
  unfold State.replyPart
  dsimp only
  split
  · exact leads_refuseCmd _ _ h
  · exact leads_refuseCmd _ _ ha
  · split
    · exact leads_refuseCmd _ _ h
    split
    · exact leads_reply _ _ _ h
    · exact leads_reply _ _ _ ha

theorem leads_execute (x : Xfer) (least : Nat) (k : Kind) (f : State → Answered) {i s : State} (h : i.LeadsTo s)
    (hf : ∀ t, i.LeadsTo t → (f t).LeadsFrom i) :
    i.LeadsTo (s.execute x least k f) := by
  unfold State.execute
  dsimp only
  split
  · exact leads_refuseCmd _ _ (leads_accepted _ h)
  split
  · exact leads_refuseCmd _ _ (leads_accepted _ h)
  · exact leads_replyPart _ _ (leads_accepted _ h) (hf _ (leads_accepted _ h))

theorem leads_hostCommand (x : Xfer) (least : Nat) (k : Kind) (f : State → Answered) {i s : State} (h : i.LeadsTo s)
    (hf : ∀ t, i.LeadsTo t → (f t).LeadsFrom i) :
    i.LeadsTo (s.hostCommand x least k f) := by
  unfold State.hostCommand
  repeat' first
    | with_reducible assumption
    | with_reducible apply leads_settle
    | with_reducible apply leads_execute
    | split

theorem leads_countStale {i s : State} (h : i.LeadsTo s) : i.LeadsTo s.countStale := by
  unfold State.countStale
  repeat' first
    | with_reducible assumption
    | with_reducible refine leads_modArm ?_ le_rfl

theorem leads_completeOrder (o : Order) (ring : Bool) {i s : State} (h : i.LeadsTo s) : i.LeadsTo (s.completeOrder o ring) := by
  unfold State.completeOrder
  dsimp only
  repeat' first
    | with_reducible assumption
    | with_reducible apply leads_examineAlone
    | with_reducible apply leads_getDone
    | with_reducible apply leads_putDone
    | with_reducible apply leads_answered
    | split

theorem leads_faultOrder (o : Order) (f : Fail) {i s : State} (h : i.LeadsTo s) : i.LeadsTo (s.faultOrder o f) := by
  unfold State.faultOrder
  dsimp only
  repeat' first
    | with_reducible assumption
    | with_reducible apply leads_examineAlone
    | with_reducible apply leads_answered
    | with_reducible apply leads_orderFails
    | split

theorem leads_misplaced (v : Serial) {i s : State} (h : i.LeadsTo s) : i.LeadsTo (s.misplaced v) := by
  unfold State.misplaced
  repeat' first
    | with_reducible assumption
    | with_reducible apply leads_raisePlain

theorem leads_retireOut (v : Serial) (c : Nat) (keepCell : Bool) {i s : State} (h : i.LeadsTo s) :
    i.LeadsTo (s.retireOut v c keepCell) := by
  unfold State.retireOut
  dsimp only
  repeat' first
    | with_reducible assumption
    | with_reducible apply leads_emptyCell
    | with_reducible apply leads_retireEntry
    | split

theorem leads_declineLinks (k : PromptKey) {i s : State} (h : i.LeadsTo s) : i.LeadsTo (s.declineLinks k) := by
  unfold State.declineLinks
  repeat' first
    | with_reducible assumption
    | with_reducible refine leads_updPrompt ?_ _ fun _ => rfl
    | with_reducible apply leads_failRequest
    | with_reducible apply leads_forEach
    | intro _
    | split

theorem leads_strangerGone (w : Serial) {i s : State} (h : i.LeadsTo s) : i.LeadsTo (s.strangerGone w) := by
  unfold State.strangerGone
  dsimp only
  repeat' first
    | with_reducible assumption
    | with_reducible apply leads_withdrawPrompt
    | with_reducible apply leads_declineLinks

theorem leads_cellFoundEmpty (w : Serial) (c : Nat) {i s : State} (h : i.LeadsTo s) : i.LeadsTo (s.cellFoundEmpty w c) := by
  unfold State.cellFoundEmpty
  repeat' first
    | with_reducible assumption
    | with_reducible refine leads_putCell ?_ _ rfl
    | with_reducible apply leads_emptyCell
    | with_reducible apply leads_withdrawPrompt
    | with_reducible apply leads_retireOut
    | with_reducible apply leads_strangerGone
    | split

theorem leads_cellFoundOther (w : Serial) (c : Nat) {i s : State} (h : i.LeadsTo s) : i.LeadsTo (s.cellFoundOther w c) := by
  unfold State.cellFoundOther
  repeat' first
    | with_reducible assumption
    | with_reducible apply leads_reelMissing
    | with_reducible apply leads_withdrawPrompt
    | with_reducible apply leads_removeMoves
    | with_reducible apply leads_retireOut
    | with_reducible apply leads_strangerGone
    | split

theorem State.load_putCell_le (c : Nat) {st : CellState} (hst : isShelf st = false) (s : State) : (s.putCell c st).load ≤ s.load := by
  unfold State.load
  rw [State.shelfArrivals_eq, State.shelfArrivals_eq]
  refine Nat.add_le_add_left ?_ _
  show (s.inv.cells.set c st).countP isShelf ≤ _
  rcases Nat.lt_or_ge c s.inv.cells.length with hc | hc
  · rw [List.countP_set hc, hst]
    simp
  · rw [List.set_eq_of_length_le hc]

/-- A cell that awaited a reel from the shelf gives its room back (R3). -/
theorem State.load_putCell_lt {c : Nat} {st : CellState} {w : Serial} {s : State} (hst : isShelf st = false)
    (hcell : s.cellAt c = .expecting w .shelf) : (s.putCell c st).load < s.load := by
  have hc : c < s.inv.cells.length := by
    by_contra hout
    have hempty : s.cellAt c = .empty := by simp [State.cellAt, hout]
    exact CellState.noConfusion (hempty.symm.trans hcell)
  have hget : s.inv.cells[c] = .expecting w .shelf := by
    rw [← hcell]
    simp [State.cellAt, hc]
  have hpos : 0 < s.inv.cells.countP isShelf := List.countP_pos_iff.mpr ⟨_, List.getElem_mem hc, by rw [hget]; rfl⟩
  unfold State.load
  rw [State.shelfArrivals_eq, State.shelfArrivals_eq]
  refine Nat.add_lt_add_left ?_ _
  show (s.inv.cells.set c st).countP isShelf < _
  rw [List.countP_set hc, hst, hget]
  simp only [isShelf, if_true, Bool.false_eq_true, if_false]
  omega

theorem leads_unexpected (v : Serial) (c room : Nat) {i s : State} (h : i.LeadsTo s) (hroom : room ≤ s.tableRoom) :
    i.LeadsTo (s.unexpected v c room) := by
  unfold State.unexpected
  have hput : i.LeadsTo (s.putCell c (.occupied (some v))) := leads_putCell h _ rfl
  have hraise : ∀ d, i.LeadsTo
      ((s.putCell c (.occupied (some v))).raise { cls := .entryFull, subject := .volume v, detail := d, req := none }) :=
    fun d => leads_raise _ hput
  dsimp only
  split
  next hnone =>
    split
    next n hn =>
      split
      next hfull =>
        refine leads_enterReel _ _ _ hput (fun _ => ?_) hnone (State.lowestFreeSlot_free hn)
        exact (State.load_putCell_le c rfl s).trans_lt ((tableRoom_pos_iff s).mp (hfull.trans hroom))
      · exact hraise _
    · exact hraise _
  · split
    · exact leads_queueEntryIn _ (leads_updEntry hput _ fun _ => ⟨rfl, rfl⟩)
    · exact leads_misplaced _ hput

theorem leads_moveExpectation (w : Serial) (p : CellPurpose) (c d : Nat) {i s : State} (h : i.LeadsTo s)
    (hroom : p = .shelf → i.Bounded → s.load < 600) :
    i.LeadsTo (s.moveExpectation w p c d) := by
  unfold State.moveExpectation
  refine leads_modArm ?_ (List.length_map ..).le
  by_cases hp : p = .shelf
  · exact leads_putCell_room h _ _ (hroom hp)
  · exact leads_putCell h _ (isShelf_expecting (by cases p <;> [exact absurd rfl hp; rfl; rfl; rfl]))

theorem leads_queuedCellLost (m : Move) {i s : State} (h : i.LeadsTo s) : i.LeadsTo (s.queuedCellLost m) := by
  unfold State.queuedCellLost
  repeat' first
    | with_reducible assumption
    | with_reducible refine leads_modArm ?_ (List.length_map ..).le
    | with_reducible refine leads_modArm ?_ le_rfl
    | with_reducible refine leads_updEntry ?_ _ fun _ => ⟨rfl, rfl⟩
    | with_reducible apply leads_removeMoves
    | with_reducible apply leads_pendCell
    | split

theorem leads_dropExpectation (w : Serial) (p : CellPurpose) (c : Nat) {i s : State} (h : i.LeadsTo s) :
    i.LeadsTo (s.dropExpectation w p c) := by
  unfold State.dropExpectation
  repeat' first
    | with_reducible assumption
    | exact rfl
    | with_reducible refine leads_updEntry ?_ _ fun _ => ⟨rfl, rfl⟩
    | with_reducible refine leads_updReq ?_ _ fun _ => ⟨rfl, id⟩
    | with_reducible apply leads_returnPrompt
    | with_reducible apply leads_redirect
    | with_reducible apply leads_putAwayMove
    | with_reducible apply leads_queuedCellLost
    | split

theorem leads_expectationDisplaced (w : Serial) (p : CellPurpose) (c : Nat) {i s : State} (h : i.LeadsTo s)
    (hroom : p = .shelf → i.Bounded → s.load < 600) :
    i.LeadsTo (s.expectationDisplaced w p c) := by
  unfold State.expectationDisplaced
  split
  · exact leads_moveExpectation _ _ _ _ h hroom
  · exact leads_dropExpectation _ _ _ h

theorem leads_serveRingIn (p : Prompt) {i s : State} (h : i.LeadsTo s) : i.LeadsTo (s.serveRingIn p) := by
  unfold State.serveRingIn
  dsimp only
  repeat' first
    | with_reducible assumption
    | with_reducible refine leads_updReq ?_ _ fun _ => ⟨rfl, id⟩
    | with_reducible refine leads_updPrompt ?_ _ fun _ => rfl
    | with_reducible apply leads_leavePrompt
    | with_reducible apply leads_toStandby
    | with_reducible apply leads_startMove
    | with_reducible apply leads_forEach
    | intro _
    | split

theorem leads_askWaiting (v : Serial) {i s : State} (h : i.LeadsTo s) : i.LeadsTo (s.askWaiting v) := by
  unfold State.askWaiting
  repeat' first
    | with_reducible assumption
    | with_reducible apply leads_startMove
    | with_reducible apply leads_forEach
    | intro _

theorem leads_reelBack (v : Serial) (c : Nat) {i s : State} (h : i.LeadsTo s) : i.LeadsTo (s.reelBack v c) := by
  unfold State.reelBack
  dsimp only
  repeat' first
    | with_reducible assumption
    | with_reducible refine leads_updEntry ?_ _ fun e => by split <;> exact ⟨rfl, rfl⟩
    | with_reducible refine leads_updEntry ?_ _ fun _ => ⟨rfl, rfl⟩
    | with_reducible refine leads_putCell ?_ _ rfl
    | with_reducible apply leads_queueEntryIn
    | with_reducible apply leads_serveRingIn
    | with_reducible apply leads_askWaiting
    | split

theorem leads_shelfReported (v : Serial) (c : Nat) {i s : State} (h : i.LeadsTo s)
    (hcell : s.cellAt c = .expecting v .shelf) : i.LeadsTo (s.shelfReported v c) := by
  unfold State.shelfReported
  have hput : i.LeadsTo (s.putCell c (.occupied (some v))) := leads_putCell h _ rfl
  extract_lets k links t done
  have ht : i.LeadsTo t := hput
  have hdone : ∀ u, i.LeadsTo u → i.LeadsTo (done u) := fun u hu => leads_leavePrompt _ (leads_updPrompt hu _ fun _ => rfl)
  split
  · exact hdone _ (leads_shelfArrived _ _ (leads_ite (leads_queueEntryIn _ (leads_updEntry ht _ fun _ => ⟨rfl, rfl⟩))
      (leads_misplaced _ ht)))
  next hnone =>
    split
    next n hn =>
      refine hdone _ (leads_shelfArrived _ _ (leads_enterReel _ _ _ ht (fun hi => ?_) hnone (State.lowestFreeSlot_free hn)))
      exact (State.load_putCell_lt rfl hcell).trans_le (h.bounded hi).reels
    · exact leads_ite (leads_raise _ (hdone _ ht)) (leads_forEach _ (fun _ _ hu => leads_raise _ hu) (hdone _ ht))

theorem leads_stillThere (v : Serial) (c : Nat) {i s : State} (h : i.LeadsTo s) : i.LeadsTo (s.stillThere v c) := by
  unfold State.stillThere
  dsimp only
  repeat' first
    | with_reducible assumption
    | with_reducible apply leads_returnPrompt
    | with_reducible apply leads_queueEntryIn
    | split

theorem leads_andThen {f : State → State} {i s : State} (h : i.LeadsTo (f s.settle)) : i.LeadsTo (s.andThen f) := h

theorem State.load_congr {s t : State} (h : t.inv = s.inv) : t.load = s.load := by
  unfold State.load State.shelfArrivals
  rw [h]

theorem State.showPrompt_inv (k : PromptKey) (s : State) : (s.showPrompt k).inv = s.inv := by
  cases hp : s.findPrompt k with
  | none => simp only [State.showPrompt, hp]
  | some p =>
    by_cases hstate : p.state = .settling
    · rw [(State.showPrompt_frame hp hstate).1]
      rfl
    · rw [State.showPrompt_shown hp hstate]

theorem State.defer_inv (c : DeferredCause) (s : State) : (s.defer c).inv = s.inv := by
  unfold State.defer
  repeat' split
  all_goals rfl

theorem State.evict_inv (p : Prompt) (s : State) : (s.evict p).inv = s.inv := by
  unfold State.evict
  dsimp only
  split
  · rw [State.leavePrompt_frame]
    rfl
  · rw [State.defer_inv, State.leavePrompt_frame]
    rfl

/-- A prompt that no request waits for touches no reel, cell or arrival. -/
theorem State.raise_inv {c : Cause} (hreq : c.req = none) (s : State) : (s.raise c).inv = s.inv := by
  have hmake : ∀ t : State, (t.makePrompt c).inv = t.inv := fun t => by
    simp only [State.makePrompt, hreq]
    split
    · rw [State.showPrompt_inv]
      rfl
    · rfl
  have hwaits : ∀ t : State, (t.causeWaits c).inv = t.inv := fun t => by
    simp only [State.causeWaits, hreq]
    exact State.defer_inv _ t
  unfold State.raise
  split
  · rfl
  split
  · simp only [State.mergePrompt, hreq]
  split
  · exact hmake s
  split
  · split
    · exact hwaits s
    · rw [hmake, State.evict_inv]
  · exact hwaits s

theorem State.queueMove_inv (kind : MoveKind) (r : Option ReqNo) (v : Serial) (src dst : Loc) (s : State) :
    (s.queueMove kind r v src dst none).inv = s.inv := by
  unfold State.queueMove
  cases dst <;> exact State.push_inv _ _

theorem State.load_queueEntryIn (v : Serial) (s : State) : (s.queueEntryIn v).load = s.load := by
  unfold State.queueEntryIn
  dsimp only
  repeat' split
  all_goals first
    | rfl
    | rw [State.load_congr (State.queueMove_inv ..)]; rfl

/-- What is read where another reel was awaited from the shelf leaves room for that reel in another cell (R3, R13). -/
theorem State.load_unexpected_lt {v w : Serial} {c : Nat} {s : State} (hcell : s.cellAt c = .expecting w .shelf) (hs : s.Bounded) :
    (s.unexpected v c s.tableRoom).load < 600 := by
  have hput : (s.putCell c (.occupied (some v))).load < s.load := State.load_putCell_lt rfl hcell
  have hreels : s.load ≤ 600 := hs.reels
  have hraise : ∀ d, ((s.putCell c (.occupied (some v))).raise { cls := .entryFull, subject := .volume v, detail := d, req := none }).load <
      600 := fun d => by
    rw [State.load_congr (State.raise_inv rfl _)]
    exact hput.trans_le hreels
  unfold State.unexpected
  dsimp only
  split
  · split
    next n _ =>
      split
      next hroom =>
        have hlt := (tableRoom_pos_iff s).mp hroom
        have hadded : ((s.putCell c (.occupied (some v))).addEntry (foundEntry v n (.atEntry c))).load =
            (s.putCell c (.occupied (some v))).load + 1 := by
          unfold State.load
          show (s.inv.entries ++ [_]).length + _ + _ = _
          rw [List.length_append, List.length_singleton]
          have hshelf : ((s.putCell c (.occupied (some v))).addEntry (foundEntry v n (.atEntry c))).shelfArrivals =
              (s.putCell c (.occupied (some v))).shelfArrivals := rfl
          show s.inv.entries.length + 1 + s.inv.hatchArrivals.length + _ = s.inv.entries.length + s.inv.hatchArrivals.length + _ + 1
          omega
        rw [State.enterReel, State.load_queueEntryIn, hadded]
        omega
      · exact hraise _
    · exact hraise _
  · split
    · rw [State.load_queueEntryIn]
      have hupd : ((s.putCell c (.occupied (some v))).updEntry v fun e => { e with state := .atEntry c }).load =
          (s.putCell c (.occupied (some v))).load := by
        unfold State.load
        show (s.inv.entries.map _).length + _ + _ = _
        rw [List.length_map]
        rfl
      omega
    · rw [State.misplaced, State.raisePlain, State.load_congr (State.raise_inv rfl _)]
      exact hput.trans_le hreels

theorem leads_labelApply (c : Nat) (content : CellContent) {i s : State} (h : i.LeadsTo s) : i.LeadsTo (s.labelApply c content) := by
  have hput : i.LeadsTo (s.putCell c (.occupied none)) := leads_putCell h _ rfl
  unfold State.labelApply
  split
  · exact h
  · exact hput
  · exact leads_unexpected _ _ _ h le_rfl
  · exact leads_emptyCell _ h
  · exact h
  · exact leads_unexpected _ _ _ h le_rfl
  · exact leads_cellFoundEmpty _ _ h
  · exact leads_cellFoundOther _ _ hput
  · split
    · exact leads_stillThere _ _ h
    · exact leads_andThen (leads_unexpected _ _ _ (leads_settle (leads_cellFoundOther _ _ hput)) le_rfl)
  · exact h
  next w p hcell =>
    refine leads_expectationDisplaced _ _ _ hput fun hp hi => ?_
    subst hp
    exact (State.load_putCell_lt rfl hcell).trans_le (h.bounded hi).reels
  next w p v hcell =>
    split
    next hv =>
      subst hv
      split
      next hshelf => exact leads_shelfReported _ _ h hcell
      · exact leads_reelBack _ _ h
      · exact leads_reelBack _ _ h
      · exact leads_putCell h _ rfl
    · refine leads_expectationDisplaced _ _ _ (leads_unexpected _ _ _ h le_rfl) fun hp hi => ?_
      subst hp
      exact State.load_unexpected_lt hcell (h.bounded hi)

theorem leads_foundHome (v : Serial) {i s : State} (h : i.LeadsTo s) : i.LeadsTo (s.foundHome v) := by
  unfold State.foundHome
  repeat' first
    | with_reducible assumption
    | with_reducible apply leads_push
    | with_reducible refine leads_updEntry ?_ _ fun _ => ⟨rfl, rfl⟩

theorem leads_slotApply (n : Nat) (content : SlotContent) {i s : State} (h : i.LeadsTo s) : i.LeadsTo (s.slotApply n content) := by
  unfold State.slotApply
  split
  · exact h
  next y hfree =>
    split
    · exact leads_misplaced _ h
    next hnone =>
      split
      next hroom =>
        have hslot : s.slotNamed n = false := by simpa [State.slotEntry, State.slotNamed] using hfree
        exact leads_push (leads_addEntry (e := foundEntry y n .home) h (fun _ => (tableRoom_pos_iff s).mp hroom) (fun _ => hnone)
          fun _ m hm => Option.some.inj hm ▸ hslot) _
      · exact leads_misplaced _ h
  · split
    · exact leads_reelMissing _ h
    · exact h
  · split
    · split
      · exact h
      · exact leads_andThen (leads_misplaced _ (leads_settle (leads_reelMissing _ h)))
    · split
      · exact leads_foundHome _ h
      · exact leads_misplaced _ h
    · exact leads_misplaced _ h

theorem leads_driveLostPutAway (d : Nat) {i s : State} (h : i.LeadsTo s) : i.LeadsTo (s.driveLostPutAway d) := by
  unfold State.driveLostPutAway
  repeat' first
    | with_reducible assumption
    | with_reducible refine leads_modArm ?_ le_rfl
    | with_reducible apply leads_putAwayMove
    | split

theorem leads_otherDrive (r : ReqNo) (q : Request) {i s : State} (h : i.LeadsTo s) : i.LeadsTo (s.otherDrive r q) := by
  unfold State.otherDrive
  repeat' first
    | with_reducible assumption
    | with_reducible apply leads_reserveDrive
    | with_reducible apply leads_failRequest
    | split

theorem leads_driveTaken (r : ReqNo) {i s : State} (h : i.LeadsTo s) : i.LeadsTo (s.driveTaken r) := by
  unfold State.driveTaken
  dsimp only
  repeat' first
    | with_reducible assumption
    | with_reducible refine leads_updReq ?_ _ fun _ => ⟨rfl, id⟩
    | with_reducible apply leads_dropAsker
    | with_reducible apply leads_removeMoves
    | with_reducible apply leads_backToStandby
    | with_reducible apply leads_otherDrive
    | split

theorem leads_driveOffline (d : Nat) (x : Drive) {i s : State} (h : i.LeadsTo s) : i.LeadsTo (s.driveOffline d x) := by
  unfold State.driveOffline
  dsimp only
  repeat' first
    | with_reducible assumption
    | with_reducible apply leads_closeSession
    | with_reducible apply leads_closeCleaning
    | with_reducible apply leads_withdrawPrompt
    | with_reducible apply leads_driveOff
    | with_reducible apply leads_removeMoves
    | with_reducible apply leads_failRequest
    | with_reducible apply leads_driveLostPutAway
    | with_reducible apply leads_driveTaken
    | split

theorem leads_enterRequest (q : Request) {i s : State} (h : i.LeadsTo s)
    (hmode : s.sys.mode ≠ .init) (hroom : s.rm.queue.length < 32) (hfresh : ∀ p ∈ s.rm.queue, p.req ≠ q.req)
    (horigin : q.req.origin = s.sys.startup.stationNumber) : i.LeadsTo (s.enterRequest q) := by
  exact leads_reqReport _ _ (leads_addReq (leads_modRm (g := id) h (List.map_id _).symm fun _ => ⟨rfl, id⟩) (fun _ => hmode) (fun _ => hroom)
    (fun _ => hfresh) fun _ _ => horigin)

theorem leads_firstLook (r : ReqNo) {i s : State} (h : i.LeadsTo s) : i.LeadsTo (s.firstLook r) := by
  unfold State.firstLook
  repeat' first
    | with_reducible assumption
    | with_reducible apply leads_push
    | with_reducible apply leads_lookup
    | split

theorem leads_begin {i s : State} (h : i.LeadsTo s) : i.LeadsTo s.begin := by
  refine ⟨fun hi => { h.bounded hi with quiet := nofun }, h.press⟩

theorem leads_queueLeaving {i s : State} (h : i.LeadsTo s) : i.LeadsTo s.queueLeaving := by
  unfold State.queueLeaving
  dsimp only
  split
  · exact leads_completeRestart (leads_withdraw _ h)
  next hroom => exact leads_txq (leads_withdraw _ h) fun _ => Nat.lt_of_not_le hroom

theorem bounded_beginPress (b : Button) {s : State} (h : s.Bounded) : (s.beginPress b).Bounded := by
  unfold State.beginPress
  split <;> exact bounded_modPanel h rfl

theorem leads_releaseAck (ms : Nat) (act : Bool → Prompt → State → State) {i s : State} (h : i.LeadsTo s)
    (hact : ∀ l p t, i.LeadsTo t → i.LeadsTo (act l p t)) :
    i.LeadsTo (s.releaseAck ms act) := by
  unfold State.releaseAck
  split
  · exact h
  next p _ =>
    have hreleased : i.LeadsTo ((s.reach (p.since + ms)).modPanel fun u => { u with ackPress := none }) :=
      leads_modPanel (leads_reach _ h) rfl fun _ => rfl
    dsimp only
    split
    · exact hreleased
    · exact leads_settle (hact _ _ _ hreleased)

theorem leads_releaseNext (ms : Nat) (act : Bool → PromptKey → State → State) {i s : State} (h : i.LeadsTo s)
    (hact : ∀ l p t, i.LeadsTo t → i.LeadsTo (act l p t)) :
    i.LeadsTo (s.releaseNext ms act) := by
  unfold State.releaseNext
  split
  · exact h
  next p _ =>
    have hreleased : i.LeadsTo ((s.reach (p.since + ms)).modPanel fun u => { u with nextPress := none }) :=
      leads_modPanel (leads_reach _ h) rfl id
    dsimp only
    split
    · exact hreleased
    · exact hact _ _ _ hreleased

theorem leads_toAcked (k : PromptKey) (wait : Bool) {i s : State} (h : i.LeadsTo s) : i.LeadsTo (s.toAcked k wait) := by
  unfold State.toAcked
  repeat' first
    | with_reducible assumption
    | with_reducible refine leads_updPrompt ?_ _ fun _ => rfl
    | with_reducible apply leads_relamp

theorem leads_ackShelf (p : Prompt) (v : Serial) {i s : State} (h : i.LeadsTo s) : i.LeadsTo (s.ackShelf p v) := by
  unfold State.ackShelf
  split
  · exact h
  next hroom =>
    split
    · exact leads_toAcked _ _ (leads_putCell_room h _ _ fun _ => (tableRoom_pos_iff s).mp (Nat.pos_of_ne_zero hroom))
    · exact leads_raise _ (leads_toAcked _ _ h)

theorem leads_ackRing (p : Prompt) (v : Serial) {i s : State} (h : i.LeadsTo s) : i.LeadsTo (s.ackRing p v) := by
  unfold State.ackRing
  repeat' first
    | with_reducible assumption
    | with_reducible refine leads_updReq ?_ _ fun _ => ⟨rfl, id⟩
    | with_reducible apply leads_serveRingIn
    | with_reducible apply leads_toAcked
    | with_reducible apply leads_forEach
    | intro _
    | split

theorem leads_ackRetire (p : Prompt) (v : Serial) {i s : State} (h : i.LeadsTo s) : i.LeadsTo (s.ackRetire p v) := by
  unfold State.ackRetire
  dsimp only
  repeat' first
    | with_reducible assumption
    | with_reducible apply leads_leavePrompt
    | with_reducible apply leads_retireOut
    | split

theorem leads_ackConflict (p : Prompt) {i s : State} (h : i.LeadsTo s) : i.LeadsTo (s.ackConflict p) := by
  unfold State.ackConflict
  dsimp only
  repeat' first
    | with_reducible assumption
    | with_reducible apply leads_updRec
    | with_reducible apply leads_leavePrompt
    | with_reducible apply leads_endConflict
    | split

theorem leads_ackCradle (p : Prompt) (side : Side) {i s : State} (h : i.LeadsTo s) : i.LeadsTo (s.ackCradle p side) := by
  unfold State.ackCradle
  dsimp only
  repeat' first
    | with_reducible assumption
    | with_reducible apply leads_push
    | with_reducible apply leads_delEntry
    | with_reducible apply leads_updRec
    | with_reducible apply leads_leavePrompt
    | with_reducible apply leads_dropAsk
    | with_reducible apply leads_forEach
    | intro _
    | split

theorem leads_ackClass (p : Prompt) {i s : State} (h : i.LeadsTo s) : i.LeadsTo (s.ackClass p) := by
  unfold State.ackClass
  repeat' first
    | with_reducible assumption
    | with_reducible apply leads_push
    | with_reducible refine leads_updDrive ?_ _ fun _ => rfl
    | with_reducible apply leads_leavePrompt
    | with_reducible apply leads_toAcked
    | with_reducible apply leads_ackShelf
    | with_reducible apply leads_ackRing
    | with_reducible apply leads_ackRetire
    | with_reducible apply leads_ackConflict
    | with_reducible apply leads_ackCradle
    | split

theorem leads_countAck (p : Prompt) {i s : State} (h : i.LeadsTo s) : i.LeadsTo (s.countAck p) := by
  unfold State.countAck
  repeat' first
    | with_reducible assumption
    | with_reducible refine leads_updReq ?_ _ fun _ => ⟨rfl, id⟩
    | with_reducible refine leads_updPrompt ?_ _ fun _ => rfl
    | with_reducible apply leads_forEach
    | intro _

theorem leads_ackPrompt (p : Prompt) {i s : State} (h : i.LeadsTo s) : i.LeadsTo (s.ackPrompt p) := by
  unfold State.ackPrompt
  repeat' first
    | with_reducible assumption
    | with_reducible apply leads_reportPrompt
    | with_reducible apply leads_ackClass
    | with_reducible apply leads_countAck
    | split

theorem leads_declineClass (p : Prompt) {i s : State} (h : i.LeadsTo s) : i.LeadsTo (s.declineClass p) := by
  unfold State.declineClass
  dsimp only
  repeat' first
    | with_reducible assumption
    | with_reducible refine leads_updEntry ?_ _ fun _ => ⟨rfl, rfl⟩
    | with_reducible apply leads_reportPrompt
    | with_reducible apply leads_leavePrompt
    | with_reducible apply leads_queueEntryIn
    | with_reducible apply leads_askEntryIn
    | with_reducible apply leads_declineLinks
    | with_reducible apply leads_ackClass
    | with_reducible apply leads_countAck
    | split

theorem leads_declinePrompt (p : Prompt) {i s : State} (h : i.LeadsTo s) : i.LeadsTo (s.declinePrompt p) := by
  unfold State.declinePrompt
  repeat' first
    | with_reducible assumption
    | with_reducible apply leads_declineClass
    | split

theorem leads_actAck (isLong : Bool) (p : Prompt) {i s : State} (h : i.LeadsTo s) : i.LeadsTo (s.actAck isLong p) := by
  unfold State.actAck
  repeat' first
    | with_reducible assumption
    | with_reducible apply leads_ackPrompt
    | with_reducible apply leads_declinePrompt
    | split

theorem leads_setCursor (k : Option PromptKey) {i s : State} (h : i.LeadsTo s) : i.LeadsTo (s.setCursor k) := by
  unfold State.setCursor
  repeat' first
    | with_reducible assumption
    | with_reducible refine leads_modPanel ?_ rfl id

theorem leads_actNext (isLong : Bool) (k : PromptKey) {i s : State} (h : i.LeadsTo s) : i.LeadsTo (s.actNext isLong k) := by
  unfold State.actNext
  repeat' first
    | with_reducible assumption
    | with_reducible apply leads_setCursor

theorem leads_openDoor {i s : State} (h : i.LeadsTo s) : i.LeadsTo s.openDoor := by
  unfold State.openDoor
  repeat' first
    | with_reducible assumption
    | with_reducible refine leads_modInv ?_ rfl rfl rfl
    | with_reducible refine leads_modPanel ?_ rfl id
    | with_reducible apply leads_report
    | with_reducible apply leads_freezeOrder

theorem leads_doorLongGone {i s : State} (h : i.LeadsTo s) : i.LeadsTo s.doorLongGone := by
  unfold State.doorLongGone
  dsimp only
  repeat' first
    | with_reducible assumption
    | with_reducible refine leads_modPanel ?_ rfl id
    | with_reducible apply leads_leavePrompt
    | with_reducible apply leads_withdrawPrompt
    | split

theorem leads_closeDoor {i s : State} (h : i.LeadsTo s) : i.LeadsTo s.closeDoor := by
  unfold State.closeDoor
  dsimp only
  repeat' first
    | with_reducible assumption
    | with_reducible refine leads_modInv ?_ rfl rfl rfl
    | with_reducible refine leads_modPanel ?_ rfl id
    | with_reducible apply leads_push
    | with_reducible apply leads_report
    | with_reducible apply leads_thawOrder
    | with_reducible apply leads_doorLongGone

theorem leads_goAlone {i s : State} (h : i.LeadsTo s) : i.LeadsTo s.goAlone := by
  unfold State.goAlone
  repeat' first
    | with_reducible assumption
    | with_reducible refine leads_modSys_running ?_ (fun e => Mode.noConfusion e) rfl
    | with_reducible refine leads_modSys ?_ rfl rfl
    | with_reducible refine leads_modPort ?_ le_rfl
    | with_reducible apply leads_yieldAlone
    | with_reducible apply leads_quietHolds
    | with_reducible apply leads_withCondition

theorem leads_countTick {i s : State} (h : i.LeadsTo s) : i.LeadsTo s.countTick := by
  unfold State.countTick
  dsimp only
  refine leads_modDrv (leads_modAcct h ?_) ?_
  · exact le_rfl
  rw [List.map_map]
  exact List.map_congr_left fun _ _ => rfl

theorem leads_tick {i s : State} (h : i.LeadsTo s) : i.LeadsTo s.tick := by
  unfold State.tick
  dsimp only
  repeat' first
    | with_reducible assumption
    | with_reducible refine leads_modAcct ?_ le_rfl
    | with_reducible apply leads_countTick
    | split

theorem leads_stale {i s : State} (h : i.LeadsTo s) : i.LeadsTo s.stale := by
  unfold State.stale
  repeat' first
    | with_reducible assumption
    | with_reducible refine leads_modAcct ?_ le_rfl
    | with_reducible apply leads_report
    | split

theorem leads_endCleaning (d : Nat) (x : Drive) {i s : State} (h : i.LeadsTo s) : i.LeadsTo (s.endCleaning d x) := by
  unfold State.endCleaning
  repeat' first
    | with_reducible assumption
    | with_reducible refine leads_updDrive ?_ _ fun _ => rfl
    | with_reducible apply leads_countPass
    | with_reducible apply leads_closeCleaning
    | with_reducible apply leads_driveToIdle

theorem leads_becomeLate (q : Request) {i s : State} (h : i.LeadsTo s) : i.LeadsTo (s.becomeLate q) := by
  unfold State.becomeLate
  dsimp only
  repeat' first
    | with_reducible assumption
    | with_reducible refine leads_updReq ?_ _ fun _ => ⟨rfl, id⟩
    | with_reducible apply leads_escalate
    | with_reducible apply leads_reqReport
    | split

theorem leads_hopLapse (q : Request) {i s : State} (h : i.LeadsTo s)
    (hown : q.role ≠ .takenIn → i.Bounded → q.req.origin = s.sys.startup.stationNumber) : i.LeadsTo (s.hopLapse q) := by
  unfold State.hopLapse
  dsimp only
  have hdropped : i.LeadsTo ((((s.endReservations q.req).releaseDrivesOf q.req).dropArrival q.req).dropAsker (.request q.req)) :=
    leads_dropAsker _ (leads_dropArrival (leads_releaseDrivesOf _ (leads_endReservations h _)) _)
  have hsys : ((((s.endReservations q.req).releaseDrivesOf q.req).dropArrival q.req).dropAsker (.request q.req)).sys = s.sys := by
    rw [State.sys_of_kept (State.kept_dropAsker ..), State.sys_of_kept (State.kept_dropArrival ..),
      State.sys_of_kept (State.kept_releaseDrivesOf ..), State.sys_of_kept (State.kept_endReservations ..)]
  split
  · exact leads_delReq hdropped _
  next hrole => exact leads_updReq_own hdropped _ (fun _ => rfl) fun hi => hsys ▸ hown hrole hi

theorem leads_forward (q : Request) {i s : State} (h : i.LeadsTo s) : i.LeadsTo (s.forward q) := by
  unfold State.forward
  dsimp only
  repeat' first
    | with_reducible assumption
    | with_reducible refine leads_updReq ?_ _ fun _ => ⟨rfl, id⟩
    | with_reducible apply leads_send
    | with_reducible apply leads_sendRelease
    | split

theorem leads_slow (o : Order) {i s : State} (h : i.LeadsTo s) : i.LeadsTo (s.slow o) := by
  unfold State.slow
  repeat' first
    | with_reducible assumption
    | with_reducible refine leads_modArm ?_ le_rfl
    | with_reducible apply leads_report
    | split

theorem leads_timeOut (o : Order) {i s : State} (h : i.LeadsTo s) : i.LeadsTo (s.timeOut o) := by
  unfold State.timeOut
  dsimp only
  repeat' first
    | with_reducible assumption
    | with_reducible apply leads_examineAlone
    | with_reducible apply leads_answered
    | with_reducible apply leads_orderFails
    | with_reducible apply leads_slow
    | split

/-! ## The tables, every command -/

theorem Answered.LeadsFrom.bounded {s : State} {a : Answered} (h : a.LeadsFrom s) : a.Leaves fun t => s.Bounded → t.Bounded := by
  cases a with
  | error c => trivial
  | stale t => exact State.LeadsTo.bounded h
  | ok b => exact State.LeadsTo.bounded h

/-- A drive more: the addresses stay distinct and at most 7, so the drives at most 8 (R20, R21). -/
theorem insertDrive_perm (y : Drive) (l : List Drive) : (insertDrive y l).Perm (y :: l) := by
  induction l with
  | nil => exact .refl _
  | cons z l ih =>
    unfold insertDrive
    split
    · exact .refl _
    · exact (ih.cons z).trans (.swap y z l)

theorem length_le_of_addresses {l : List Drive} (hnodup : (l.map Drive.address).Nodup) (hrange : ∀ d ∈ l, d.address ≤ 7) : l.length ≤ 8 := by
  have hsub : l.map Drive.address ⊆ List.range 8 := fun a ha => by
    obtain ⟨d, hd, rfl⟩ := List.mem_map.mp ha
    exact List.mem_range.mpr (Nat.lt_succ_of_le (hrange d hd))
  simpa using (List.subperm_of_subset hnodup hsub).length_le

theorem bounded_addDrive {y : Drive} {s : State} (hrange : y.address ≤ 7) (hfresh : ∀ d ∈ s.drv.drives, d.address ≠ y.address)
    (h : s.Bounded) : (s.addDrive y).Bounded := by
  have hperm := insertDrive_perm y s.drv.drives
  obtain ⟨hnodup, hold⟩ := h.addresses
  have haddresses : ((insertDrive y s.drv.drives).map Drive.address).Nodup := by
    refine (hperm.map Drive.address).nodup_iff.mpr (List.nodup_cons.mpr ⟨fun hmem => ?_, hnodup⟩)
    obtain ⟨d, hd, heq⟩ := List.mem_map.mp hmem
    exact hfresh d hd heq
  have hall : ∀ d ∈ insertDrive y s.drv.drives, d.address ≤ 7 := fun d hd => by
    rcases List.mem_cons.mp (hperm.mem_iff.mp hd) with rfl | hd
    · exact hrange
    · exact hold d hd
  exact { h with drives := length_le_of_addresses haddresses hall, addresses := ⟨haddresses, hall⟩ }

theorem leaves_bounded_loadDrive (a c : Nat) (p : Option DrivePos) (s : State) :
    (s.loadDrive a c p).Leaves fun t => s.Bounded → t.Bounded := by
  cases p with
  | none => trivial
  | some p =>
    by_cases hbad : s.LoadDriveBad a c p
    · rw [State.loadDrive_bad hbad]
      trivial
    · rw [State.loadDrive_ok hbad]
      have hrange : ¬7 < a := fun h => hbad (.inl h)
      have hfresh : ¬∃ y ∈ s.drv.drives, y.address = a := fun h => hbad (.inr (.inl h))
      exact bounded_addDrive (y := newDrive a c p) (Nat.le_of_not_lt hrange) fun d hd heq => hfresh ⟨d, hd, heq⟩

theorem leaves_bounded_loadReel (a : LoadReelArgs) (s : State) : (s.loadReel a).Leaves fun t => s.Bounded → t.Bounded := by
  unfold State.loadReel
  split
  · split
    · trivial
    next hgood =>
      split
      · trivial
      next hroom =>
        have hload : s.load < 600 := (tableRoom_pos_iff s).mp (Nat.pos_of_ne_zero hroom)
        have hvolume : s.findEntry a.volume = none := by
          cases hfound : s.findEntry a.volume with
          | none => rfl
          | some e => exact absurd (.inr (.inl (by rw [hfound]; rfl))) hgood
        have hslot : s.slotNamed a.slot = false := by
          cases hnamed : s.slotNamed a.slot with
          | false => rfl
          | true => exact absurd (.inr (.inr (.inr (.inl hnamed)))) hgood
        exact fun h => bounded_addEntry h hload hvolume fun n hn => Option.some.inj hn ▸ hslot
  · trivial

/-- The search of R42 finds a number that no record of the queue has. -/
theorem State.newSeq_fresh {s : State} (hlen : s.rm.queue.length < 255) :
    ∀ p ∈ s.rm.queue, p.req ≠ { origin := s.self, seq := s.newSeq } := by
  obtain ⟨k, -, heq, hunused, -⟩ := freshSeq_firstFree (State.exists_freeSeq hlen)
  rw [State.newSeq_eq, heq]
  rw [State.seqUsed, List.any_eq_false] at hunused
  exact fun p hp hreq => hunused p hp (decide_eq_true hreq)

theorem leaves_bounded_mount (a : MountArgs) (s : State) : (s.mount a).Leaves fun t => s.Bounded → t.Bounded := by
  unfold State.mount
  split
  · trivial
  next hmode =>
    split
    · split
      · trivial
      split
      · trivial
      next hroom =>
        have hlen : s.rm.queue.length < 32 := Nat.lt_of_not_le hroom
        refine fun h => (leads_firstLook _ (leads_enterRequest _ (.refl s) hmode hlen ?_ rfl)).bounded h
        exact State.newSeq_fresh (hlen.trans (by decide))
    · trivial

theorem leaves_bounded_endAudit (s : State) : s.endAudit.Leaves fun t => s.Bounded → t.Bounded := by
  unfold State.endAudit
  split
  · trivial
  · have hbay : s.LeadsTo (s.modInv fun v => { v with bay := .normal }) := leads_modInv (.refl s) rfl rfl rfl
    exact (leads_push (leads_push (leads_push (leads_withCondition hbay) _) _) _).bounded

theorem leaves_bounded_start (s : State) : s.start.Leaves fun t => s.Bounded → t.Bounded := by
  unfold State.start
  split
  · trivial
  · exact (leads_ite (leads_raisePlain _ _ (leads_begin (.refl s))) (leads_begin (.refl s))).bounded

theorem leaves_bounded_resume (x : Xfer) (s : State) : (s.resume x).Leaves fun t => s.Bounded → t.Bounded := by
  unfold State.resume
  split
  · trivial
  · have hactive : s.LeadsTo (s.withCondition fun t => (t.modSys fun y => { y with mode := .active }).modPort fun p =>
        { p with lastHeartbeat := some x.heartbeat, silenceEnd := some t.silenceFull }) :=
      leads_withCondition (leads_modPort (leads_modSys_running (.refl s) (fun e => Mode.noConfusion e) rfl) le_rfl)
    exact (leads_push (leads_push (leads_push hactive _) _) _).bounded

theorem leaves_bounded_restart (s : State) : s.restart.Leaves fun t => s.Bounded → t.Bounded := by
  have hstopped : s.LeadsTo s.timersStopped := leads_modSys (leads_modLine (leads_modPort (.refl s) le_rfl) le_rfl) rfl rfl
  unfold State.restart
  split
  · trivial
  split
  · exact id
  · dsimp only
    split
    · exact (leads_completeRestart hstopped).bounded
    · exact (leads_queueLeaving (leads_modSys hstopped rfl rfl)).bounded

theorem leaves_bounded_takeSession (s : State) : s.takeSession.Leaves fun t => s.Bounded → t.Bounded := by
  unfold State.takeSession
  split
  · exact id
  next hclosed =>
    exact (leads_modAcct (.refl s) (by rw [hclosed]; exact Nat.le_succ _)).bounded

theorem leaves_bounded_clearAccount (n : Nat) (s : State) : (s.clearAccount n).Leaves fun t => s.Bounded → t.Bounded := by
  unfold State.clearAccount
  split
  · trivial
  · exact fun h => { h with }

theorem leaves_bounded_readLine (p : Option Nat) (s : State) : (s.readLine p).Leaves fun t => s.Bounded → t.Bounded := by
  unfold State.readLine
  split
  · exact (leads_modLine (.refl s) le_rfl).bounded
  split
  · trivial
  · exact id

theorem leaves_bounded_takeReport (s : State) : s.takeReport.Leaves fun t => s.Bounded → t.Bounded := by
  unfold State.takeReport
  split
  · exact id
  next hreports => exact (leads_modPort (.refl s) (by rw [hreports]; exact Nat.le_succ _)).bounded

/-- SET STARTUP may change the station number: in INIT the Mount Queue is empty (R45, R199). -/
theorem setStartup_bounded (field : Nat) (value : Option Nat) (s : State) (hmode : s.sys.mode = .init) :
    (s.setStartup field value).Leaves fun t => s.Bounded → t.Bounded := by
  unfold State.setStartup
  split
  · trivial
  split
  · exact id
  · intro h
    have hnone := h.quiet hmode
    exact { h with origins := fun q hq => absurd (hnone ▸ hq) (List.not_mem_nil) }

theorem bounded_ite {t u : State} {c : Prop} [Decidable c] (ht : t.Bounded) (hu : u.Bounded) : (if c then t else u).Bounded := by
  split
  · exact ht
  · exact hu

theorem bounded_takeFrame (p : Nat) (pres : Bool) {act : State → State} (hact : ∀ t, State.Bounded t → (act t).Bounded) {s : State}
    (h : s.Bounded) : (s.takeFrame p pres act).Bounded := by
  unfold State.takeFrame
  dsimp only
  split
  · split
    · exact h
    · exact (leads_setLine _ (.refl s)).bounded h
  · have hcredited : s.LeadsTo (if pres = true then s else s.credit p) := leads_ite (.refl s) (leads_credit _ (.refl s))
    have hheard := hact _ ((leads_ite (c := decide ((if pres = true then s else s.credit p).line.state = .detached) = true)
      (leads_modLine (f := fun l => { l with goodFrames := l.goodFrames + 1 }) hcredited le_rfl) hcredited).bounded h)
    exact bounded_ite ((leads_recover (.refl _)).bounded hheard) hheard

/-- The role and the number of a record that lapses: its own number, or a record taken in (R40, R41). -/
theorem bounded_hopLapse {r : ReqNo} {q : Request} {s : State} (hq : s.findReq r = some q) (h : s.Bounded) : (s.hopLapse q).Bounded :=
  (leads_hopLapse q (.refl s) fun hrole hi => hi.origins q (State.mem_of_findReq hq) hrole).bounded h

theorem bounded_idle {s : State} (h : s.Bounded) : s.idle.Bounded := by
  unfold State.idle
  split
  · exact h
  · exact { h with }

/-- Every command but the two that write the Start-Up Block keeps the bounds and the distinct names of the tables. -/
theorem stepKeeps_bounded : StepKeeps fun s t => s.Bounded → t.Bounded where
  refl _ := id
  trans h k := k ∘ h
  settle _ := (leads_settle (.refl _)).bounded
  accepted x _ := (leads_accepted x (.refl _)).bounded
  reply x c w _ := (leads_reply x c w (.refl _)).bounded
  frameFault _ := (leads_modPort (.refl _) le_rfl).bounded
  resetRises _ := (leads_modSys (.refl _) rfl rfl).bounded
  loadDrive := leaves_bounded_loadDrive
  loadReel := leaves_bounded_loadReel
  start s _ := leaves_bounded_start s
  mount := leaves_bounded_mount
  dismountRequest r n e _ := (leads_dismountRequest r n e (.refl _)).bounded
  releaseProxy r k _ := (leads_releaseProxy r k (.refl _)).bounded
  cancelRequest r _ := (leads_cancelRequest r (.refl _)).bounded
  takeInFlight _ := (leads_takeInFlight (.refl _)).bounded
  countStale _ := (leads_countStale (.refl _)).bounded
  completeOrder o ring _ := (leads_completeOrder o ring (.refl _)).bounded
  faultOrder o f _ := (leads_faultOrder o f (.refl _)).bounded
  labelApply c k _ := (leads_labelApply c k (.refl _)).bounded
  slotApply n k _ := (leads_slotApply n k (.refl _)).bounded
  endAudit := leaves_bounded_endAudit
  driveOffline d y _ := (leads_driveOffline d y (.refl _)).bounded
  driveToIdle d _ := (leads_driveToIdle d (.refl _)).bounded
  driveToEmpty d _ := (leads_driveToEmpty d (.refl _)).bounded
  push w _ := (leads_push (.refl _) w).bounded
  takeSession := leaves_bounded_takeSession
  clearAccount := leaves_bounded_clearAccount
  readLost _ h := { h with }
  readLine := leaves_bounded_readLine
  clearRetry _ h := { h with }
  takeReport := leaves_bounded_takeReport
  readStatus _ h := { h with }
  resume := leaves_bounded_resume
  restart := leaves_bounded_restart
  reach e _ := (leads_reach e (.refl _)).bounded
  goAlone _ _ := (leads_goAlone (.refl _)).bounded
  listenOver _ := (leads_modSys (.refl _) rfl rfl).bounded
  enterActive _ _ := (leads_enterActive (.refl _)).bounded
  tick _ := (leads_tick (.refl _)).bounded
  stale _ := (leads_stale (.refl _)).bounded
  endCleaning d y _ := (leads_endCleaning d y (.refl _)).bounded
  reservationOver v _ := (leads_updEntry (.refl _) v (f := fun x => { x with reservation := none }) fun _ => ⟨rfl, rfl⟩).bounded
  failRequest r c _ := (leads_failRequest r c (.refl _)).bounded
  becomeLate q _ := (leads_becomeLate q (.refl _)).bounded
  hopLapse _ _ _ hq := bounded_hopLapse hq
  forward q _ := (leads_forward q (.refl _)).bounded
  slow o _ := (leads_slow o (.refl _)).bounded
  timeOut o _ := (leads_timeOut o (.refl _)).bounded
  pauseOver _ := (leads_modArm (.refl _) le_rfl).bounded
  beginPress b _ := bounded_beginPress b
  ackReleased _ := (leads_modPanel (.refl _) rfl fun _ => rfl).bounded
  nextReleased _ := (leads_modPanel (.refl _) rfl id).bounded
  ackPrompt p _ := (leads_ackPrompt p (.refl _)).bounded
  declinePrompt p _ := (leads_declinePrompt p (.refl _)).bounded
  setCursor k _ := (leads_setCursor k (.refl _)).bounded
  openDoor _ := (leads_withCondition (leads_openDoor (.refl _))).bounded
  closeDoor _ := (leads_withCondition (leads_closeDoor (.refl _))).bounded
  doorExpires _ := (leads_modPanel (.refl _) rfl id).bounded
  raisePlain c k _ := (leads_raisePlain c k (.refl _)).bounded
  showPrompt k _ := (leads_showPrompt k (.refl _)).bounded
  escalate k _ := (leads_escalate k (.refl _)).bounded
  beginFrame _ := (leads_beginFrame (.refl _)).bounded
  contentionLost _ := (leads_contentionLost (.refl _)).bounded
  failAttempt k _ := (leads_failAttempt k (.refl _)).bounded
  attemptWitnessed _ := (leads_attemptWitnessed (.refl _)).bounded
  recover _ _ := (leads_recover (.refl _)).bounded
  badFrame _ _ := (leads_badFrame (.refl _)).bounded
  peerGone p _ := (leads_peerGone p (.refl _)).bounded
  askPresence tag _ := (leads_askPresence tag (.refl _)).bounded
  startPresence _ := (leads_startPresence (.refl _)).bounded
  takeFrame p pres _ _ _ hact := bounded_takeFrame p pres hact
  hearPresence b p _ := (leads_hearPresence b p (.refl _)).bounded
  hearSeek b p _ := (leads_hearSeek b p (.refl _)).bounded
  hearHave b p _ := (leads_hearHave b p (.refl _)).bounded
  takePlace b p _ := (leads_takePlace b p (.refl _)).bounded
  hearPlaced r p _ := (leads_hearPlaced r p (.refl _)).bounded
  hearRefused r c p _ := (leads_hearRefused r c p (.refl _)).bounded
  fromServer r p m _ s hact := State.fromServer_keeps m hact (leads_countStray (.refl s)).bounded fun q hq hrole =>
    (leads_becomeProxy r p (.refl s) ((State.LeadsTo.refl s).own hq (by simp [hrole]))).bounded
  applyOutcome q ev _ := (leads_applyOutcome q ev (.refl _)).bounded
  applyState q a _ := (leads_applyState q a (.refl _)).bounded
  hearRelease r k p _ := (leads_hearRelease r k p (.refl _)).bounded
  hearAsk r _ := (leads_hearAsk r (.refl _)).bounded
  hearHold b c _ := (leads_hearHold b c (.refl _)).bounded
  hearYield b c _ := (leads_hearYield b c (.refl _)).bounded
  hearHandoff b p _ := (leads_hearHandoff b p (.refl _)).bounded
  closeWindow r _ := (leads_closeWindow r (.refl _)).bounded
  settleReseek r _ := (leads_settleReseek r (.refl _)).bounded
  countAttempt r f u _ := (leads_countAttempt r f u (.refl _)).bounded
  followUp q _ := (leads_followUp q (.refl _)).bounded
  hopRefused r p _ := (leads_hopRefused r p (.refl _)).bounded

theorem bounded_reset : State.reset.Bounded := by
  constructor <;> decide

/-- Settles O58: the tables of fixed size by the sizes that every command keeps, the others one change of a table at a time. -/
theorem everyStepKeepsTheTables : Obligations.EveryStepKeepsTheTables := by
  refine ⟨fun s t => step_fixedTables, fun s t h hstep => ?_⟩
  exact step_keeps (fun c s t hc hnext => stepKeeps_bounded.of_exec hc hnext) stepKeeps_bounded.toPortKeeps
    (fun _ => bounded_withPending (bounded_modSys bounded_reset rfl rfl) _) setStartup_bounded
    (fun _ _ h => { h with }) (fun _ => bounded_idle) h hstep

end Sys2Proof.Machine

/-! SUPPORT. The buttons (R146 to R152). -/

namespace Sys2Proof.Machine

open Sys2Proof.Certificates

/-! ## The buttons (R146 to R152) -/

/-- The release of a press, as its row names it. -/
def ackRow (long : Bool) : Instr := if long then .ackLong else .ackShort

def nextRow (long : Bool) : Instr := if long then .nextLong else .nextShort

/-- The time from the edge that the row stands for (R151). -/
def pressTime (long : Bool) (s : State) : Nat := if long then s.sys.startup.longPress else 30

section

variable {s : State}

theorem exec_buttonPress (b : Button) (h : s.sys.resetHeld = false) : exec (.buttonPress b) s = .next (s.beginPress b) :=
  congrArg _ (if_neg (by simp [h]))

theorem exec_ackRow (long : Bool) (h : s.sys.resetHeld = false) :
    exec (ackRow long) s = .next (s.releaseAck (pressTime long s) fun l => State.actAck (long || l)) := by
  cases long <;> exact congrArg _ (if_neg (by simp [h]))

theorem exec_nextRow (long : Bool) (h : s.sys.resetHeld = false) :
    exec (nextRow long) s = .next (s.releaseNext (pressTime long s) fun l => State.actNext (long || l)) := by
  cases long <;> exact congrArg _ (if_neg (by simp [h]))

theorem State.releaseAck_none (h : s.panel.ackPress = none) (ms : Nat) (act : Bool → Prompt → State → State) : s.releaseAck ms act = s := by
  simp only [State.releaseAck, h]

theorem State.releaseNext_none (h : s.panel.nextPress = none) (ms : Nat) (act : Bool → PromptKey → State → State) :
    s.releaseNext ms act = s := by
  simp only [State.releaseNext, h]

/-- The steps counted judge the press (R151). -/
theorem State.longPress_eq (since : Nat) {s u : State} (h : u.sys.startup = s.sys.startup) :
    u.longPress since = judgedLong since u.sys.clock s := by
  simp only [State.longPress, State.pressSteps, judgedLong, satAdd, Nat.zero_add, State.cfg, h, Config.max16]

/-- The station at a release of ACK, `ms` after its edge at least. -/
def State.ackReleased (at_ : Nat) (s : State) : State := { clockAt at_ s with panel := { s.panel with ackPress := none } }

def State.nextReleased (at_ : Nat) (s : State) : State := { clockAt at_ s with panel := { s.panel with nextPress := none } }

theorem State.releaseAck_gone {since ms : Nat} {target : Option PromptKey} (h : s.panel.ackPress = some { since := since, target := target })
    (hgone : ∀ k, target = some k → s.findPrompt k = none) (act : Bool → Prompt → State → State) :
    s.releaseAck ms act = s.ackReleased (since + ms) := by
  have hnone : (target.bind fun k => (s.ackReleased (since + ms)).findPrompt k) = none := by
    cases target with
    | none => rfl
    | some k => exact hgone k rfl
  simp only [State.releaseAck, h]
  split
  · rfl
  next hq => exact absurd (hnone.symm.trans hq) nofun

theorem State.releaseAck_stands {since ms : Nat} {k : PromptKey} {p : Prompt}
    (h : s.panel.ackPress = some { since := since, target := some k }) (hp : s.findPrompt k = some p)
    (act : Bool → Prompt → State → State) :
    s.releaseAck ms act = (act (judgedLong since (s.ackReleased (since + ms)).sys.clock s) p (s.ackReleased (since + ms))).settle := by
  have hfound : ((some k).bind fun k => (s.ackReleased (since + ms)).findPrompt k) = some p := hp
  rw [← State.longPress_eq (s := s) (u := s.ackReleased (since + ms)) since rfl]
  simp only [State.releaseAck, h]
  split
  next hq => exact absurd (hfound.symm.trans hq) nofun
  next q hq => rw [Option.some.inj (hq.symm.trans hfound)]; rfl

theorem State.releaseNext_undisplayed {since ms : Nat} {target : Option PromptKey}
    (h : s.panel.nextPress = some { since := since, target := target }) (hcursor : s.panel.cursor = none)
    (act : Bool → PromptKey → State → State) : s.releaseNext ms act = s.nextReleased (since + ms) := by
  simp only [State.releaseNext, h]
  split
  · rfl
  next hk => exact absurd (hcursor.symm.trans hk) nofun

theorem State.releaseNext_displayed {since ms : Nat} {target : Option PromptKey} {k : PromptKey}
    (h : s.panel.nextPress = some { since := since, target := target }) (hcursor : s.panel.cursor = some k)
    (act : Bool → PromptKey → State → State) :
    s.releaseNext ms act = act (judgedLong since (s.nextReleased (since + ms)).sys.clock s) k (s.nextReleased (since + ms)) := by
  rw [← State.longPress_eq (s := s) (u := s.nextReleased (since + ms)) since rfl]
  simp only [State.releaseNext, h]
  split
  next hk => exact absurd (hcursor.symm.trans hk) nofun
  next hk => rw [Option.some.inj (hk.symm.trans hcursor)]; rfl

/-! ## What an ACK or a decline does to its target (R146, R147) -/

theorem State.actAck_settling {isLong : Bool} {p : Prompt} (hp : p.state = .settling) (s : State) : s.actAck isLong p = s := by
  cases isLong with
  | true => exact if_pos hp
  | false => exact if_neg fun h => PromptState.noConfusion (hp.symm.trans h)

theorem State.actAck_cleanDrive {p : Prompt} (hcls : p.cls = .cleanDrive) (hstate : p.state ≠ .settling) (s : State) :
    s.actAck true p = (s.reportPrompt .declined p none).leavePrompt p.key := by
  have hdecline : s.actAck true p = s.declineClass p := if_neg hstate
  rw [hdecline]
  simp only [State.declineClass, hcls]

/-- The prompt as an ACK that only counts leaves it (R146). -/
def Prompt.counted (p : Prompt) : Prompt := { p with acks := min 255 (p.acks + 1), state := .acked, cellWait := false }

theorem State.updPrompt_updPrompt {f g : Prompt → Prompt} (hf : ∀ x, (f x).key = x.key) (k : PromptKey) (s : State) :
    (s.updPrompt k f).updPrompt k g = s.updPrompt k fun x => g (f x) := by
  simp only [State.updPrompt, State.modPanel, List.map_map]
  congr 2
  refine List.map_congr_left fun x _ => ?_
  by_cases h : x.key = k <;> simp [h, hf]

theorem State.updPrompt_report (k : PromptKey) (f : Prompt → Prompt) (b : ReportBody) (s : State) :
    (s.report b).updPrompt k f = (s.updPrompt k f).report b := rfl

/-- A full entry port without links is acknowledged: counted, and ACKED, by a short press and by a long one alike (R147). -/
theorem State.actAck_entryFull {isLong : Bool} {p : Prompt} (hcls : p.cls = .entryFull) (hstate : p.state = .shown) (hlinks : p.links = [])
    (s : State) :
    s.actAck isLong p = ((s.updPrompt p.key Prompt.counted).report (if isLong then .prompt .declined p.cls p.subject [] none
      else .prompt .acked p.cls p.subject [] (some (min 255 (p.acks + 1))))).relamp := by
  have hcounted : s.countAck p = s.updPrompt p.key fun x => { x with acks := satAdd Config.max8 x.acks 1 } := by
    rw [State.countAck, hlinks]
    rfl
  have hacked : ∀ b, (((s.countAck p).report b).toAcked p.key false) = ((s.updPrompt p.key Prompt.counted).report b).relamp := fun b => by
    rw [hcounted, State.toAcked, State.updPrompt_report,
      State.updPrompt_updPrompt (f := fun x => { x with acks := satAdd Config.max8 x.acks 1 }) fun _ => rfl]
    rfl
  cases isLong with
  | false =>
    have hack : s.actAck false p = (((s.countAck p).reportPrompt .acked p (some (satAdd Config.max8 p.acks 1))).ackClass p) := if_pos hstate
    rw [hack]
    simp only [State.ackClass, hcls]
    rw [State.reportPrompt, hacked, hcls, hlinks]
    rfl
  | true =>
    have hdecline : s.actAck true p = s.declineClass p := if_neg fun h => PromptState.noConfusion (hstate.symm.trans h)
    rw [hdecline]
    simp only [State.declineClass, hcls, declineIsAck, hstate, and_self, if_true, State.ackClass]
    rw [State.reportPrompt, hacked, hcls, hlinks]

end

/-- A prompt that leaves the list has its own consequence (R142). -/
theorem State.leavePrompt_agenda {k : PromptKey} {p : Prompt} {s : State} (hp : s.findPrompt k = some p) (h : s.agenda = []) :
    (s.leavePrompt k).agenda = [.promptGone p] := by
  simp only [State.leavePrompt, hp]
  rw [State.relamp_frame, State.push_of_empty (by exact h)]

/-- Settles O45. -/
theorem buttonsActOnTheirTarget : Obligations.ButtonsActOnTheirTarget := by
  intro s hagenda hreset
  refine ⟨exec_buttonPress .ack hreset, exec_buttonPress .next hreset, fun hnone => ?noAck, fun hnone => ?noNext, ?ack, ?next⟩
  case noAck =>
    have h := fun long => (exec_ackRow long hreset).trans (congrArg _ (State.releaseAck_none hnone _ _))
    exact ⟨h false, h true⟩
  case noNext =>
    have h := fun long => (exec_nextRow long hreset).trans (congrArg _ (State.releaseNext_none hnone _ _))
    exact ⟨h false, h true⟩
  case ack =>
    intro since target long hpress c ms u isLong
    have hrow := exec_ackRow long hreset
    have hidle : u.agenda = [] := hagenda
    refine ⟨fun hgone => hrow.trans (congrArg _ (State.releaseAck_gone hpress hgone _)), fun k p htarget hp => ?_⟩
    subst htarget
    have hkey := State.findPrompt_key hp
    have hact : exec c s = .next (u.actAck isLong p).settle := hrow.trans (congrArg _ (State.releaseAck_stands hpress hp _))
    refine ⟨⟨_, hact, ?kept, ?press⟩, fun hcls hshown hlinks => ?entryFull, fun hsettling => ?settling, fun hlong hcls hstate => ?cleanDrive⟩
    case kept => rw [State.kept_settle, State.kept_actAck]
    case press => exact (leads_settle (leads_actAck isLong p (.refl u))).press rfl
    case settling =>
      rw [hact, State.actAck_settling hsettling]
      exact congrArg _ (State.settle_of_agenda hidle)
    case entryFull =>
      subst hkey
      rw [State.actAck_entryFull hcls hshown hlinks, State.relamp_frame, State.settle_of_agenda (by exact hidle)] at hact
      exact ⟨_, hact, rfl, rfl, rfl, rfl, rfl, rfl, rfl, rfl, rfl⟩
    case cleanDrive =>
      subst hkey
      rw [hlong, State.actAck_cleanDrive hcls hstate] at hact
      have hreleased : State.LeadsTo u (u.reportPrompt .declined p none) := leads_reportPrompt _ _ _ (.refl u)
      refine ⟨_, hact, State.leavePrompt_agenda (p := p) hp hidle, State.leavePrompt_prompts _, (leads_leavePrompt p.key hreleased).press rfl,
        ?_, ?_, ?_, ?_⟩
      all_goals rw [State.leavePrompt_frame]; rfl
  case next =>
    intro since target long hpress c ms u isLong
    have hrow := exec_nextRow long hreset
    exact ⟨fun hcursor => hrow.trans (congrArg _ (State.releaseNext_undisplayed hpress hcursor _)),
      fun k hcursor => hrow.trans (congrArg _ (State.releaseNext_displayed hpress hcursor _))⟩

end Sys2Proof.Machine

/-! SUPPORT. DRIVE OFFLINE and DRIVE ONLINE by the state of the drive: what goes on beside the tables, the request and the reel left behind, and what the command answers. -/

namespace Sys2Proof.Machine

open Sys2Proof.Certificates

/-! ## What changes beside the tables -/

/-- `t` is `s` but for what goes on beside the drives, the requests, the moves, the accounts and the reels: the panel, the claims, the line,
the entry cells and the consequences that wait. -/
structure State.Aside (s t : State) : Prop where
  sys : t.sys = s.sys
  drv : t.drv = s.drv
  rm : t.rm = s.rm
  arm : t.arm = s.arm
  acct : t.acct = s.acct
  entries : t.inv.entries = s.inv.entries

/-- The same, and nothing goes out at the port (no report is queued). -/
structure State.Quiet (s t : State) : Prop extends State.Aside s t where
  port : t.port = s.port

theorem State.Aside.trans {s t u : State} (h : s.Aside t) (k : t.Aside u) : s.Aside u :=
  ⟨k.sys.trans h.sys, k.drv.trans h.drv, k.rm.trans h.rm, k.arm.trans h.arm, k.acct.trans h.acct, k.entries.trans h.entries⟩

theorem State.Quiet.refl (s : State) : s.Quiet s := ⟨⟨rfl, rfl, rfl, rfl, rfl, rfl⟩, rfl⟩

theorem State.Quiet.trans {s t u : State} (h : s.Quiet t) (k : t.Quiet u) : s.Quiet u := ⟨h.toAside.trans k.toAside, k.port.trans h.port⟩

section

variable (s : State)

theorem State.quiet_push (w : Work) : s.Quiet (s.push w) := by
  rw [State.push_frame]
  exact ⟨⟨rfl, rfl, rfl, rfl, rfl, rfl⟩, rfl⟩

theorem State.quiet_withdraw (f : Msg → Bool) : s.Quiet (s.withdraw f) := ⟨⟨rfl, rfl, rfl, rfl, rfl, rfl⟩, rfl⟩

theorem State.quiet_updRec (res : Resource) (f : ClaimRec → ClaimRec) : s.Quiet (s.updRec res f) := ⟨⟨rfl, rfl, rfl, rfl, rfl, rfl⟩, rfl⟩

theorem State.quiet_forEach {α : Type} {f : α → State → State} (hf : ∀ a t, State.Quiet t (f a t)) (l : List α) :
    s.Quiet (State.forEach l f s) := by
  unfold State.forEach
  induction l generalizing s with
  | nil => exact .refl s
  | cons a l ih => exact (hf a s).trans (ih (f a s))

theorem State.quiet_withdrawPrompt (k : PromptKey) : s.Quiet (s.withdrawPrompt k) := by
  rw [State.withdrawPrompt_frame]
  exact ⟨⟨rfl, rfl, rfl, rfl, rfl, rfl⟩, rfl⟩

theorem State.quiet_dropAsk (res : Resource) (a : Asker) : s.Quiet (s.dropAsk res a) := by
  unfold State.dropAsk
  split
  · exact .refl s
  · split
    · have hdropped := (s.quiet_updRec res fun c => { c with asks := c.asks.erase a }).trans (State.quiet_push _ .useEnd)
      dsimp only
      split
      · split
        · exact hdropped.trans (State.quiet_withdraw ..)
        · exact (hdropped.trans (State.quiet_withdraw ..)).trans (State.quiet_updRec ..)
      · exact hdropped
    · exact .refl s

theorem State.quiet_dropAsker (a : Asker) : s.Quiet (s.dropAsker a) := s.quiet_forEach (fun _ t => t.quiet_dropAsk _ a) _

theorem State.quiet_emptyCell (c : Nat) : s.Quiet (s.emptyCell c) := by
  have hput : s.Quiet (s.putCell c .empty) := ⟨⟨rfl, rfl, rfl, rfl, rfl, rfl⟩, rfl⟩
  exact hput.trans (State.quiet_push ..)

theorem State.quiet_freeMoveCell (m : Move) : s.Quiet (s.freeMoveCell m) := by
  unfold State.freeMoveCell
  split
  · split
    · exact s.quiet_emptyCell _
    · exact .refl s
  · exact .refl s

theorem State.quiet_moveGone (m : Move) : s.Quiet (s.moveGone m) := (s.quiet_dropAsker _).trans (State.quiet_push ..)

theorem State.quiet_unlink (r : ReqNo) : s.Quiet (s.unlink r) := by
  unfold State.unlink
  split
  · exact .refl s
  next p _ =>
    have hupd : s.Quiet (s.updPrompt p.key fun p => { p with links := p.links.erase r }) := ⟨⟨rfl, rfl, rfl, rfl, rfl, rfl⟩, rfl⟩
    dsimp only
    split
    · exact hupd.trans (State.quiet_withdrawPrompt ..)
    · exact hupd

theorem State.quiet_clearCell (q : Request) : s.Quiet (s.clearCell q) := by
  unfold State.clearCell
  repeat' split
  all_goals first
    | exact .refl s
    | exact s.quiet_push _

theorem State.quiet_clearHatch (q : Request) : s.Quiet (s.clearHatch q) := by
  unfold State.clearHatch
  split
  · exact s.quiet_push _
  · exact .refl s

/-- A YIELD goes out at the line, and where it cannot, its report at the port. -/
theorem State.aside_driveUseEnds (d : Nat) : s.Aside (s.driveUseEnds d) := by
  unfold State.driveUseEnds
  split
  · split
    · unfold State.beginYield State.sendYield
      rw [State.send_frame]
      exact ⟨rfl, rfl, rfl, rfl, rfl, rfl⟩
    · exact (State.Quiet.refl s).toAside
  · exact (State.Quiet.refl s).toAside

/-- Queued moves that leave take nothing along but their asks and cells (R67). -/
theorem State.quiet_removeMoves (p : Move → Bool) : (s.modArm fun a => { a with queue := a.queue.filter fun m => !p m }).Quiet (s.removeMoves p) := by
  unfold State.removeMoves
  dsimp only
  split
  next hnone =>
    have hall : s.arm.queue.filter (fun m => !p m) = s.arm.queue := List.filter_eq_self.mpr fun m hm => by
      cases hp : p m with
      | false => rfl
      | true => exact absurd (List.mem_filter.mpr ⟨hm, hp⟩) (hnone ▸ List.not_mem_nil)
    exact ⟨⟨rfl, rfl, rfl, by rw [State.modArm_arm, hall], rfl, rfl⟩, rfl⟩
  · exact (State.quiet_forEach _ (fun m t => (t.quiet_freeMoveCell m).trans (State.quiet_moveGone ..)) _).trans (State.quiet_push ..)

end

/-! ## A drive goes OFFLINE -/

/-- The record of a drive OFFLINE (R36). -/
def Drive.off (l : Option Serial) (y : Drive) : Drive :=
  { y with state := .offline, loaded := l, serving := none, graceExpiry := none, cleaningEnd := none, cleaningReel := none,
           cleaningStart := none }

theorem State.aside_driveOff (d : Nat) (l : Option Serial) (s : State) : (s.updDrive d (Drive.off l)).Aside (s.driveOff d l) := by
  have hasks : (s.updDrive d (Drive.off l)).Quiet (if l = none then (s.updDrive d (Drive.off l)).dropAsker (.driveUnit d)
      else s.updDrive d (Drive.off l)) := by
    split
    · exact State.quiet_dropAsker ..
    · exact .refl _
  exact (hasks.trans (State.quiet_push _ .useEnd)).toAside.trans (State.aside_driveUseEnds ..)

theorem State.driveUseEnds_of_loaded {d : Nat} {y : Drive} {s : State} (hy : s.findDrive d = some y) (hstate : y.state = .offline)
    (hloaded : y.loaded ≠ none) : s.driveUseEnds d = s := by
  have huse : y.useOver = false := by simp [Drive.useOver, hstate, hloaded]
  cases hres : s.driveRes d with
  | none => simp only [State.driveUseEnds, hy, hres]
  | some res =>
    simp only [State.driveUseEnds, hy, hres, huse]
    rfl

/-- A drive that keeps a reel, and none of whose asks stand, goes OFFLINE and no more (R22, R36). -/
theorem State.driveOff_loaded {d : Nat} {l : Option Serial} {y : Drive} {s : State} (hy : s.findDrive d = some y) (hl : l ≠ none) :
    s.driveOff d l = (s.updDrive d (Drive.off l)).push .useEnd := by
  have hfound : ((s.updDrive d (Drive.off l)).push .useEnd).findDrive d = some (y.off l) := by
    rw [State.push_frame]
    exact (State.findDrive_updDrive (f := Drive.off l) (fun _ => rfl) d s).trans (congrArg _ hy)
  have hoff := State.driveUseEnds_of_loaded hfound rfl hl
  rw [← hoff]
  simp only [State.driveOff, hl, if_false]
  rfl

/-- A local drive without asks goes OFFLINE and no more (R36). -/
theorem State.driveOff_local {d : Nat} {l : Option Serial} {y : Drive} {s : State} (hy : s.findDrive d = some y) (hposition : y.position = .loc)
    (hasks : ∀ c ∈ s.claim.records, Asker.driveUnit d ∉ c.asks) : s.driveOff d l = (s.updDrive d (Drive.off l)).push .useEnd := by
  have hdrop : (s.updDrive d (Drive.off l)).dropAsker (.driveUnit d) = s.updDrive d (Drive.off l) := State.dropAsker_of_none hasks
  have hfound : ((s.updDrive d (Drive.off l)).push .useEnd).findDrive d = some (y.off l) := by
    rw [State.push_frame]
    exact (State.findDrive_updDrive (f := Drive.off l) (fun _ => rfl) d s).trans (congrArg _ hy)
  have hres : ((s.updDrive d (Drive.off l)).push .useEnd).driveRes d = none := by
    rw [State.driveRes, hfound, Option.bind_some, show (y.off l).position = .loc from hposition]
    rfl
  have hends : ((s.updDrive d (Drive.off l)).push .useEnd).driveUseEnds d = (s.updDrive d (Drive.off l)).push .useEnd := by
    simp only [State.driveUseEnds, hfound, hres]
  have hsame : (if l = none then (s.updDrive d (Drive.off l)).dropAsker (.driveUnit d) else s.updDrive d (Drive.off l)) =
      s.updDrive d (Drive.off l) := by
    rw [hdrop, ite_self]
  exact (congrArg (fun t => (State.push .useEnd t).driveUseEnds d) hsame).trans hends

theorem State.posRes_bdrive {p : DrivePos} {res : Resource} {s : State} (h : s.posRes p = some res) : ∃ b i, res = .bdrive b i := by
  unfold State.posRes at h
  split at h
  · exact absurd h nofun
  · exact ⟨_, _, (Option.some.inj h).symm⟩
  · exact ⟨_, _, (Option.some.inj h).symm⟩

/-- A boundary drive EMPTY and held is yielded at once (R22, R129; log entry 76). -/
theorem State.driveOff_yields {d : Nat} {res : Resource} {y : Drive} {c : ClaimRec} {s : State} (hy : s.findDrive d = some y)
    (hres : s.posRes y.position = some res) (hc : s.findRec res = some c) (hholder : c.holder = .self) (hown : c.own = .held)
    (hasks : ∀ c ∈ s.claim.records, Asker.driveUnit d ∉ c.asks) (hcan : CanQueue .yield s) :
    s.driveOff d none = queued (.yield { resource := res, cradle := none })
      (((s.updDrive d (Drive.off none)).push .useEnd).updRec res fun c => { c with own := .yielding }) := by
  have hdrop : (s.updDrive d (Drive.off none)).dropAsker (.driveUnit d) = s.updDrive d (Drive.off none) := State.dropAsker_of_none hasks
  set w := (s.updDrive d (Drive.off none)).push .useEnd with hw
  have hframe : w = { s.updDrive d (Drive.off none) with agenda := w.agenda } := State.push_frame ..
  have hfound : w.findDrive d = some (y.off none) := by
    rw [hframe]
    exact (State.findDrive_updDrive (f := Drive.off none) (fun _ => rfl) d s).trans (congrArg _ hy)
  have hres' : w.driveRes d = some res := by
    rw [State.driveRes, hfound, Option.bind_some, hframe]
    exact hres
  have hheld : w.heldSelf res = true := by
    rw [hframe]
    exact List.any_eq_true.mpr ⟨c, State.mem_of_findRec hc, decide_eq_true ⟨State.findRec_key hc, hholder, hown⟩⟩
  have hyields : w.driveUseEnds d = w.beginYield res := by
    have huse : (y.off none).useOver = true := rfl
    simp only [State.driveUseEnds, hfound, hres', huse, hheld, Bool.and_self, if_true]
  have hcan' : CanQueue .yield (w.updRec res fun c => { c with own := .yielding }) := by
    rw [hframe]
    exact hcan
  have hsend : w.beginYield res = (w.updRec res fun c => { c with own := .yielding }).send (.yield { resource := res, cradle := none }) := by
    have hdrive : ∃ b i, res = .bdrive b i := State.posRes_bdrive hres
    obtain ⟨b, i, rfl⟩ := hdrive
    rfl
  calc s.driveOff d none = w.driveUseEnds d := congrArg (fun t => (State.push .useEnd t).driveUseEnds d) hdrop
    _ = _ := by rw [hyields, hsend, State.send_queued (m := .yield { resource := res, cradle := none }) hcan']

/-! ## DRIVE OFFLINE and DRIVE ONLINE -/

theorem exec_driveOffline (x : Xfer) (d : Nat) (s : State) :
    exec (.driveOffline x d) s = .next (s.hostCommand x 1 .other fun s => s.checkDrive d fun y => .ok ([], s.driveOffline d y)) := rfl

theorem exec_driveOnline (x : Xfer) (d : Nat) (s : State) :
    exec (.driveOnline x d) s = .next (s.hostCommand x 1 .other fun s => s.checkDrive d fun y => s.driveOnline d y) := rfl

section

variable {d : Nat} {y : Drive} {s : State} (hmode : s.sys.mode ≠ .init) (hd : d ≤ 7) (hy : s.findDrive d = some y)

include hmode hd hy

theorem State.checkDrive_named (act : Drive → Answered) (h : ∃ o, s.arm.inFlight = some o ∧ o.loc = .drive d) :
    s.checkDrive d act = .error .notNow := by
  obtain ⟨o, ho, hloc⟩ := h
  have hnamed : s.driveNamed d = true := by simp [State.driveNamed, ho, hloc]
  simp only [State.checkDrive, hmode, Nat.not_lt.mpr hd, hy, hnamed, if_false, if_true]

theorem State.checkDrive_free (act : Drive → Answered) (h : ∀ o, s.arm.inFlight = some o → o.loc ≠ .drive d) :
    s.checkDrive d act = act y := by
  have hnamed : s.driveNamed d = false := by
    cases ho : s.arm.inFlight with
    | none => simp [State.driveNamed, ho]
    | some o => simp [State.driveNamed, ho, h o ho]
  simp only [State.checkDrive, hmode, Nat.not_lt.mpr hd, hy, hnamed, if_false, Bool.false_eq_true]

end

/-! ## The request and the reel of a drive that has gone -/

/-- The record of a request that returns to STANDBY from a drive that has gone; one that waits for room to take its reel in waits on
(R36, R53; log entry 16). -/
def Request.stoodBack (wait : Option MoveKind) (q : Request) : Request :=
  { q with drive := none, roomWait := if wait = some .takeIn then some .takeIn else none, state := .standby, phase := .none,
           windowEnd := none, answers := [] }

theorem State.Quiet.updReq {s t : State} (h : s.Quiet t) (r : ReqNo) (f : Request → Request) : (s.updReq r f).Quiet (t.updReq r f) :=
  ⟨⟨h.sys, h.drv, congrArg (fun m : Rm => { m with queue := m.queue.map fun q : Request => if q.req = r then f q else q }) h.rm, h.arm, h.acct,
    h.entries⟩, h.port⟩

theorem State.quiet_backToStandby (r : ReqNo) (s : State) : (s.updReq r (Request.stoodBack none)).Quiet (s.backToStandby r) := by
  have htwice : s.updReq r (Request.stoodBack none) = (s.updReq r fun q => { q with drive := none, roomWait := none }).updReq r
      fun q => { q with state := .standby, phase := .none, windowEnd := none, answers := [] } :=
    (State.updReq_updReq (f := fun q : Request => { q with drive := none, roomWait := none })
      (g := fun q : Request => { q with state := .standby, phase := .none, windowEnd := none, answers := [] }) (fun _ => rfl) r s).symm
  rw [htwice]
  exact State.quiet_push ..

/-- The request gives up the drive: its queued moves but a TAKE_IN leave, and it stands back (R36, R53). -/
theorem State.driveTaken_waits {r : ReqNo} {q : Request} {s : State} (hq : s.findReq r = some q) (hexpiry : q.hopExpiry = none)
    (hcancel : q.cancelPending = false) :
    ((s.modArm fun a => { a with queue := a.queue.filter fun m => !(decide (m.req = some r) && decide (m.kind ≠ .takeIn)) }).updReq r
      (Request.stoodBack q.roomWait)).Quiet (s.driveTaken r) := by
  have hfree := (s.quiet_removeMoves fun m => decide (m.req = some r) && decide (m.kind ≠ .takeIn)).trans (State.quiet_dropAsker _ (.request r))
  have hback := (hfree.updReq r (Request.stoodBack none)).trans (State.quiet_backToStandby ..)
  simp only [State.driveTaken, hq, hexpiry, hcancel, Option.isSome_none, Bool.false_eq_true, if_false]
  by_cases hwait : q.roomWait = some .takeIn
  · have htwice := (hback.updReq r fun q => { q with roomWait := some .takeIn })
    rw [State.updReq_updReq (f := Request.stoodBack none) fun _ => rfl] at htwice
    rw [if_pos hwait, hwait]
    exact htwice
  · have hsame : Request.stoodBack q.roomWait = Request.stoodBack none := funext fun z => by
      rw [Request.stoodBack, if_neg hwait]
      rfl
    rw [if_neg hwait, hsame]
    exact hback

/-- No reel is in the gripper for the drive. -/
theorem State.driveLostPutAway_none {d : Nat} {s : State} (h : s.gripperFor d = false) : s.driveLostPutAway d = s := by
  simp only [State.driveLostPutAway, h]
  rfl

/-- A reel of this bay in the gripper for the drive goes to its slot, its move still serving the request (R67, R77; log entry 105). -/
theorem State.driveLostPutAway_home {d : Nat} {m : Move} {r : ReqNo} {q : Request} {e : Entry} {s : State} (hm : s.arm.current = some m)
    (hdest : m.dest = .drive d) (hstage : m.stage = .putNext ∨ m.stage = .put) (hreq : m.req = some r) (hq : s.findReq r = some q)
    (hstate : q.state ≠ .moving) (he : s.findEntry m.volume = some e) (hhome : e.home = .here) :
    (s.modArm fun a => { a with
      retryEnd := if m.stage = .put then none else a.retryEnd
      current := some { m with dest := .slot (e.slot.getD 0), purpose := none, stage := .putNext } }).Quiet (s.driveLostPutAway d) := by
  have hgripper : s.gripperFor d = true := by
    rcases hstage with h | h <;> simp [State.gripperFor, hm, hdest, h]
  set t := s.modArm fun a => { a with retryEnd := if a.current.any fun m => decide (m.stage = .put) then none else a.retryEnd } with ht
  have hredirect : t.putAwayMove false false = t.redirect m (.slot (e.slot.getD 0)) none false := by
    have hm' : t.arm.current = some m := hm
    have he' : t.findEntry m.volume = some e := he
    have hreq' : t.moveReq m = some q := by
      rw [State.moveReq, hreq]
      exact hq
    simp only [State.putAwayMove, hm', he', hhome, hreq', hstate, Bool.false_eq_true, false_and, and_false, if_false, Option.isSome_some, if_true]
  have hfree : t.freeMoveCell m = t := by
    rw [State.freeMoveCell, hdest]
  have hput : s.driveLostPutAway d = (t.updCurrent fun m =>
      { m with dest := .slot (e.slot.getD 0), purpose := none, stage := .putNext, afterFailure := m.afterFailure || false }).push .issue := by
    simp only [State.driveLostPutAway, hgripper, if_true]
    rw [← ht, hredirect]
    exact congrArg (fun w => (w.updCurrent fun m : Move =>
      { m with dest := .slot (e.slot.getD 0), purpose := none, stage := .putNext, afterFailure := m.afterFailure || false }).push .issue) hfree
  have hend : (if t.arm.current.any (fun m : Move => decide (m.stage = .put)) then none else s.arm.retryEnd) =
      if m.stage = .put then none else s.arm.retryEnd := by
    rw [show t.arm.current = some m from hm]
    simp
  rw [hput]
  refine State.Quiet.trans ?_ (State.quiet_push ..)
  refine ⟨⟨rfl, rfl, rfl, ?_, rfl, rfl⟩, rfl⟩
  show ({ s.arm with
      retryEnd := if t.arm.current.any fun m : Move => decide (m.stage = .put) then none else s.arm.retryEnd
      current := s.arm.current.map fun m : Move =>
        { m with dest := .slot (e.slot.getD 0), purpose := none, stage := .putNext, afterFailure := m.afterFailure || false } } : Arm) = _
  rw [hend, hm, Option.map_some, Bool.or_false]
  rfl

/-! ## DRIVE OFFLINE and DRIVE ONLINE: what the command leaves to be settled -/

theorem State.withdrawPrompt_of_none {cls : PromptClass} {sub : Subject} {s : State} (h : s.promptStands cls sub = false) :
    s.withdrawPrompt { cls := cls, subject := sub } = s := by
  have hnone : s.findPrompt { cls := cls, subject := sub } = none := Option.isSome_eq_false_iff.mp h |> Option.isNone_iff_eq_none.mp
  rw [State.withdrawPrompt, hnone]

section

variable {x : Xfer} {d : Nat} {y : Drive} {s : State} (hready : Ready x 1 s) (hservice : InService s) (hmode : s.sys.mode ≠ .init)
  (hpart : x.part = 0) (hd : d ≤ 7) (hy : s.findDrive d = some y)

include hready hservice hmode hd hy in
/-- An order in flight that names the drive holds both commands back (R36, R37). -/
theorem exec_drive_named (h : ∃ o, s.arm.inFlight = some o ∧ o.loc = .drive d) :
    exec (.driveOffline x d) s = .next (answered x .notNow [] s) ∧ exec (.driveOnline x d) s = .next (answered x .notNow [] s) := by
  have hcheck := fun act => State.checkDrive_named (s := s.accepted x) (by simpa using hmode) hd (by simpa using hy) act (by simpa using h)
  exact ⟨(exec_driveOffline ..).trans (congrArg _ (State.host_error hready (modeCheck_other hservice) (hcheck _))),
    (exec_driveOnline ..).trans (congrArg _ (State.host_error hready (modeCheck_other hservice) (hcheck _)))⟩

variable (hfree : ∀ o, s.arm.inFlight = some o → o.loc ≠ .drive d)

include hready hservice hmode hpart hd hy hfree

theorem exec_driveOffline_free : exec (.driveOffline x d) s = .next (((s.accepted x).driveOffline d y).reply x .ok []).settle := by
  have hcheck := State.checkDrive_free (s := s.accepted x) (by simpa using hmode) hd (by simpa using hy)
    (fun y => .ok ([], (s.accepted x).driveOffline d y)) (by simpa using hfree)
  rw [exec_driveOffline, State.host_ok (f := fun s => s.checkDrive d fun y => .ok ([], s.driveOffline d y)) hready (modeCheck_other hservice) hcheck
    (asksLast_of_short hpart (by decide)), hpart]
  rfl

theorem exec_driveOnline_free (hstate : y.state = .offline) :
    exec (.driveOnline x d) s = .next
      ((((if y.loaded.isSome then (s.accepted x).driveToIdle d else (s.accepted x).driveToEmpty d).push .issue).reply x .ok []).settle) := by
  have hcheck := State.checkDrive_free (s := s.accepted x) (by simpa using hmode) hd (by simpa using hy)
    (fun y => (s.accepted x).driveOnline d y) (by simpa using hfree)
  rw [State.driveOnline, if_neg (not_not.mpr hstate)] at hcheck
  rw [exec_driveOnline, State.host_ok (f := fun s => s.checkDrive d fun y => s.driveOnline d y) hready (modeCheck_other hservice) hcheck
    (asksLast_of_short hpart (by decide)), hpart]
  rfl

omit hpart in
/-- DRIVE ONLINE is for a drive OFFLINE alone (R37). -/
theorem exec_driveOnline_notOffline (hstate : y.state ≠ .offline) : exec (.driveOnline x d) s = .next (answered x .notNow [] s) := by
  have hcheck := State.checkDrive_free (s := s.accepted x) (by simpa using hmode) hd (by simpa using hy)
    (fun y => (s.accepted x).driveOnline d y) (by simpa using hfree)
  rw [State.driveOnline, if_pos hstate] at hcheck
  rw [exec_driveOnline, State.host_error (f := fun s => s.checkDrive d fun y => s.driveOnline d y) hready (modeCheck_other hservice) hcheck]

/-- EMPTY and GRACE: the drive goes OFFLINE, and nothing else (R36). -/
theorem exec_driveOffline_emptyOrGrace (hstate : y.state = .empty ∨ y.state = .grace)
    (hasks : ∀ c ∈ s.claim.records, Asker.driveUnit d ∉ c.asks) (hprompt : s.promptStands .cleanDrive (.drive d) = false)
    (hkeeps : y.position = .loc ∨ (y.state = .grace ∧ y.loaded ≠ none)) :
    exec (.driveOffline x d) s = .next (State.settle (answered x .ok []
      { s.updDrive d (Drive.off (if y.state = .empty then none else y.loaded)) with agenda := [.useEnd] })) := by
  set l := if y.state = .empty then none else y.loaded with hl
  have hw : (s.accepted x).withdrawPrompt { cls := .cleanDrive, subject := .drive d } = s.accepted x :=
    State.withdrawPrompt_of_none (by rw [State.accepted_eq]; exact hprompt)
  have hy' : (s.accepted x).findDrive d = some y := by simpa using hy
  have hoffline : (s.accepted x).driveOffline d y = (s.accepted x).driveOff d l := by
    unfold State.driveOffline
    rw [hw, hl]
    rcases hstate with hstate | hstate <;> simp [hstate]
  have hoff : (s.accepted x).driveOff d l = ((s.accepted x).updDrive d (Drive.off l)).push .useEnd := by
    rcases hkeeps with hposition | ⟨hgrace, hloaded⟩
    · exact State.driveOff_local hy' hposition (by simpa using hasks)
    · exact State.driveOff_loaded hy' (by rw [hl, hgrace]; exact hloaded)
  have hagenda : ((s.accepted x).updDrive d (Drive.off l)).agenda = [] := (State.accepted_agenda x s).trans hready.2.1
  rw [exec_driveOffline_free hready hservice hmode hpart hd hy hfree, hoffline, hoff, State.push_of_empty hagenda, State.accepted_eq]
  rfl

/-- A boundary drive EMPTY and held goes OFFLINE and is yielded (R22, R129). -/
theorem exec_driveOffline_yields {res : Resource} {c : ClaimRec} (hstate : y.state = .empty) (hres : s.posRes y.position = some res)
    (hc : s.findRec res = some c) (hholder : c.holder = .self) (hown : c.own = .held)
    (hasks : ∀ c ∈ s.claim.records, Asker.driveUnit d ∉ c.asks) (hcan : CanQueue .yield s) :
    ∃ u : State, exec (.driveOffline x d) s = .next u.settle ∧ u.drv = (s.updDrive d (Drive.off none)).drv ∧
      u.claim = (s.updRec res fun c => { c with own := .yielding }).claim ∧
      u.line = (queued (.yield { resource := res, cradle := none }) s).line := by
  set t := (s.accepted x).withdrawPrompt { cls := .cleanDrive, subject := .drive d } with ht
  have hframe : t = { s with port := t.port, panel := t.panel, agenda := t.agenda } := by
    rw [ht, State.withdrawPrompt_frame, State.accepted_eq]
  have hoffline : (s.accepted x).driveOffline d y = t.driveOff d none := by
    unfold State.driveOffline
    rw [hstate]
  have hyields := State.driveOff_yields (s := t) (d := d) (res := res) (y := y) (c := c) (by rw [hframe]; exact hy) (by rw [hframe]; exact hres)
    (by rw [hframe]; exact hc) hholder hown (by rw [hframe]; exact hasks) (by rw [hframe]; exact hcan)
  refine ⟨_, exec_driveOffline_free hready hservice hmode hpart hd hy hfree, ?_, ?_, ?_⟩ <;>
    rw [hoffline, hyields, State.push_frame, hframe] <;> rfl

/-- OFFLINE already (R36). -/
theorem exec_driveOffline_again (hstate : y.state = .offline) (hprompt : s.promptStands .cleanDrive (.drive d) = false) :
    exec (.driveOffline x d) s = .next (answered x .ok [] s) := by
  have hw : (s.accepted x).withdrawPrompt { cls := .cleanDrive, subject := .drive d } = s.accepted x :=
    State.withdrawPrompt_of_none (by rw [State.accepted_eq]; exact hprompt)
  have hoffline : (s.accepted x).driveOffline d y = s.accepted x := by
    unfold State.driveOffline
    rw [hw, hstate]
  rw [exec_driveOffline_free hready hservice hmode hpart hd hy hfree, hoffline, State.accepted_reply,
    State.settle_of_agenda (s := answered x .ok [] s) hready.2.1]

/-- ONLINE without a reel: EMPTY (R37). -/
theorem exec_driveOnline_empty (hstate : y.state = .offline) (hloaded : y.loaded = none) :
    exec (.driveOnline x d) s = .next (State.settle (answered x .ok []
      { s.updDrive d fun z => { z with state := .empty, loaded := none, serving := none, cleaningReel := none } with
        agenda := [.driveEmpty d, .plan, .issue] })) := by
  have hagenda : (s.accepted x).agenda = [] := (State.accepted_agenda x s).trans hready.2.1
  rw [exec_driveOnline_free hready hservice hmode hpart hd hy hfree hstate, hloaded, Option.isSome_none, if_neg Bool.false_ne_true,
    State.driveToEmpty_frame d hagenda, State.push_new (l := [.driveEmpty d, .plan]) rfl (by simp), State.accepted_eq]
  rfl

/-- ONLINE with a reel of this bay: IDLE_LOADED, its STOW queued (R31, R37). -/
theorem exec_driveOnline_stows {v : Serial} {e : Entry} {n : Nat} (hstate : y.state = .offline) (hloaded : y.loaded = some v)
    (hposition : y.position = .loc) (he : s.findEntry v = some e) (hhome : e.home = .here) (hslot : e.slot = some n)
    (hretired : e.retired = false) (hmove : s.hasMove v = false) (hroom : s.arm.queue.length < 8) :
    exec (.driveOnline x d) s = .next (State.settle (answered x .ok []
      { s.updDrive d Drive.idled with
        arm := { s.arm with queue := insertMove (ownMove .stow v (.drive d) (.slot n) s) s.arm.queue }, agenda := [.issue] })) := by
  have hagenda : (s.accepted x).agenda = [] := (State.accepted_agenda x s).trans hready.2.1
  have hstows := State.driveToIdle_stows (s := s.accepted x) (d := d) (by simpa using hy) hposition hloaded (by simpa using he) hhome hslot hretired
    (by rw [State.accepted_eq]; exact hmove) (by simpa using hroom) hagenda
  rw [exec_driveOnline_free hready hservice hmode hpart hd hy hfree hstate, hloaded, Option.isSome_some, if_pos rfl, hstows, State.push,
    if_pos (List.mem_singleton.mpr rfl), State.accepted_eq]
  rfl

end

/-! ## A drive RESERVED, LOADING or IDLE_LOADED goes OFFLINE -/

theorem State.Aside.updDrive {s t : State} (h : s.Aside t) (d : Nat) (f : Drive → Drive) : (s.updDrive d f).Aside (t.updDrive d f) :=
  ⟨h.sys, congrArg (fun v : Drv => { v with drives := v.drives.map fun z : Drive => if z.address = d then f z else z }) h.drv, h.rm, h.arm,
    h.acct, h.entries⟩

/-- The CLEAN_DRIVE prompt leaves and the drive goes OFFLINE, with what that leaves behind (R36). -/
theorem State.aside_withdrawn_driveOff (d : Nat) (l : Option Serial) (s : State) :
    (s.updDrive d (Drive.off l)).Aside ((s.withdrawPrompt { cls := .cleanDrive, subject := .drive d }).driveOff d l) :=
  ((s.quiet_withdrawPrompt _).toAside.updDrive d (Drive.off l)).trans (State.aside_driveOff ..)

/-- The moves of a request that a drive gone OFFLINE leaves queued: its TAKE_IN, and those of others (R36, R53). -/
theorem takenMoves_eq (r : ReqNo) (l : List Move) : l.filter (fun m => !(decide (m.req = some r) && decide (m.kind ≠ .takeIn))) =
    l.filter fun m => decide (m.req ≠ some r) || decide (m.kind = .takeIn) := by
  congr 1
  funext m
  simp only [Bool.not_and, decide_not, Bool.not_not]

section

variable {d : Nat} {y : Drive} {s : State}

/-- RESERVED or LOADING for a request that stands back (R36, R53, R77). -/
theorem State.driveOffline_waits {r : ReqNo} {q : Request} (hstate : y.state = .reserved ∨ y.state = .loading)
    (hserving : y.serving = some (.request r)) (hq : s.findReq r = some q) (hexpiry : q.hopExpiry = none) (hcancel : q.cancelPending = false)
    (hgripper : ∀ m, s.arm.current = some m → m.dest = .drive d → m.stage = .putNext ∨ m.stage = .put →
      m.req = some r ∧ ∃ e, s.findEntry m.volume = some e ∧ e.home = .here) :
    (s.driveOffline d y).drv = (s.updDrive d (Drive.off none)).drv ∧
      (s.driveOffline d y).rm = (s.updReq r (Request.stoodBack q.roomWait)).rm ∧
      (s.driveOffline d y).arm.queue = s.arm.queue.filter (fun m => decide (m.req ≠ some r) || decide (m.kind = .takeIn)) ∧
      ((∀ m, s.arm.current = some m → m.dest ≠ .drive d) → (s.driveOffline d y).arm.current = s.arm.current) ∧
      ∀ m e n, s.arm.current = some m → m.dest = .drive d → m.stage = .putNext ∨ m.stage = .put → s.findEntry m.volume = some e →
        e.slot = some n → (m.stage = .put → (s.driveOffline d y).arm.retryEnd = none) ∧
          (s.driveOffline d y).arm.current = some { m with dest := .slot n, purpose := none, stage := .putNext } := by
  set o := (s.withdrawPrompt { cls := .cleanDrive, subject := .drive d }).driveOff d none with ho
  set t := o.driveTaken r with ht
  have hoffline : s.driveOffline d y = t.driveLostPutAway d := by
    unfold State.driveOffline
    rcases hstate with hstate | hstate <;> simp only [hstate, hserving] <;> rfl
  have hoff : (s.updDrive d (Drive.off none)).Aside o := State.aside_withdrawn_driveOff ..
  have hqo : o.findReq r = some q := by
    rw [State.findReq, hoff.rm]
    exact hq
  have htaken := (State.driveTaken_waits hqo hexpiry hcancel).toAside
  have hdrv : t.drv = (s.updDrive d (Drive.off none)).drv := htaken.drv.trans hoff.drv
  have hrm : t.rm = (s.updReq r (Request.stoodBack q.roomWait)).rm :=
    htaken.rm.trans (congrArg (fun m : Rm =>
      { m with queue := m.queue.map fun z : Request => if z.req = r then Request.stoodBack q.roomWait z else z }) hoff.rm)
  have harm : t.arm = { s.arm with queue := s.arm.queue.filter fun m : Move => decide (m.req ≠ some r) || decide (m.kind = .takeIn) } := by
    rw [← takenMoves_eq]
    exact htaken.arm.trans (congrArg (fun a : Arm =>
      { a with queue := a.queue.filter fun m : Move => !(decide (m.req = some r) && decide (m.kind ≠ MoveKind.takeIn)) }) hoff.arm)
  have hcurrent : t.arm.current = s.arm.current := by rw [harm]
  have hentry : ∀ v, t.findEntry v = s.findEntry v := fun v => by
    rw [State.findEntry, htaken.entries.trans hoff.entries]
    rfl
  rw [hoffline]
  by_cases hfor : ∃ m, s.arm.current = some m ∧ m.dest = .drive d ∧ (m.stage = .putNext ∨ m.stage = .put)
  · obtain ⟨m, hm, hdest, hstage⟩ := hfor
    obtain ⟨hreq, e, he, hhome⟩ := hgripper m hm hdest hstage
    have hback : t.findReq r = some (q.stoodBack q.roomWait) := by
      rw [State.findReq, hrm]
      exact (State.findReq_updReq (f := Request.stoodBack q.roomWait) (fun _ => rfl) r s).trans (congrArg _ hq)
    have haway := (State.driveLostPutAway_home (s := t) (d := d) (hcurrent.trans hm) hdest hstage hreq hback nofun ((hentry _).trans he)
      hhome).toAside
    refine ⟨haway.drv.trans hdrv, haway.rm.trans hrm, ?_, fun hother => absurd hdest (hother m hm), ?_⟩
    · rw [haway.arm]
      exact congrArg Arm.queue harm
    · intro m' e' n hm' _ _ he' hslot
      obtain rfl : m = m' := Option.some.inj (hm.symm.trans hm')
      obtain rfl : e = e' := Option.some.inj (he.symm.trans he')
      rw [haway.arm, hslot]
      exact ⟨fun hput => if_pos hput, rfl⟩
  · have hnone : t.gripperFor d = false := by
      rw [State.gripperFor, hcurrent]
      cases hm : s.arm.current with
      | none => rfl
      | some m =>
        have hnot : ¬(m.dest = .drive d ∧ (m.stage = .putNext ∨ m.stage = .put)) := fun h => hfor ⟨m, hm, h⟩
        simpa using hnot
    rw [State.driveLostPutAway_none hnone]
    exact ⟨hdrv, hrm, congrArg Arm.queue harm, fun _ => hcurrent,
      fun m e n hm hdest hstage _ _ => absurd ⟨m, hm, hdest, hstage⟩ hfor⟩

/-- RESERVED for a cleaning: its CLEAN move leaves the Arm Order Queue (R36). -/
theorem State.driveOffline_cleaningWaits (hstate : y.state = .reserved) (hserving : y.serving = some .cleaning)
    (hother : ∀ m, s.arm.current = some m → m.dest ≠ .drive d) :
    (s.driveOffline d y).drv = (s.updDrive d (Drive.off none)).drv ∧ (s.driveOffline d y).rm = s.rm ∧
      (s.driveOffline d y).arm.queue = s.arm.queue.filter fun m => !(decide (m.kind = .clean) && decide (m.dest = .drive d)) := by
  set o := (s.withdrawPrompt { cls := .cleanDrive, subject := .drive d }).driveOff d none with ho
  set t := o.removeMoves fun m => decide (m.kind = .clean) && decide (m.dest = .drive d) with ht
  have hoffline : s.driveOffline d y = t.driveLostPutAway d := by
    unfold State.driveOffline
    simp only [hstate, hserving]
    rfl
  have hoff : (s.updDrive d (Drive.off none)).Aside o := State.aside_withdrawn_driveOff ..
  have hremoved := (o.quiet_removeMoves fun m => decide (m.kind = .clean) && decide (m.dest = .drive d)).toAside
  have harm : t.arm = { s.arm with queue := s.arm.queue.filter fun m : Move => !(decide (m.kind = .clean) && decide (m.dest = .drive d)) } :=
    hremoved.arm.trans (congrArg (fun a : Arm =>
      { a with queue := a.queue.filter fun m : Move => !(decide (m.kind = MoveKind.clean) && decide (m.dest = Loc.drive d)) }) hoff.arm)
  have hnone : t.gripperFor d = false := by
    rw [State.gripperFor, harm]
    cases hm : s.arm.current with
    | none => simp
    | some m => simp [hother m hm]
  rw [hoffline, State.driveLostPutAway_none hnone]
  exact ⟨hremoved.drv.trans hoff.drv, hremoved.rm.trans hoff.rm, congrArg Arm.queue harm⟩

/-- IDLE_LOADED: the queued moves of its reel leave; one begun stays (R36; log entry 58). -/
theorem State.driveOffline_idleLoaded (hstate : y.state = .idleLoaded) :
    (s.driveOffline d y).drv = (s.updDrive d (Drive.off y.loaded)).drv ∧ (s.driveOffline d y).rm = s.rm ∧
      (s.driveOffline d y).arm.queue = s.arm.queue.filter (fun m => decide (m.source ≠ .drive d)) ∧
      (s.driveOffline d y).arm.current = s.arm.current := by
  set o := (s.withdrawPrompt { cls := .cleanDrive, subject := .drive d }).driveOff d y.loaded with ho
  have hoffline : s.driveOffline d y = o.removeMoves fun m => decide (m.source = .drive d) := by
    unfold State.driveOffline
    simp only [hstate]
    rfl
  have hoff : (s.updDrive d (Drive.off y.loaded)).Aside o := State.aside_withdrawn_driveOff ..
  have hremoved := (o.quiet_removeMoves fun m => decide (m.source = .drive d)).toAside
  have harm : (s.driveOffline d y).arm = { s.arm with queue := s.arm.queue.filter fun m : Move => decide (m.source ≠ .drive d) } := by
    have hfilter : (fun m : Move => !decide (m.source = .drive d)) = fun m => decide (m.source ≠ .drive d) :=
      funext fun m => (decide_not ..).symm
    rw [hoffline, ← hfilter]
    exact hremoved.arm.trans (congrArg (fun a : Arm => { a with queue := a.queue.filter fun m : Move => !decide (m.source = Loc.drive d) }) hoff.arm)
  exact ⟨(congrArg State.drv hoffline).trans (hremoved.drv.trans hoff.drv), (congrArg State.rm hoffline).trans (hremoved.rm.trans hoff.rm),
    congrArg Arm.queue harm, harm ▸ rfl⟩

end

/-! ## A drive MOUNTED or CLEANING goes OFFLINE -/

theorem State.reply_report (x : Xfer) (b : ReportBody) (s : State) : (s.report b).reply x .ok [] = (s.reply x .ok []).report b := by
  unfold State.report State.reply State.modPort
  by_cases h : s.port.reports.length < Config.reportQueueSize <;> simp only [h, if_true, if_false]

theorem State.reply_offerClosed (x : Xfer) (c : ClosedSession) (s : State) :
    (s.offerClosed c).reply x .ok [] = (s.reply x .ok []).offerClosed c := by
  simp only [State.offerClosed, apply_ite (State.reply x .ok []), State.reply_report]
  rfl

/-- What a report puts into the port depends on the port and on Station Time alone. -/
theorem State.report_port {b : ReportBody} {s t : State} (hport : t.port = s.port) (htime : t.acct.stationTime = s.acct.stationTime) :
    (t.report b).port = (s.report b).port := by
  simp only [State.report, State.modPort, hport, htime]

/-- What the close of a session reports depends on the port, the accounts and the Start-Up Block alone. -/
theorem State.offerClosed_port {c : ClosedSession} {s t : State} (hport : t.port = s.port) (hacct : t.acct = s.acct) (hcfg : t.cfg = s.cfg) :
    (t.offerClosed c).port = (s.offerClosed c).port := by
  unfold State.offerClosed
  rw [hacct, hcfg]
  dsimp only
  split
  · split
    · exact State.report_port hport (congrArg Acct.stationTime (by simp only [State.modAcct_acct, hacct]))
    · exact hport
  · simp only [State.modAcct_acct, hacct]
    exact State.report_port hport (by simp only [State.modAcct_acct, hacct])

theorem State.Quiet.modArm {s t : State} (h : s.Quiet t) (f : Arm → Arm) : (s.modArm f).Quiet (t.modArm f) :=
  ⟨⟨h.sys, h.drv, h.rm, congrArg f h.arm, h.acct, h.entries⟩, h.port⟩

/-- The request of a drive that has gone fails: what stands of the drives, the accounts and the port, and its record leaves (R36, R63). -/
theorem State.failRequest_served {r : ReqNo} {q : Request} {code : FailCode} {s : State} (hq : s.findReq r = some q) (hrole : q.role ≠ .takenIn)
    (horigin : r.origin = s.self) (hserved : ∀ w ∈ s.drv.drives, w.serving ≠ some (.request r)) :
    (s.failRequest r code).drv = s.drv ∧ (s.failRequest r code).acct = s.acct ∧
      (s.failRequest r code).port = (s.report (.request r q.jobTag (.failed code))).port ∧
      (s.failRequest r code).rm.queue = s.rm.queue.filter fun p => decide (p.req ≠ r) := by
  obtain rfl : q.req = r := State.findReq_key hq
  set t := (s.report (.request q.req q.jobTag (.failed code))).endReservations q.req with ht
  have htell : s.tellEnd q (.failed code) = s.report (.request q.req q.jobTag (.failed code)) := by
    rw [State.tellEnd, if_neg hrole, State.reqReport, if_pos horigin]
    rfl
  have hnone : t.drv.drives.filter (fun w => decide (w.serving = some (.request q.req))) = [] :=
    List.filter_eq_nil_iff.mpr fun w hw => by simpa using hserved w hw
  have hrelease : t.releaseDrivesOf q.req = t := by
    rw [State.releaseDrivesOf, hnone]
    rfl
  set u := (((t.dropArrival q.req).dropAsker (.request q.req)).unlink q.req).removeMoves fun m => decide (m.req = some q.req) with hu
  have hfree : ((t.dropArrival q.req).modArm fun a => { a with queue := a.queue.filter fun m => !decide (m.req = some q.req) }).Quiet u := by
    have hgone := (State.quiet_dropAsker (t.dropArrival q.req) (.request q.req)).trans (State.quiet_unlink _ q.req)
    exact (hgone.modArm fun a => { a with queue := a.queue.filter fun m => !decide (m.req = some q.req) }).trans (State.quiet_removeMoves ..)
  have hend : s.failRequest q.req code =
      (((if u.holdsReelFor q.req then u.push .putAway else u).clearCell q).clearHatch q).delReq q.req := by
    rw [State.failRequest, State.endRequest, hq]
    dsimp only
    rw [htell, ← ht, hrelease]
  have haway : u.Quiet (((if u.holdsReelFor q.req then u.push .putAway else u).clearCell q).clearHatch q) := by
    refine State.Quiet.trans ?_ ((State.quiet_clearCell ..).trans (State.quiet_clearHatch ..))
    split
    · exact State.quiet_push ..
    · exact .refl _
  have hquiet := hfree.trans haway
  rw [hend]
  exact ⟨hquiet.drv, hquiet.acct, hquiet.port, congrArg (fun m : Rm => m.queue.filter fun p : Request => decide (p.req ≠ q.req)) hquiet.rm⟩

section

variable {d : Nat} {y : Drive} {s : State}

/-- A session closes DRIVE_LOST with error count 0: what stands of the drives, the requests, the accounts and the port, whatever has gone on
beside them (R166). -/
theorem State.closeSession_lost {q : Request} {z : Session} {w : State} (hquiet : s.Quiet w) (hy : s.findDrive d = some y)
    (hz : y.session = some z) (hq : s.findReq z.req = some q) :
    let closed := closedOf s.cfg z q.promptAcks 0 s.acct.stationTime .driveLost
    let t := (s.addCharge z.account closed.charge (z.t0 + z.t1 + z.t2 + z.t3)).offerClosed closed
    let k := w.closeSession d 0 .driveLost
    k.acct = t.acct ∧ k.port = t.port ∧ k.drv = { s.drv with drives := s.drv.drives.map (Drive.closedAt d) } ∧ k.rm = s.rm ∧ k.sys = s.sys := by
  intro closed t k
  have hcfg : w.cfg = s.cfg := congrArg Sys.startup hquiet.sys
  have hyw : w.findDrive d = some y := by
    rw [State.findDrive, hquiet.drv]
    exact hy
  have hqw : w.findReq z.req = some q := by
    rw [State.findReq, hquiet.rm]
    exact hq
  set v := ((w.updDrive d fun y => { y with session := none }).addCharge z.account closed.charge (z.t0 + z.t1 + z.t2 + z.t3)).wearReel z.volume 0
    with hv
  have hclose : k = v.offerClosed closed := by
    simp only [k, State.closeSession, hyw, Option.bind_some, hz, hqw, hcfg, hquiet.acct]
    rfl
  have hacct : v.acct = (s.addCharge z.account closed.charge (z.t0 + z.t1 + z.t2 + z.t3)).acct := State.addCharge_congr _ _ _ hquiet.acct
  refine ⟨?_, ?_, ?_, (State.closeSession_rm ..).trans hquiet.rm, ?_⟩
  · rw [hclose, State.offerClosed_acct, State.offerClosed_acct, hacct, show v.cfg = s.cfg from hcfg]
    rfl
  · rw [hclose]
    exact State.offerClosed_port hquiet.port hacct hcfg
  · rw [State.closeSession_drv hyw hz, hquiet.drv]
  · exact (congrArg Kept.sys (State.kept_closeSession hyw hz)).trans hquiet.sys

/-- MOUNTED: its session closes DRIVE_LOST with error count 0, and its request fails (R36, R166). -/
theorem State.driveOffline_mounted {r : ReqNo} {q : Request} {z : Session} (hy : s.findDrive d = some y) (hstate : y.state = .mounted)
    (hloaded : y.loaded ≠ none) (hserving : y.serving = some (.request r)) (hz : y.session = some z) (hzr : z.req = r)
    (hq : s.findReq r = some q) (hrole : q.role ≠ .takenIn) (horigin : r.origin = s.self)
    (hserved : ∀ w ∈ s.drv.drives, w.serving = some (.request r) → w.address = d) :
    let closed := closedOf s.cfg z q.promptAcks 0 s.acct.stationTime .driveLost
    let t := (s.addCharge z.account closed.charge (z.t0 + z.t1 + z.t2 + z.t3)).offerClosed closed
    (s.driveOffline d y).acct = t.acct ∧ (s.driveOffline d y).port = (t.report (.request r q.jobTag (.failed .driveLost))).port ∧
      (s.driveOffline d y).rm.queue = s.rm.queue.filter (fun p => decide (p.req ≠ r)) ∧
      (s.driveOffline d y).drv =
        { s.drv with drives := (s.drv.drives.map (Drive.closedAt d)).map fun w => if w.address = d then w.off y.loaded else w } := by
  intro closed t
  obtain ⟨hkacct, hkport, hkdrv, hkrm, hksys⟩ :=
    State.closeSession_lost (s.quiet_withdrawPrompt { cls := .cleanDrive, subject := .drive d }) hy hz (hzr ▸ hq)
  set k := (s.withdrawPrompt { cls := .cleanDrive, subject := .drive d }).closeSession d 0 .driveLost with hk
  have hyk : k.findDrive d = some { y with session := none } := by
    rw [State.findDrive, hkdrv]
    exact (find?_map_key Drive.address (f := fun y : Drive => { y with session := none }) (fun _ => rfl) d s.drv.drives).trans
      (congrArg _ hy)
  set o := k.driveOff d y.loaded with ho
  have hoff : (k.updDrive d (Drive.off y.loaded)).Quiet o := by
    rw [ho, State.driveOff_loaded hyk hloaded]
    exact State.quiet_push ..
  have hdrv : o.drv = { s.drv with drives := (s.drv.drives.map (Drive.closedAt d)).map fun w => if w.address = d then w.off y.loaded else w } := by
    rw [hoff.drv, State.updDrive, State.modDrv, hkdrv]
  have hoffline : s.driveOffline d y = o.failRequest r .driveLost := by
    unfold State.driveOffline
    simp only [hstate, hserving]
    rfl
  have hgone : ∀ a ∈ o.drv.drives, a.serving ≠ some (.request r) := by
    rw [hdrv]
    simp only [List.map_map, List.mem_map, Function.comp_apply]
    rintro a ⟨w, hw, rfl⟩
    rw [Drive.closedAt_address]
    split
    next haddress => exact nofun
    next haddress =>
      rw [Drive.closedAt_session d haddress]
      exact fun h => haddress (hserved w hw h)
  obtain ⟨hfdrv, hacct, hport, hqueue⟩ := State.failRequest_served (s := o) (r := r) (q := q) (code := .driveLost)
    (by rw [State.findReq, show o.rm = s.rm from hoff.rm.trans hkrm]; exact hq) hrole
    (by rw [State.self, State.cfg, show o.sys = s.sys from hoff.sys.trans hksys]; exact horigin) hgone
  rw [hoffline]
  refine ⟨hacct.trans (hoff.acct.trans hkacct), hport.trans (State.report_port (hoff.port.trans hkport) ?_), ?_, hfdrv.trans hdrv⟩
  · exact congrArg Acct.stationTime (hoff.acct.trans hkacct)
  · rw [hqueue, show o.rm = s.rm from hoff.rm.trans hkrm]

/-- CLEANING: its cleaning record closes DRIVE_LOST, with charge 0 in account 0 (R34, R36). -/
theorem State.driveOffline_cleaning {v : Serial} {start : Nat} (hy : s.findDrive d = some y) (hstate : y.state = .cleaning)
    (hloaded : y.loaded = some v) (hstart : y.cleaningStart = some start) :
    let closed : ClosedSession :=
      { req := none, origin := s.self, account := 0, volume := v, drive := s.driveId y, start := start, finish := s.acct.stationTime,
        t0 := 0, t1 := 0, t2 := 0, t3 := 0, charge := 0, errors := 0, promptAcks := 0, write := false, hopped := false, remount := false,
        cleaning := true, restartClosed := false, driveLost := true, timeSaturated := false, chargeSaturated := false }
    (s.driveOffline d y).drv = (s.updDrive d (Drive.off (some v))).drv ∧ (s.driveOffline d y).rm = s.rm ∧
      (s.driveOffline d y).acct = ((s.addCharge 0 0 0).offerClosed closed).acct := by
  intro closed
  set w := s.withdrawPrompt { cls := .cleanDrive, subject := .drive d } with hw
  have hquiet : s.Quiet w := s.quiet_withdrawPrompt _
  have hyw : w.findDrive d = some y := by
    rw [State.findDrive, hquiet.drv]
    exact hy
  have hself : w.self = s.self := congrArg (fun y : Sys => y.startup.stationNumber) hquiet.sys
  have hid : w.driveId y = s.driveId y := by
    simp only [State.driveId, State.posRes, hself]
  set k := w.closeCleaning d true with hk
  have hclose : k = ((w.addCharge 0 0 0).wearReel v 0).offerClosed closed := by
    rw [hk, State.closeCleaning, hyw]
    dsimp only
    rw [hloaded, hstart, hself, hid, hquiet.acct]
    rfl
  have hkdrv : k.drv = s.drv := by
    rw [hclose, State.offerClosed_drv]
    exact hquiet.drv
  have hkrm : k.rm = s.rm := by
    rw [hclose, State.offerClosed_rm]
    exact hquiet.rm
  have hcharged : ((w.addCharge 0 0 0).wearReel v 0).acct = (s.addCharge 0 0 0).acct := State.addCharge_congr 0 0 0 hquiet.acct
  have hkacct : k.acct = ((s.addCharge 0 0 0).offerClosed closed).acct := by
    rw [hclose, State.offerClosed_acct, State.offerClosed_acct, hcharged]
    exact congrArg (fun c => (s.addCharge 0 0 0).acct.offered c closed) (congrArg Sys.startup hquiet.sys)
  have hoffline : s.driveOffline d y = k.driveOff d (some v) := by
    unfold State.driveOffline
    simp only [hstate, hloaded]
    rfl
  have hoff := State.aside_driveOff d (some v) k
  rw [hoffline]
  refine ⟨hoff.drv.trans ?_, hoff.rm.trans hkrm, hoff.acct.trans hkacct⟩
  rw [State.updDrive, State.updDrive, State.modDrv, State.modDrv, hkdrv]

end

theorem State.accepted_updDrive (x : Xfer) (d : Nat) (f : Drive → Drive) (s : State) :
    ((s.accepted x).updDrive d f).drv = (s.updDrive d f).drv := by
  rw [State.accepted_eq]
  rfl

theorem State.accepted_updReq (x : Xfer) (r : ReqNo) (f : Request → Request) (s : State) :
    ((s.accepted x).updReq r f).rm = (s.updReq r f).rm := by
  rw [State.accepted_eq]
  rfl

/-- What the close of a session adds and reports does not hang on the transfer's own change of the port, but for the reply. -/
theorem State.reply_accepted_closed (x : Xfer) (n charge secs : Nat) (c : ClosedSession) (s : State) :
    (((s.accepted x).addCharge n charge secs).offerClosed c).reply x .ok [] =
      ((Certificates.answered x .ok [] s).addCharge n charge secs).offerClosed c := by
  rw [State.reply_offerClosed, ← State.accepted_reply]
  rfl

/-- The command's own change, and its reply. -/
theorem exec_driveOffline_changes {x : Xfer} {d : Nat} {y : Drive} {s : State} (hready : Ready x 1 s) (hservice : InService s)
    (hmode : s.sys.mode ≠ .init) (hpart : x.part = 0) (hd : d ≤ 7) (hy : s.findDrive d = some y)
    (hfree : ∀ o, s.arm.inFlight = some o → o.loc ≠ .drive d) {P : State → Prop} (h : P (((s.accepted x).driveOffline d y).reply x .ok [])) :
    ∃ u : State, exec (.driveOffline x d) s = .next u.settle ∧ P u :=
  ⟨_, exec_driveOffline_free hready hservice hmode hpart hd hy hfree, h⟩

/-- Settles O29: by the state of the drive, with the reel and the request that it leaves behind. -/
theorem drivesGoOfflineAndOnline : Obligations.DrivesGoOfflineAndOnline := by
  intro x d y s hready hservice hmode hpart hd hy
  refine ⟨exec_drive_named hready hservice hmode hd hy, fun hfree => ?_⟩
  have hy' : (s.accepted x).findDrive d = some y := by simpa using hy
  refine ⟨fun hstate hasks hprompt hkeeps => ?emptyOrGrace, fun res c hstate hres hc hholder hown hasks hcan => ?yields,
    exec_driveOnline_empty hready hservice hmode hpart hd hy hfree,
    fun v e n hstate hloaded hposition he hhome hslot hretired hmove hroom => ?stows,
    exec_driveOffline_again hready hservice hmode hpart hd hy hfree, ⟨?waits, ?cleaningWaits, ?idleLoaded, ?mounted, ?cleaning⟩,
    exec_driveOnline_notOffline hready hservice hmode hd hy hfree⟩
  case emptyOrGrace => exact exec_driveOffline_emptyOrGrace hready hservice hmode hpart hd hy hfree hstate hasks hprompt hkeeps
  case yields =>
    obtain ⟨u, hexec, hdrv, hclaim, hline⟩ :=
      exec_driveOffline_yields hready hservice hmode hpart hd hy hfree hstate hres hc hholder hown hasks hcan
    exact ⟨u, hexec, congrArg Drv.drives hdrv, congrArg Claim.records hclaim, hline⟩
  case stows =>
    exact exec_driveOnline_stows hready hservice hmode hpart hd hy hfree hstate hloaded hposition he hhome hslot hretired hmove hroom
  case waits =>
    intro r q hstate hserving hq hexpiry hcancel hgripper t
    have hwaits := State.driveOffline_waits (s := s.accepted x) (d := d) hstate hserving (by simpa using hq) hexpiry hcancel
      (by simpa using hgripper)
    refine exec_driveOffline_changes hready hservice hmode hpart hd hy hfree ?_
    rw [State.accepted_updDrive, State.accepted_updReq, State.accepted_arm] at hwaits
    simp only [State.accepted_findEntry] at hwaits
    exact hwaits
  case cleaningWaits =>
    intro hstate hserving hother
    have hwaits := State.driveOffline_cleaningWaits (s := s.accepted x) (d := d) hstate hserving (by simpa using hother)
    refine exec_driveOffline_changes hready hservice hmode hpart hd hy hfree ?_
    rw [State.accepted_updDrive, State.accepted_arm, State.accepted_rm] at hwaits
    exact hwaits
  case idleLoaded =>
    intro hstate
    have hidle := State.driveOffline_idleLoaded (s := s.accepted x) (d := d) hstate
    refine exec_driveOffline_changes hready hservice hmode hpart hd hy hfree ?_
    rw [State.accepted_updDrive, State.accepted_arm, State.accepted_rm] at hidle
    exact hidle
  case mounted =>
    intro r q z hstate hloaded hserving hz hzr hq hrole horigin hserved closed t
    have hmounted := State.driveOffline_mounted (s := s.accepted x) (d := d) hy' hstate hloaded hserving hz hzr (by simpa using hq) hrole
      (by rw [State.accepted_eq]; exact horigin) (by simpa using hserved)
    obtain ⟨hacct, hport, hqueue, hdrv⟩ := hmounted
    have hlost : closedOf s.cfg z q.promptAcks 0 s.acct.stationTime .driveLost = closed := rfl
    rw [State.accepted_cfg, State.accepted_acct, hlost] at hacct hport
    have hclosed := State.reply_accepted_closed x z.account closed.charge (z.t0 + z.t1 + z.t2 + z.t3) closed s
    refine exec_driveOffline_changes hready hservice hmode hpart hd hy hfree ⟨hacct.trans ?_, ?_, ?_, ?_⟩
    · have hsame := congrArg State.acct hclosed
      exact hsame
    · have hreply := congrArg (fun p : Port => { p with reply := { heartbeat := x.heartbeat, code := .ok, words := [] } }) hport
      refine hreply.trans ?_
      have hreport := (State.reply_report x (.request r q.jobTag (.failed .driveLost)) _).trans (congrArg (State.report _) hclosed)
      exact congrArg State.port hreport
    · rw [State.accepted_rm] at hqueue
      exact hqueue
    · rw [State.accepted_drv] at hdrv
      refine hdrv.trans (congrArg (fun l : List Drive => ({ s.drv with drives := l } : Drv)) ?_)
      rw [List.map_map, List.map_map]
      refine List.map_congr_left fun w _ => ?_
      by_cases haddress : w.address = d
      · simp only [Function.comp_apply, Drive.closedAt, haddress, if_true]
        rfl
      · simp only [Function.comp_apply, Drive.closedAt, haddress, if_false]
  case cleaning =>
    intro v start hstate hloaded hstart closed
    have hcleaning := State.driveOffline_cleaning (s := s.accepted x) (d := d) hy' hstate hloaded hstart
    refine exec_driveOffline_changes hready hservice hmode hpart hd hy hfree ?_
    obtain ⟨hdrv, hrm, hacct⟩ := hcleaning
    refine ⟨hdrv.trans (State.accepted_updDrive ..), hrm.trans (State.accepted_rm ..), hacct.trans ?_⟩
    rw [State.offerClosed_acct, State.offerClosed_acct, State.accepted_eq]
    rfl

end Sys2Proof.Machine
